-- ==== Sys2Proof/Word.lean ====
section
/-!
DEFINITION. Word.lean: the part's words. A bit vector stands only for what the manual treats as bits: bytes of a frame,
sets sent as one bit a member (R184), wrapping pitch counts (R3) and station addresses (R101). Every other number is a Nat
or an Int with the range its rule gives.
-/

namespace Sys2Proof

/-- One byte of a frame or a passcode. -/
abbrev Byte := BitVec 8

/-- A pitch count: 0 to 4,294,967,295, wrapping (R3). -/
abbrev Pitch := BitVec 32

/-- A 48-bit station address (R101). -/
abbrev Address := BitVec 48

/-- A set of axes, bit k for axis k (R184). -/
abbrev AxisSet := BitVec 8

/-- A set of cameras, bit k for camera k; bits 6 and 7 name no camera (R184). -/
abbrev CameraSet := BitVec 8

/-- A set of switch ports, bit p - 1 for port p (R184). -/
abbrev PortSet := BitVec 8

/-- A set of watches, bit k for watch k. -/
abbrev WatchSet := BitVec 4

/-- A set of camera tags, bit t for tag t. -/
abbrev TagSet := BitVec 4

/-- Axis number 0 to 7. -/
abbrev AxisNo := Fin 8

/-- Camera number 0 to 5. -/
abbrev CameraNo := Fin 6

/-- Switch port: port p of the manual (1 to 8) is place p - 1. -/
abbrev PortIx := Fin 8

/-- Watch number 0 to 3. -/
abbrev WatchNo := Fin 4

/-- Recipe number 0 to 15. -/
abbrev RecipeNo := Fin 16

/-- Camera tag 0 to 3. -/
abbrev Tag := Fin 4

/-- Microseconds of run time (R156). -/
abbrev RunTime := Nat

end Sys2Proof
end

