-- ==== Sys2Proof/Names.lean ====
section
/-!
DEFINITION. Names.lean: the names the manual gives to modes, results, reasons and reports, one type a list of values, in the
order in which the owning chapter lists them (R184 numbers an enumerated field by that order), and the records that commands
and notices carry.
-/

namespace Sys2Proof

/-- ENC_A or ENC_B (R1). -/
inductive EncoderInput where
  | a | b
deriving DecidableEq, Repr

/-- The count direction of the line geometry (R4). -/
inductive CountDirection where
  | aLeads | bLeads
deriving DecidableEq, Repr

/-- The fill result of a bottle record (R5, R195). -/
inductive FillResult where
  | pending | ok | notFilled | missed | aborted | late
deriving DecidableEq, Repr

/-- A verdict entry of a bottle record (R5, R195). -/
inductive Verdict where
  | pending | ok | ng | timeout | overrun | fault | offline | testing
deriving DecidableEq, Repr

/-- The reason of a reject (R13, R15). -/
inductive RejectReason where
  | fill
  | camera (k : CameraNo)
  | sample
  | untracked
deriving DecidableEq, Repr

/-- How a record left the track (R20). -/
inductive Departure where
  | passed | rejected | lost
deriving DecidableEq, Repr

/-- The eleven line counters (R22). -/
inductive LineCounter where
  | recordsMade | passed | rejectedFill | rejectedCamera | rejectedSample | lost | cleared
  | untrackedAtInfeed | untrackedAtGate | rejectsFailed | encoderErrors
deriving DecidableEq, Repr

/-- The motion states of an axis (02, 2.2). -/
inductive Motion where
  | unhomed | homing | idle | armed | lowering | filling | raising | stopping | stopped | halted | moving
deriving DecidableEq, Repr

/-- The duty of an axis (R43). -/
inductive Duty where
  | auto | manual
deriving DecidableEq, Repr

/-- The retire state of an axis (R68). -/
inductive RetireState where
  | inService | draining | retired
deriving DecidableEq, Repr

/-- The ramp phases of a move (R29); at rest an axis has none. -/
inductive Ramp where
  | accel | cruise | decel
deriving DecidableEq, Repr

/-- The causes of a halt (R36). -/
inductive HaltCause where
  | limit | driveOffline | homeNotFound
deriving DecidableEq, Repr

/-- The modes of AXIS_STOP (R40). -/
inductive StopMode where
  | decelerate | immediate
deriving DecidableEq, Repr

/-- The end causes of AXIS_AT_REST (R47). -/
inductive EndCause where
  | complete | stopped
deriving DecidableEq, Repr

/-- The phases of a fill at which a watch may hold (R57). -/
inductive FillPhase where
  | lowering | filling | raising
deriving DecidableEq, Repr

/-- The phases of an AXIS_PHASE watch (R144). -/
inductive EntryPhase where
  | fill (p : FillPhase)
  | halted
deriving DecidableEq, Repr

/-- The dwell trim modes (R65). -/
inductive TrimMode where
  | auto | pinned
deriving DecidableEq, Repr

/-- The states of a camera channel (04, 4.2). -/
inductive CameraState where
  | offline | ready | faulted | test
deriving DecidableEq, Repr

/-- The causes of CAMERA_STATE (R74). -/
inductive CameraCause where
  | bindingLost | bindingSet | cflt | rearm | testOn | testOff | grantClose
deriving DecidableEq, Repr

/-- The eight counters of a camera (R92). -/
inductive CameraCounter where
  | triggers | ok | ng | timeout | overrun | fault | late | stray
deriving DecidableEq, Repr

/-- UP or DOWN: a port's link, a drive or a camera binding (R38, R97). -/
inductive UpDown where
  | up | down
deriving DecidableEq, Repr

/-- The policy of a switch port (R99). -/
inductive Policy where
  | locked | learn | service
deriving DecidableEq, Repr

/-- NORMAL, WARN, ALARM: a port's error state (R98) and an account's state (R165). -/
inductive AlarmState where
  | normal | warn | alarm
deriving DecidableEq, Repr

/-- The kind of a station entry (R101). -/
inductive StationKind where
  | pinned | learned
deriving DecidableEq, Repr

/-- The role of a station entry, with the unit a DRIVE or CAMERA binds (R101). -/
inductive Role where
  | drive (k : AxisNo)
  | camera (k : CameraNo)
  | panel | other | unknown | serviceTerminal
deriving DecidableEq, Repr

/-- The state of a station entry (R101). -/
inductive StationState where
  | admitted | quarantined | flushing
deriving DecidableEq, Repr

/-- The reason of a forget (R113). -/
inductive ForgetReason where
  | evict | grantClose | flushRequest | policyChange | unpin
deriving DecidableEq, Repr

/-- The seven switch link counters (R119). -/
inductive SwitchCounter where
  | badCheck | badMessage | queriesTaken | queriesDiscarded | learnRefused | unmatchedDone | forgetsExpired
deriving DecidableEq, Repr

/-- Why a switch link frame is bad (R95): abandoned for its length byte or a gap, or complete with the bytes given, from
the length byte to the second check byte. -/
inductive BadFrame where
  | abandoned
  | complete (bytes : List Byte)
deriving DecidableEq, Repr

/-- The scope of a STATION_FLUSH as its payload carries it (R112): an address, a port number, ALL, or a code outside the
list. -/
inductive FlushScope where
  | address (a : Address)
  | port (p : Nat)
  | all
  | unknown (code : Nat)
deriving DecidableEq, Repr

/-- OPEN or CLOSING (R129). -/
inductive GrantState where
  | opened | closing
deriving DecidableEq, Repr

/-- The close cause of a grant (R129). -/
inductive CloseCause where
  | request | expiry
deriving DecidableEq, Repr

/-- The close result of a grant (R129). -/
inductive CloseResult where
  | clean | unconfirmed
deriving DecidableEq, Repr

/-- The fifteen accounts by the unit they count (R165). -/
inductive Account where
  | axis (k : AxisNo)
  | camera (k : CameraNo)
  | gate
deriving DecidableEq, Repr

/-- The cause of ACCOUNT_STATE (R167). -/
inductive AccountCause where
  | count | config | reset
deriving DecidableEq, Repr

/-- The actions of a watch (R144). -/
inductive WatchAction where
  | notice | sample | hold | withdraw
deriving DecidableEq, Repr

/-- The scope of a watch (R145). -/
inductive WatchScope where
  | global
  | localTo (grant : Nat)
deriving DecidableEq, Repr

/-- The stage of a SERIAL watch (R144). -/
inductive Stage where
  | infeed | fillStart
  | camera (k : CameraNo)
  | gate
deriving DecidableEq, Repr

/-- The kind of a watch with its operands (R144). -/
inductive WatchKind where
  | serial (s : Nat) (stage : Stage)
  | axisPhase (k : AxisNo) (phase : EntryPhase)
  | cameraNg (k : CameraNo) (n : Nat)
  | station (a : Address)
deriving DecidableEq, Repr

/-- The kind and operands of a WATCH_SET as its payload carries them, before any range check (R145). -/
inductive WatchOperands where
  | serial (s stage : Nat)
  | axisPhase (axis phase : Nat)
  | cameraNg (camera n : Nat)
  | station (a : Address)
  | unknown (code : Nat)
deriving DecidableEq, Repr

/-- The subject of a hit (R148). -/
inductive WatchSubject where
  | serial (s : Nat) (stage : Stage) (departure : Option (Departure × Option RejectReason))
  | axisPhase (k : AxisNo) (phase : EntryPhase) (serial : Option Nat) (holds : Bool) (cause : Option HaltCause)
  | cameraNg (k : CameraNo) (n serial : Nat)
  | station (a : Address) (port : PortIx) (admits : Bool)
deriving DecidableEq, Repr

/-- The reports from which the ACU takes hits and keeps its holder table (R147, R151). -/
inductive Report where
  | newRecord (serial : Nat)
  | fillStart (axis : AxisNo) (serial : Nat)
  | lineStage (serial : Nat) (camera : CameraNo)
  | departure (serial : Nat) (how : Departure) (reason : Option RejectReason)
  | phaseEntry (axis : AxisNo) (phase : FillPhase) (serial : Nat) (holder : Option WatchNo)
  | holdAfterRelease (axis : AxisNo) (phase : FillPhase) (serial : Nat) (holder : WatchNo)
  | release (axis : AxisNo) (watch : WatchNo)
  | halt (axis : AxisNo) (cause : HaltCause) (before : Motion)
  | verdict (serial : Nat) (camera : CameraNo) (v : Verdict)
  | query (a : Address) (port : PortIx) (admits : Bool)
deriving DecidableEq, Repr

/-- The reports from which the ACU keeps its grants (R105, R137, R138). -/
inductive GrantReport where
  | axesInMotion (id : Nat) (axes : AxisSet)
  | homingStarted (axis : AxisNo)
  | atRest (axis : AxisNo) (motion : Motion)
  | closingForgets (id : Nat) (count : Nat)
  | resolvedDone (id : Nat) (left : Nat)
  | resolvedExpired (id : Nat) (left : Nat)
  | terminals (id : Nat) (count : Nat)
deriving DecidableEq, Repr

/-- A fill report's item (R9). -/
inductive FillItem where
  | axis (k : AxisNo)
  | result (r : FillResult)
deriving DecidableEq, Repr

/-- The states of the hall clock (08, 8.2). -/
inductive ClockState where
  | unset | free | locked | holdover
deriving DecidableEq, Repr

/-- The cause of CLOCK_STATE (R184). -/
inductive ClockCause where
  | timeSet | mark | holdover
deriving DecidableEq, Repr

/-- The sixteen fault sources (R173). -/
inductive FaultSource where
  | restarted | rejectFailed | trackFull | trackReverse | axisHalted | cameraOffline | cameraFaulted | cameraOverdue
  | gateOverdue | portErrors | flushUnconfirmed | clockHoldover | tempStale | watchStop | storeFailed | switchQueue
deriving DecidableEq, Repr

/-- The latch mode of a fault source (R176). -/
inductive LatchMode where
  | live | latch
deriving DecidableEq, Repr

/-- The sort of raise a FAULT reports (R178). -/
inductive Raise where
  | activation | latch
deriving DecidableEq, Repr

/-- The cause of PERMIT_CHANGED (R177). -/
inductive PermitCause where
  | activation | expiry | latch | deactivation | ack | config
deriving DecidableEq, Repr

/-- The banks of the store (11). -/
inductive BankName where
  | a | b
deriving DecidableEq, Repr, Inhabited

/-- The kinds of save (R199, R200). -/
inductive SaveKind where
  | save | accountSave
deriving DecidableEq, Repr

/-- The receive states of the LNK (R183). -/
inductive ReceiveState where
  | hunting | inFrame
deriving DecidableEq, Repr

/-- The eight link counters (R192). -/
inductive LinkCounter where
  | framingErrors | badCheck | badClass | overrunDrops | requestsTaken | repliesSent | noticesPosted | noticesDropped
deriving DecidableEq, Repr

/-- The status of a reply (R187). -/
inductive Status where
  | ok | accepted | refused
deriving DecidableEq, Repr

/-- The refusal reasons of R187. -/
inductive Reason where
  | unknownMessage | badLength | badValue | level | noGrant | state | busy | full | notFound | lockedOut
deriving DecidableEq, Repr

/-- The result of one member of a set (R39, R187). -/
inductive MemberResult where
  | ok | accepted
  | refused (r : Reason)
  | fault | overrun
deriving DecidableEq, Repr

/-- One record of a pitch event announcement (R3). -/
structure Announced where
  serial : Nat
  position : Nat
  recipe : RecipeNo
deriving DecidableEq, Repr

/-- The eight values of a RECIPE_WRITE as its payload carries them, before any range check (R50). -/
structure RecipeValues where
  stroke : Nat
  startSpeed : Nat
  topSpeed : Nat
  acceleration : Nat
  dwellBase : Nat
  trimEnable : Nat
  window : Nat
  cameras : CameraSet
deriving DecidableEq, Repr

/-- The three numbers of a motion profile (02, 2.3). -/
structure Profile where
  startSpeed : Nat
  topSpeed : Nat
  acceleration : Nat
deriving DecidableEq, Repr

/-- The kinds of notice with their subjects (R197). -/
inductive Notice where
  | permitChanged (level : Bool) (source : FaultSource) (cause : PermitCause) (inEffect : BitVec 16)
  | fault (source : FaultSource) (raise : Raise) (enable : Bool) (mode : LatchMode) (extension : Nat) (inEffect : Bool)
  | axisHalted (axis : AxisNo) (cause : HaltCause) (before : Motion)
  | axisAtRest (axis : AxisNo) (motion : Motion) (cause : EndCause) (position : Option Int)
  | homeDone (axis : AxisNo)
  | cameraState (camera : CameraNo) (previous new : CameraState) (cause : CameraCause)
  | strayVerdict (camera : CameraNo) (tag : Tag) (ng : Bool)
  | testVerdict (camera : CameraNo) (tag : Tag) (ng : Bool) (triggered : Option Nat)
  | stationStranger (a : Address) (port : PortIx) (way : Fin 4)
  | stationMoved (a : Address) (entryPort queryPort : PortIx) (role : Role)
  | tableFull (a : Address) (port : PortIx) (set : Fin 16)
  | forgetExpired (a : Address) (port : PortIx) (reason : ForgetReason) (grant : Option Nat)
  | grantClosed (id level : Nat) (cause : CloseCause) (result : CloseResult) (forgetsExpired : Nat) (openedAt : RunTime)
  | levelDropped (before : Nat)
  | watchHit (watch : WatchNo) (kind : WatchKind) (action : WatchAction) (count : Nat) (subject : WatchSubject)
  | accountState (account : Account) (previous new : AlarmState) (count : Nat) (cause : AccountCause)
  | clockState (previous new : ClockState) (cause : ClockCause) (offset : Option Int)
  | clockStep (byMark : Bool) (offset : Int)
  | storeDone (operation : SaveKind) (ok : Bool) (dirty : Bool) (inUse : Option BankName) (sequence : BitVec 32)
  | overflow (dropped firstKind : Nat) (latest : RunTime)
deriving DecidableEq, Repr

/-- The messages the part sends on STX (R95). -/
inductive SwitchMessage where
  | answer (a : Address) (port : PortIx) (admits : Bool)
  | forget (a : Address)
  | forgetAll
  | portBlock (port : PortIx)
  | portOpen (port : PortIx)
deriving DecidableEq, Repr

end Sys2Proof
end

