-- ==== Sys2Proof/Syntax.lean ====
section
/-!
DEFINITION. Syntax.lean: the commands of the part, one constructor for each row of spec/opcode_table.json, in the table's
order. A request carries the numbers its payload carries, before any range check (R184, R186); an event or a report carries
what its rule says it names.
-/

namespace Sys2Proof

/-- A command: an event, a report between blocks, or a request at its owner. -/
inductive Instr where
  /-- PIN_RESET (R203): RESET_N goes low. -/
  | pinReset
  /-- RESET_RELEASE (R203): RESET_N rises. -/
  | resetRelease
  /-- START_UP_COMPLETE (R203), with the levels ENC_A and ENC_B have at that point (R1). -/
  | startUpComplete (encA encB : Bool)
  /-- STEP_EVENT (R1, R2): the encoder input named changes its level. -/
  | stepEvent (input : EncoderInput)
  /-- ENCODER_ERROR (R1): both encoder inputs change together. -/
  | encoderError
  /-- GATE_PULSE_EXPIRY (R14). -/
  | gatePulseExpiry
  /-- FILL_REPORT (R9). -/
  | fillReport (serial : Nat) (item : FillItem)
  /-- VERDICT_REPORT (R10). -/
  | verdictReport (serial : Nat) (camera : CameraNo) (verdict : Verdict)
  /-- WATCH_REPORT (R11). -/
  | watchReport (serial : Nat) (watch : WatchNo) (sample : Bool)
  /-- LINE_GEOMETRY (R4). -/
  | lineGeometry (gateOffset stepsPerPitch pulseMs direction : Nat)
  /-- LINE_CLEAR (R21). -/
  | lineClear
  /-- LINE_STATUS (R23). -/
  | lineStatus
  /-- TRACK_READ (R23). -/
  | trackRead (serial : Nat)
  /-- REJECT_LOG_READ (R24). -/
  | rejectLogRead (start : Nat)
  /-- ASSIGNMENT_ARBITER (R53): the new record the LTR announces (R7). -/
  | assignmentArbiter (serial : Nat) (recipe : RecipeNo) (infeedPitch : Pitch)
  /-- FMU_PITCH_EVENT (R55): the announcement of R3. -/
  | fmuPitchEvent (pitch : Pitch) (records : List Announced)
  /-- FILL_WINDOW_EXPIRY (R62), at the pitch count named. -/
  | fillWindowExpiry (axis : AxisNo) (pitch : Pitch)
  /-- DWELL_EXPIRY (R59). -/
  | dwellExpiry (axis : AxisNo)
  /-- STEP_PULSE (R29). -/
  | stepPulse (axis : AxisNo)
  /-- MOVE_COMPLETE (R30). -/
  | moveComplete (axis : AxisNo)
  /-- HOMING_TRAVEL_EXHAUSTED (R34). -/
  | homingTravelExhausted (axis : AxisNo)
  /-- HOME_FOUND (R34): HOME becomes active. -/
  | homeFound (axis : AxisNo)
  /-- LIMIT_ACTIVE (R35): LIMIT becomes active. -/
  | limitActive (axis : AxisNo)
  /-- DRIVE_BINDING_CHANGE (R38). -/
  | driveBindingChange (axis : AxisNo) (binding : UpDown)
  /-- VALVE_TEST_EXPIRY (R46). -/
  | valveTestExpiry (axis : AxisNo)
  /-- AXIS_HOME (R33). -/
  | axisHome (axes : AxisSet)
  /-- CLEAR_HALT (R37). -/
  | clearHalt (axes : AxisSet)
  /-- AXIS_STOP (R40). -/
  | axisStop (axes : AxisSet) (mode notify : Nat)
  /-- AXIS_STATUS (R41). -/
  | axisStatus (axes : AxisSet)
  /-- AXIS_CONFIG (R42). -/
  | axisConfig (axis startOffset startSpeed topSpeed acceleration homingLimit : Nat)
  /-- AXIS_DUTY (R43, R135). -/
  | axisDuty (axes : AxisSet) (grant duty : Nat)
  /-- AXIS_MOVE (R44): one target a member, in ascending member order. -/
  | axisMove (axes : AxisSet) (grant : Nat) (targets : List Int)
  /-- AXIS_JOG (R45). -/
  | axisJog (axes : AxisSet) (grant direction : Nat)
  /-- VALVE_TEST (R46). -/
  | valveTest (axes : AxisSet) (grant durationMs : Nat)
  /-- FMU_DEPARTURE (R64). -/
  | fmuDeparture (serial : Nat)
  /-- FMU_LINE_CLEAR (R64). -/
  | fmuLineClear
  /-- HOLD_LIST_ADD (R63). -/
  | holdListAdd (axis : AxisNo) (watch : WatchNo) (phase : FillPhase)
  /-- HOLD_LIST_REMOVE (R63). -/
  | holdListRemove (axis : AxisNo) (watch : WatchNo)
  /-- HOLD_RELEASE (R152). -/
  | holdRelease (axis : AxisNo) (watch : WatchNo)
  /-- ACCOUNT_ALARM_ENTRY (R68). -/
  | accountAlarmEntry (axis : AxisNo)
  /-- ACCOUNT_ALARM_EXIT (R69). -/
  | accountAlarmExit (axis : AxisNo)
  /-- FMU_GRANT_CLOSING_START (R137). -/
  | fmuGrantClosingStart (grant : Nat) (axes : AxisSet)
  /-- FMU_GRANT_COMPLETION (R139). -/
  | fmuGrantCompletion (axes : AxisSet)
  /-- RECIPE_WRITE (R50). -/
  | recipeWrite (number : Nat) (values : RecipeValues)
  /-- RECIPE_SELECT (R51). -/
  | recipeSelect (number : Nat)
  /-- RECIPE_READ (R51). -/
  | recipeRead (number : Nat)
  /-- TRIM_WRITE (R66). -/
  | trimWrite (first : Nat) (trims : List Int)
  /-- TRIM_MODE (R66). -/
  | trimMode (mode : Nat) (index : Option Nat)
  /-- TRIM_READ (R66). -/
  | trimRead
  /-- PRODUCT_TEMP (R67). -/
  | productTemp (temperature : Int)
  /-- TEMP_DEADLINE_EXPIRY (R67). -/
  | tempDeadlineExpiry
  /-- FILL_STATUS (R70). -/
  | fillStatus
  /-- CTU_PITCH_EVENT (R76): the announcement of R3. -/
  | ctuPitchEvent (pitch : Pitch) (records : List Announced)
  /-- VERDICT_WINDOW_EXPIRY (R84), at the pitch count named. -/
  | verdictWindowExpiry (camera : CameraNo) (pitch : Pitch)
  /-- LINE_TRIGGER (R77, R78): the step-in-pitch count the LTR hands over. -/
  | lineTrigger (count : Nat)
  /-- TRIGGER_PULSE_END (R72). -/
  | triggerPulseEnd (camera : CameraNo)
  /-- VERDICT_ARRIVAL (R73, R82): RNG and the returned tag at the edge of RSTB. -/
  | verdictArrival (camera : CameraNo) (ng : Bool) (tag : Tag)
  /-- CAMERA_BINDING_CHANGE (R86, R87). -/
  | cameraBindingChange (camera : CameraNo) (binding : UpDown)
  /-- CTU_DEPARTURE (R85). -/
  | ctuDeparture (serial : Nat)
  /-- CTU_LINE_CLEAR (R85). -/
  | ctuLineClear
  /-- ACTIVE_CAMERA_SET_REPORT (R74). -/
  | activeCameraSetReport (cameras : CameraSet)
  /-- CTU_GRANT_CLOSING_START (R91). -/
  | ctuGrantClosingStart (grant : Nat)
  /-- CAMERA_CONFIG (R75). -/
  | cameraConfig (camera pitchOffset stepOffset window : Nat)
  /-- CAMERA_REARM (R88). -/
  | cameraRearm (cameras : CameraSet)
  /-- CAMERA_TEST (R89). -/
  | cameraTest (cameras : CameraSet) (grant switch : Nat)
  /-- TEST_TRIGGER (R90). -/
  | testTrigger (cameras : CameraSet) (grant : Nat)
  /-- CAMERA_STATUS (R93). -/
  | cameraStatus (cameras : CameraSet)
  /-- SWITCH_BAD_FRAME (R95). -/
  | switchBadFrame (frame : BadFrame)
  /-- QUERY (R96), with the tag of its frame. -/
  | query (address : Address) (port : Nat) (tag : Byte)
  /-- ANSWER (R103): the SWS takes the oldest query. -/
  | answer
  /-- LINK_REPORT (R97). -/
  | linkReport (port : Nat) (link : UpDown)
  /-- ERROR_REPORT (R98). -/
  | errorReport (port count : Nat)
  /-- FORGET_DONE (R114). -/
  | forgetDone (address : Address)
  /-- FORGET_EXPIRY (R115), of the forget list entry with the address named. -/
  | forgetExpiry (address : Address)
  /-- FIRST_SETTING (R110). -/
  | firstSetting
  /-- PORT_CONFIG (R99). -/
  | portConfig (port policy warn alarm : Nat)
  /-- STATION_PIN (R106). -/
  | stationPin (address : Address) (port role : Nat) (unitNo : Option Nat)
  /-- STATION_UNPIN (R107). -/
  | stationUnpin (address : Address)
  /-- STATION_QUARANTINE (R108). -/
  | stationQuarantine (address : Address)
  /-- STATION_RELEASE (R108). -/
  | stationRelease (address : Address)
  /-- STATION_LOOKUP (R111). -/
  | stationLookup (address : Address)
  /-- STATION_READ (R111). -/
  | stationRead (set : Nat)
  /-- STATION_FLUSH (R112). -/
  | stationFlush (scope : FlushScope)
  /-- PORT_UNBLOCK (R116). -/
  | portUnblock (port : Nat)
  /-- SWITCH_STATUS (R119). -/
  | switchStatus
  /-- FORGET_READ (R119). -/
  | forgetRead (start : Nat)
  /-- SWS_GRANT_OPENED (R117). -/
  | swsGrantOpened (grant : Nat) (ports : PortSet)
  /-- SWS_GRANT_CLOSING_START (R117). -/
  | swsGrantClosingStart (grant : Nat)
  /-- SWS_GRANT_CLOSED (R117). -/
  | swsGrantClosed (grant : Nat)
  /-- UNLOCK (R123). -/
  | unlock (level : Nat) (passcode : List Byte)
  /-- LOCKOUT_EXPIRY (R124). -/
  | lockoutExpiry
  /-- LOCK (R126). -/
  | lock
  /-- IDLE_DEADLINE_EXPIRY (R122). -/
  | idleDeadlineExpiry
  /-- PASSCODE_SET (R127); no passcode stands for UNSET. -/
  | passcodeSet (level : Nat) (passcode : Option (List Byte))
  /-- GRANT_OPEN (R130). -/
  | grantOpen (level : Nat) (axes : AxisSet) (cameras : CameraSet) (ports : PortSet) (gate minutes : Nat)
  /-- GRANT_EXTEND (R132). -/
  | grantExtend (grant minutes : Nat)
  /-- GRANT_EXPIRY (R133), of the grant in the slot named. -/
  | grantExpiry (slot : Fin 4)
  /-- GRANT_CLOSE (R134). -/
  | grantClose (grant : Nat)
  /-- CLOSING_REPORT (R138). -/
  | closingReport (report : GrantReport)
  /-- ACCOUNT_RESET (R141). -/
  | accountReset (grant account : Nat)
  /-- ACCESS_STATUS (R142). -/
  | accessStatus
  /-- GRANT_READ (R142). -/
  | grantRead
  /-- WATCH_SET (R145): scope 0 GLOBAL, 1 LOCAL with the grant id. -/
  | watchSet (watch : Nat) (operands : WatchOperands) (action scope grant enable : Nat)
  /-- WATCH_CLEAR (R146): scope 0 GLOBAL, 1 LOCAL with the grant id. -/
  | watchClear (watch scope grant : Nat)
  /-- ACU_REPORT (R147, R151). -/
  | acuReport (report : Report)
  /-- AXIS_RESUME (R152). -/
  | axisResume (axes : AxisSet)
  /-- WATCH_ACK (R154). -/
  | watchAck (watch : Nat)
  /-- WATCH_READ (R154). -/
  | watchRead
  /-- TIME_SET (R159). -/
  | timeSet (hall : Nat)
  /-- TIME_MARK (R160, R161). -/
  | timeMark (hall : Nat)
  /-- PHASE_TERM_EXPIRY (R161). -/
  | phaseTermExpiry
  /-- HOLDOVER_EXPIRY (R163). -/
  | holdoverExpiry
  /-- CLOCK_STATUS (R164). -/
  | clockStatus
  /-- ACCOUNT_COUNT (R166). -/
  | accountCount (account : Account)
  /-- ACCOUNT_CONFIG (R168). -/
  | accountConfig (account warn alarm : Nat)
  /-- ACCOUNT_READ (R170). -/
  | accountRead
  /-- ACCOUNT_SAVE_EXPIRY (R171). -/
  | accountSaveExpiry
  /-- ACCOUNT_SAVE_COMPLETE (R200): whether the bank reads back whole. -/
  | accountSaveComplete (whole : Bool)
  /-- SOURCE_ACTIVATION (R174). -/
  | sourceActivation (source : FaultSource)
  /-- SOURCE_DEACTIVATION (R174). -/
  | sourceDeactivation (source : FaultSource)
  /-- EVENT_SOURCE_LATCH (R175). -/
  | eventSourceLatch (source : FaultSource)
  /-- EXTENSION_EXPIRY (R176). -/
  | extensionExpiry (source : FaultSource)
  /-- FAULT_ACK (R179). -/
  | faultAck (sources : List Nat)
  /-- PERMIT_CONFIG (R180). -/
  | permitConfig (source enable mode extension : Nat)
  /-- PERMIT_STATUS (R181). -/
  | permitStatus
  /-- REQUEST_FRAME (R183): the bytes of the frame from the length byte to the second check byte. -/
  | requestFrame (bytes : List Byte)
  /-- FRAME_GAP_TIMEOUT (R183). -/
  | frameGapTimeout
  /-- REQUEST_TAKEN (R186). -/
  | requestTaken
  /-- REPLY_SENT (R186). -/
  | replySent
  /-- FETCH_NOTICES (R191). -/
  | fetchNotices (largest : Nat)
  /-- IDENTITY (R192). -/
  | identity
  /-- SAVE (R199). -/
  | save
  /-- SAVE_COMPLETE (R199): whether the bank reads back whole. -/
  | saveComplete (whole : Bool)
  /-- SOFT_RESET (R202). -/
  | softReset
  /-- SYNC_FOUND (R183): a byte of 0xA5 on CRX. -/
  | syncFound
  /-- FRAME_ABANDONED_FOR_LENGTH (R183), with the length byte. -/
  | frameAbandonedForLength (length : Byte)
deriving DecidableEq, Repr

end Sys2Proof
end

