-- ==== Sys2Proof/Decode.lean ====
section
/-!
DEFINITION. Decode.lean: the commands that a word of spec/opcode_table.json spells. No row of the table gives bits (every
"fields" is empty), so no word spells a command. How a request FRAME is read is in Machine/Operands.lean.
-/

namespace Sys2Proof

/-- The command that the low nbits of w spell by the table's bits: none, as no row has bits. -/
def decodeTableWord (_nbits _w : Nat) : Option Instr := none

end Sys2Proof
end

