-- ==== Sys2Proof/Config.lean ====
section
/-!
DEFINITION. Config.lean: what the manual fixes for the part (lengths and intervals, each with its rule) and the free values,
which the manual leaves open: constants with no body, of which nothing can be proved (log 5).
-/

namespace Sys2Proof.Config

/-- Records the bottle track holds at most (R5). -/
def trackCapacity : Nat := 128

/-- Entries the reject log holds at most (R15). -/
def rejectLogCapacity : Nat := 16

/-- The largest reverse debt (R2). -/
def debtLimit : Nat := 65535

/-- The largest serial (R6). -/
def lastSerial : Nat := 4294967295

/-- The top of a 32-bit count (R92, R119, R164, R165, R192). -/
def top32 : Nat := 4294967295

/-- The top of a 64-bit count (R22, R157). -/
def top64 : Nat := 18446744073709551615

/-- Forgets the forget list holds at most before the room rule refuses another (R113). -/
def forgetRoom : Nat := 15

/-- Queries the query queue holds at most (R96). -/
def queryCapacity : Nat := 8

/-- Frames the input queue holds at most (R185). -/
def inputCapacity : Nat := 4

/-- Ordinary notices join while the queue holds this many or fewer (R189). -/
def noticeRoom : Nat := 30

/-- Terminals a grant admits at most (R105). -/
def terminalLimit : Nat := 4

/-- One millisecond of run time. -/
def ms : RunTime := 1000

/-- One second of run time. -/
def sec : RunTime := 1000000

/-- One minute of run time. -/
def minute : RunTime := 60000000

/-- The TRIG pulse (R72). -/
def triggerPulse : RunTime := 20

/-- From a change of DIR, which a move makes at its beginning, to the first pulse (R26; log 7). -/
def firstPulseWait : RunTime := 10

/-- The temperature deadline (R67). -/
def temperatureWait : RunTime := 60 * sec

/-- The wait for the first setting of bindings (R110). -/
def firstSettingWait : RunTime := 2 * sec

/-- The life of an unconfirmed forget (R115). -/
def forgetLife : RunTime := 2 * sec

/-- The idle drop of the access level (R122). -/
def idleWait : RunTime := 15 * minute

/-- The lockout (R124). -/
def lockoutLength : RunTime := 60 * sec

/-- The phase term of the hall clock (R161). -/
def phaseTermLength : RunTime := 8 * sec

/-- Holdover detection (R160, R161). -/
def holdoverWait : RunTime := 3 * sec

/-- The interval of the automatic account save (R171). -/
def accountSaveInterval : RunTime := 60 * minute

/-- One tenth of a second, the unit of an extension (R180). -/
def tenth : RunTime := 100000

/-- The largest offset, either way, that slews (R161). -/
def slewLimit : Int := 1000

/-- The limit of the frequency term and of the rate correction, in ppb (R157, R161). -/
def rateLimit : Int := 100000

/-- The lowest effective dwell, in ms (R65). -/
def dwellFloor : Int := 10

/-- FREE VALUE: what a 64-bit line counter reads once it would pass its top (R22 gives no count beyond it; log 5). -/
opaque countPastTop (draw : Nat) : BitVec 64

/-- FREE VALUE: the hall time, in microseconds, once it would pass 64 bits (R157 gives no value beyond it; log 5). -/
opaque hallPastTop (draw : Nat) : BitVec 64

/-- FREE VALUE: the bank loaded when both are valid and neither sequence number follows the other (R201; log 5). -/
opaque bankWhenNeitherFollows (seqA seqB : BitVec 32) : BankName

/-- FREE VALUE: the bank byte of a STORE_DONE posted while no bank is in use (R199, R200; log 5). -/
opaque bankByteWhenNone : Byte

/-- FREE VALUE: the sequence number of a STORE_DONE posted while no bank is in use (R199, R200; log 5). -/
opaque sequenceWhenNone : BitVec 32

/-- FREE VALUE: the eight bytes of a signed offset that 64 bits cannot hold (R161, R197; log 5). -/
opaque offsetBeyondRange (offset : Int) : BitVec 64

end Sys2Proof.Config
end

