-- ==== Sys2Proof/Machine/State.lean ====
section
/-!
DEFINITION. State.lean: the state of the part, block by block, as plain data, and its reset values. Each structure cites the
chapter that lists its fields; a field marked MODEL is the model's own and no register of the part (INVENTORY.md, State).
-/

namespace Sys2Proof.Machine

open Sys2Proof

/-! ## The working copy (chapter 11, R198) -/

/-- The line geometry (R4). -/
structure Geometry where
  gateOffset : Nat := 40
  stepsPerPitch : Nat := 1024
  pulseMs : Nat := 30
  direction : CountDirection := .aLeads
deriving DecidableEq, Repr

/-- A recipe (R49). -/
structure Recipe where
  stroke : Nat := 4000
  profile : Profile := ⟨1000, 40000, 1000⟩
  dwellBase : Nat := 500
  trimEnable : Bool := false
  window : Nat := 6
  cameras : CameraSet := 0
deriving DecidableEq, Repr

/-- An axis's configuration (R42). -/
structure AxisSettings where
  startOffset : Nat
  manual : Profile
  homingLimit : Nat
deriving DecidableEq, Repr

/-- A camera's configuration (R75): C, c and V. -/
structure CameraSettings where
  pitchOffset : Nat
  stepOffset : Nat
  window : Nat
deriving DecidableEq, Repr

/-- A port's configuration (R99). -/
structure PortSettings where
  policy : Policy := .locked
  warn : Nat := 0
  alarm : Nat := 0
deriving DecidableEq, Repr

/-- A fault source's configuration (R180). -/
structure SourceSettings where
  enable : Bool
  mode : LatchMode
  extension : Nat
deriving DecidableEq, Repr

/-- The stored configuration other than the pinned entries and the accounts, which stand in the SWS and the TMU (R198). -/
structure Settings where
  geometry : Geometry
  recipes : Vector Recipe 16
  trims : Vector Int 32
  trimMode : TrimMode
  pinnedIndex : Nat
  axes : Vector AxisSettings 8
  cameras : Vector CameraSettings 6
  ports : Vector PortSettings 8
  sources : Vector SourceSettings 16
  passcode1 : Option (List Byte)
  passcode2 : Option (List Byte)
deriving DecidableEq, Repr

/-- The default configuration of axis k: S is 4 plus 4 times k (R42). -/
def AxisSettings.default (k : Nat) : AxisSettings := ⟨4 + 4 * k, ⟨200, 2000, 20⟩, 400000⟩

/-- The default configuration of camera k: C is 20 plus 2 times k (R75). -/
def CameraSettings.default (k : Nat) : CameraSettings := ⟨20 + 2 * k, 0, 4⟩

/-- A forced source (R177, R180). -/
def SourceSettings.forced : SourceSettings := ⟨true, .latch, 0⟩

/-- The defaults after an integrity failure (R201 and the rules it names). -/
def Settings.defaults : Settings where
  geometry := {}
  recipes := Vector.replicate 16 {}
  trims := Vector.replicate 32 0
  trimMode := .auto
  pinnedIndex := 0
  axes := #v[.default 0, .default 1, .default 2, .default 3, .default 4, .default 5, .default 6, .default 7]
  cameras := #v[.default 0, .default 1, .default 2, .default 3, .default 4, .default 5]
  ports := Vector.replicate 8 {}
  sources := #v[.forced, .forced, ⟨true, .live, 0⟩, ⟨true, .live, 0⟩, ⟨true, .latch, 0⟩, ⟨true, .live, 0⟩,
    ⟨true, .live, 0⟩, ⟨true, .latch, 0⟩, ⟨true, .latch, 0⟩, ⟨true, .latch, 0⟩, ⟨true, .latch, 0⟩, ⟨true, .live, 0⟩,
    ⟨true, .live, 0⟩, ⟨true, .latch, 0⟩, .forced, ⟨true, .latch, 0⟩]
  passcode1 := none
  passcode2 := none

/-! ## The Line Tracker (chapter 1) -/

/-- A bottle record (R5). -/
structure Bottle where
  serial : Nat
  infeedPitch : Pitch
  stamp : Option Nat
  recipe : RecipeNo
  fillAxis : Option AxisNo
  fill : FillResult
  verdicts : List (CameraNo × Verdict)
  sample : Option WatchNo
  hits : WatchSet
deriving DecidableEq, Repr

/-- An entry of the reject log (R15). -/
structure RejectEntry where
  serial : Option Nat
  reason : RejectReason
  failing : CameraSet
  fill : Option FillResult
  stamp : Option Nat
  failed : Bool
deriving DecidableEq, Repr

/-- The reject in the verify slot (R16); its log entry is the newest in the log. -/
structure VerifyReject where
  serial : Option Nat
deriving DecidableEq, Repr

/-- The LTR (chapter 1; R25 gives its reset values). No next serial stands for EXHAUSTED (R6). -/
structure Ltr where
  refA : Bool := false
  refB : Bool := false
  step : Nat := 0
  debt : Nat := 0
  pitch : Pitch := 0
  track : List Bottle := []
  nextSerial : Option Nat := some 1
  verify : Option VerifyReject := none
  gate : Bool := false
  gateEnd : Option RunTime := none
  log : List RejectEntry := []
  counters : Vector Nat 11 := Vector.replicate 11 0
  trackFull : Bool := false
  trackReverse : Bool := false
deriving DecidableEq, Repr

/-! ## The Fill Motion Unit (chapters 2 and 3) -/

/-- An assignment (R53). The recipe is the one the LTR announced with the serial (R7); the FMU reads W and the segments'
values through it. -/
structure Assignment where
  serial : Nat
  startPitch : Pitch
  recipe : RecipeNo
deriving DecidableEq, Repr

/-- The current fill with its closing mark (R56). -/
structure Fill where
  serial : Nat
  closing : Bool
  recipe : RecipeNo
deriving DecidableEq, Repr

/-- A hold list entry (R63). -/
structure HoldEntry where
  watch : WatchNo
  phase : FillPhase
deriving DecidableEq, Repr

/-- An axis record (chapters 2 and 3; R48 and R71 give its reset values). The current speed is held in thousandths of a p/s,
so that an acceleration in p/s per ms is the change in one microsecond (log 7). -/
structure Axis where
  motion : Motion := .unhomed
  duty : Duty := .auto
  retire : RetireState := .inService
  held : Option WatchNo := none
  assignments : List Assignment := []
  position : Option Int := none
  remaining : Option Nat := none
  speed : Nat := 0
  ramp : Option Ramp := none
  profile : Option Profile := none
  haltCause : Option HaltCause := none
  notify : Bool := false
  valveTestEnd : Option RunTime := none
  binding : UpDown := .down
  fill : Option Fill := none
  dwellEnd : Option RunTime := none
  holdList : List HoldEntry := []
  excluded : WatchSet := 0
  dir : Bool := false
  valve : Bool := false
  /-- MODEL: how much of the pulse period has run: a pulse is due at 1,000,000,000 (log 7). -/
  pulsePart : Nat := 0
  /-- MODEL: the microseconds to the first pulse of a move, 0 once it is due (log 7). -/
  lead : Nat := 0
  /-- MODEL: the pulses given on STEP since reset (log 7). -/
  pulses : Nat := 0
deriving DecidableEq, Repr

/-- The FMU (chapter 3; R71). -/
structure Fmu where
  axes : Vector Axis 8 := Vector.replicate 8 {}
  active : RecipeNo := 0
  pointer : AxisNo := 0
  temperature : Option Int := none
  temperatureDeadline : RunTime := 0
  tempStale : Bool := false
deriving DecidableEq, Repr

/-! ## The Camera Trigger Unit (chapter 4) -/

/-- A pending entry (chapter 4); a test trigger has no serial and no expiry pitch. -/
structure PendingEntry where
  serial : Option Nat
  tag : Tag
  triggerPitch : Pitch
  expiryPitch : Option Pitch
  stamp : Option Nat
deriving DecidableEq, Repr

/-- The scheduled trigger, with the pitch count at which it was scheduled (R76, R77). -/
structure Scheduled where
  serial : Nat
  pitch : Pitch
deriving DecidableEq, Repr

/-- A camera channel record (chapter 4; R94). -/
structure Camera where
  state : CameraState := .offline
  testGrant : Option Nat := none
  nextTag : Tag := 0
  pending : List PendingEntry := []
  stale : TagSet := 0
  scheduled : Option Scheduled := none
  binding : UpDown := .down
  counters : Vector Nat 8 := Vector.replicate 8 0
  trig : Bool := false
  tagLines : Tag := 0
  trigEnd : Option RunTime := none
deriving DecidableEq, Repr

/-- The CTU (chapter 4), with the active recipe's camera set as the FMU last reported it (R74). -/
structure Ctu where
  cameras : Vector Camera 6 := Vector.replicate 6 {}
  activeSet : CameraSet := 0
deriving DecidableEq, Repr

/-! ## The Switch Supervisor (chapter 5) -/

/-- A port's record other than its configuration (chapter 5, 5.2; R120). -/
structure Port where
  link : UpDown := .down
  blocked : Bool := false
  errorCount : Nat := 0
  errorState : AlarmState := .normal
  service : Option (Nat × GrantState) := none
deriving DecidableEq, Repr

/-- A station entry (R101). -/
structure Station where
  address : Address
  port : PortIx
  kind : StationKind
  role : Role
  state : StationState
  grant : Option Nat
  firstSeen : Option Nat
  lastSeen : Option Nat
deriving DecidableEq, Repr

/-- A set of the station table: four ways and the victim counter (R101, R102). -/
structure StationSet where
  ways : Vector (Option Station) 4 := Vector.replicate 4 none
  victim : Fin 4 := 0
deriving DecidableEq, Repr

/-- A forget list entry (R113). -/
structure Forget where
  address : Address
  port : PortIx
  reason : ForgetReason
  grant : Option Nat
  sentAt : RunTime
deriving DecidableEq, Repr

/-- A query in the query queue, with its frame's tag (R95, R96). -/
structure Query where
  address : Address
  port : PortIx
  tag : Byte
deriving DecidableEq, Repr

/-- A frame sent on STX (R95). -/
structure SwitchFrame where
  tag : Byte
  message : SwitchMessage
deriving DecidableEq, Repr

/-- The SWS (chapter 5; R120). -/
structure Sws where
  ports : Vector Port 8 := Vector.replicate 8 {}
  table : Vector StationSet 16 := Vector.replicate 16 {}
  forgets : List Forget := []
  queries : List Query := []
  drives : Vector UpDown 8 := Vector.replicate 8 .down
  cameras : Vector UpDown 6 := Vector.replicate 6 .down
  firstDone : Bool := false
  forgetAllAt : Option RunTime := none
  reported : PortSet := 0
  counters : Vector Nat 7 := Vector.replicate 7 0
  outTag : Byte := 0
  /-- The frames sent on STX since reset, oldest first. -/
  sent : List SwitchFrame := []
deriving DecidableEq, Repr

/-! ## The Access Unit (chapters 6 and 7) -/

/-- A grant (R129). -/
structure Grant where
  id : Nat
  level : Nat
  axes : AxisSet
  cameras : CameraSet
  ports : PortSet
  gate : Bool
  openedAt : RunTime
  expiresAt : RunTime
  state : GrantState
  terminals : Nat
  closeCause : Option CloseCause
  closeResult : CloseResult
  forgetsExpired : Nat
  forgetsOutstanding : Option Nat
  axesInMotion : Option AxisSet
deriving DecidableEq, Repr

/-- A SET watch (chapter 7); a FREE watch is an absent one. -/
structure Watch where
  kind : WatchKind
  action : WatchAction
  scope : WatchScope
  enabled : Bool
  hitFlag : Bool := false
  hitCount : Nat := 0
  firstHit : Option Nat := none
  subject : Option WatchSubject := none
  run : Nat := 0
deriving DecidableEq, Repr

/-- The ACU (chapters 6 and 7; R143, R155). -/
structure Acu where
  level : Nat := 0
  idleDeadline : RunTime := 0
  failures : Nat := 0
  lockoutEnd : Option RunTime := none
  grantCounter : Nat := 0
  grants : Vector (Option Grant) 4 := Vector.replicate 4 none
  watches : Vector (Option Watch) 4 := Vector.replicate 4 none
  holders : Vector (Option WatchNo) 8 := Vector.replicate 8 none
deriving DecidableEq, Repr

/-! ## The Time Unit (chapter 8) -/

/-- A runtime account (R165). -/
structure AccountRecord where
  count : Nat := 0
  warn : Nat := 0
  alarm : Nat := 0
  state : AlarmState := .normal
  lastReset : Option Nat := none
deriving DecidableEq, Repr

/-- The TMU (chapter 8; R172). Hall time is held in parts of 1/1,000,000,000 of a microsecond, so that the fraction R157
carries on is kept exactly. -/
structure Tmu where
  now : RunTime := 0
  clock : ClockState := .unset
  hallParts : Option Nat := none
  frequency : Int := 0
  phaseTerm : Int := 0
  phaseEnd : Option RunTime := none
  holdoverDeadline : Option RunTime := none
  lastOffset : Option Int := none
  lastMark : Option RunTime := none
  marks : Nat := 0
  steps : Nat := 0
  holdovers : Nat := 0
  accounts : Vector AccountRecord 15 := Vector.replicate 15 {}
  saveDeadline : RunTime := 0
  saveDeferred : Bool := false
deriving DecidableEq, Repr

/-! ## The Permit Logic (chapter 9) -/

/-- A fault source's fields other than its configuration (chapter 9). -/
structure Source where
  active : Bool := false
  latched : Bool := false
  since : Option RunTime := none
  inEffect : Bool := false
deriving DecidableEq, Repr

/-- The PML (chapter 9; R182). -/
structure Pml where
  sources : Vector Source 16 := Vector.replicate 16 {}
  permit : Bool := false
deriving DecidableEq, Repr

/-! ## The Settings Store (chapter 11) -/

/-- A pinned station entry of an image, with its way; its set is that of its address (R101, R198). -/
structure PinnedStation where
  address : Address
  way : Fin 4
  port : PortIx
  role : Role
  admitted : Bool
deriving DecidableEq, Repr

/-- A stored image (R198). -/
structure Image where
  settings : Settings
  pinned : List PinnedStation
  accounts : Vector AccountRecord 15
deriving DecidableEq, Repr

/-- A bank: its check fails, or its check passes and it holds an image of a format with a sequence number (R198, R201). -/
inductive Bank where
  | broken
  | whole (format : Nat) (sequence : BitVec 32) (image : Image)
deriving DecidableEq, Repr

/-- The SST (chapter 11). The copy being written stands beside the save in progress. -/
structure Sst where
  bankA : Bank := .broken
  bankB : Bank := .broken
  inUse : Option BankName := none
  dirty : Bool := true
  saving : Option SaveKind := none
  changed : Bool := false
  writing : Option (BankName × BitVec 32 × Image) := none
  loadFailed : Bool := true
deriving DecidableEq, Repr

/-! ## The Link Controller (chapter 10) -/

/-- A request frame in the input queue (R185). -/
structure RequestFrame where
  tag : Byte
  message : Byte
  payload : List Byte
deriving DecidableEq, Repr

/-- The request in hand (R186). -/
structure InHand where
  tag : Byte
  message : Byte
deriving DecidableEq, Repr

/-- A notice in the queue, with its run stamp and its hall stamp (R189). -/
structure PostedNotice where
  notice : Notice
  runStamp : RunTime
  hallStamp : Option Nat
deriving DecidableEq, Repr

/-- The outcome an owner returns for a request (R186, R187). -/
structure Answer where
  status : Status
  reason : Option Reason
  body : List Byte
deriving DecidableEq, Repr

/-- The reply being sent (R187): the overrun mark's drop count, 0 when the mark was clear, stands in its head. -/
structure Reply where
  noticeBatch : Bool
  tag : Byte
  message : Byte
  answer : Answer
  drops : Nat
deriving DecidableEq, Repr

/-- The LNK (chapter 10; R193). A clear overrun mark is a drop count of 0. -/
structure Lnk where
  receive : ReceiveState := .hunting
  queue : List RequestFrame := []
  inHand : Option InHand := none
  drops : Nat := 0
  notices : List PostedNotice := []
  attn : Bool := false
  counters : Vector Nat 8 := Vector.replicate 8 0
  reply : Option Reply := none
  softReset : Bool := false
  /-- MODEL: the outcome the owner of the last request returned (log 8). -/
  outcome : Option Answer := none
deriving DecidableEq, Repr

/-! ## The part -/

/-- Where the part stands in R203: RESET_N low, start-up running, start-up complete. -/
inductive Phase where
  | held | starting | running
deriving DecidableEq, Repr

/-- The outputs of the part (00, Signals). -/
inductive Output where
  | permit | gate | attn | valve (axis : AxisNo) | step (axis : AxisNo) | dir (axis : AxisNo) | trig (camera : CameraNo)
  | tag0 (camera : CameraNo) | tag1 (camera : CameraNo) | ctx | stx
deriving DecidableEq, Repr

/-- The level inputs that the part samples (00, Signals); true is active, or high for SETUP. -/
structure Inputs where
  infeed : Bool := false
  gatePres : Bool := false
  gateVfy : Bool := false
  home : BitVec 8 := 0
  limit : BitVec 8 := 0
  cflt : BitVec 8 := 0
  setup : Bool := false
deriving DecidableEq, Repr

/-- The state of the part. -/
structure State where
  phase : Phase := .held
  /-- The commands waiting, first in, first out. -/
  pending : List Instr := []
  /-- MODEL: the reports between blocks that are sent and not yet taken, oldest first (log 1). -/
  reports : List Instr := []
  inputs : Inputs := {}
  /-- MODEL: the levels the outside holds in the microseconds to come, one entry an idle microsecond (log 3). -/
  feed : List Inputs := []
  /-- MODEL: how many free values have been drawn (log 5). -/
  draws : Nat := 0
  cfg : Settings := Settings.defaults
  ltr : Ltr := {}
  fmu : Fmu := {}
  ctu : Ctu := {}
  sws : Sws := {}
  acu : Acu := {}
  tmu : Tmu := {}
  pml : Pml := {}
  sst : Sst := {}
  lnk : Lnk := {}
deriving DecidableEq, Repr

/-- The part held in pin reset with a store that holds no valid bank (R203, R201; log 4). -/
def State.reset : State := {}

/-- No event or request stops the part (INVENTORY.md, Faults), so no meaning raises a fault: the type has no value. -/
inductive Fault where
deriving DecidableEq, Repr

/-- Why a command has no meaning. -/
inductive Refusal where
  /-- Raised by exec's arm of a command that has no meaning yet, and by nothing else. Safe: no next state is claimed. -/
  | notModelled (mnemonic : String)
deriving DecidableEq, Repr

end Sys2Proof.Machine
end

