-- ==== Sys2Proof/Machine/Ops.lean ====
section
/-!
DEFINITION. Ops.lean: the named operations every block uses: reading and writing a block's state, sending a report, posting
a notice, stamping, answering a request, marking the working copy dirty, and taking a command only while the part runs.
-/

namespace Sys2Proof.Machine

open Sys2Proof

/-- What a command answers. -/
abbrev Result := Host.Outcome State Fault Refusal

/-! ## Members of sets -/

/-- The axes in ascending order. -/
def axisNos : List AxisNo := [0, 1, 2, 3, 4, 5, 6, 7]

/-- The cameras in ascending order. -/
def cameraNos : List CameraNo := [0, 1, 2, 3, 4, 5]

/-- The ports in ascending order. -/
def portIxs : List PortIx := [0, 1, 2, 3, 4, 5, 6, 7]

/-- The watches, grant slots, ways or tags in ascending order. -/
def fourNos : List (Fin 4) := [0, 1, 2, 3]

/-- The sixteen sets, recipes or sources in ascending order. -/
def sixteenNos : List (Fin 16) := [0, 1, 2, 3, 4, 5, 6, 7, 8, 9, 10, 11, 12, 13, 14, 15]

/-- The fifteen accounts in the order of ACCOUNT_READ (R170). -/
def accountNos : List (Fin 15) := [0, 1, 2, 3, 4, 5, 6, 7, 8, 9, 10, 11, 12, 13, 14]

/-- A set with member k. -/
def withMember {n : Nat} (set : BitVec n) (k : Nat) : BitVec n := set ||| (1#n <<< k)

/-- A set without member k. -/
def withoutMember {n : Nat} (set : BitVec n) (k : Nat) : BitVec n := set &&& ~~~(1#n <<< k)

/-- The members of an axis set in ascending order. -/
def axisMembers (set : AxisSet) : List AxisNo := axisNos.filter fun k => set.getLsbD k

/-- The members of a camera set in ascending order. -/
def cameraMembers (set : CameraSet) : List CameraNo := cameraNos.filter fun k => set.getLsbD k

/-- The members of a port set in ascending order. -/
def portMembers (set : PortSet) : List PortIx := portIxs.filter fun k => set.getLsbD k

/-- A camera set that names a camera outside 0 to 5. -/
def namesNoCamera (set : CameraSet) : Bool := set.getLsbD 6 || set.getLsbD 7

/-- The place of a port number 1 to 8 (00, Numbering). -/
def portOf (number : Nat) : Option PortIx :=
  if h : 1 ≤ number ∧ number ≤ 8 then some ⟨number - 1, by omega⟩ else none

/-- The number below n that a value names, if there is one. -/
def finOf (n value : Nat) : Option (Fin n) :=
  if h : value < n then some ⟨value, h⟩ else none

/-- A count that stays at its top (R92, R119, R164, R166, R192). -/
def saturate (top n : Nat) : Nat := min (n + 1) top

/-! ## Each block's state -/

def State.setPhase (s : State) (x : Phase) : State := { s with phase := x }
def State.setPending (s : State) (x : List Instr) : State := { s with pending := x }
def State.setReports (s : State) (x : List Instr) : State := { s with reports := x }
def State.setInputs (s : State) (x : Inputs) : State := { s with inputs := x }
def State.setFeed (s : State) (x : List Inputs) : State := { s with feed := x }
def State.setDraws (s : State) (x : Nat) : State := { s with draws := x }
def State.setCfg (s : State) (x : Settings) : State := { s with cfg := x }
def State.setLtr (s : State) (x : Ltr) : State := { s with ltr := x }
def State.setFmu (s : State) (x : Fmu) : State := { s with fmu := x }
def State.setCtu (s : State) (x : Ctu) : State := { s with ctu := x }
def State.setSws (s : State) (x : Sws) : State := { s with sws := x }
def State.setAcu (s : State) (x : Acu) : State := { s with acu := x }
def State.setTmu (s : State) (x : Tmu) : State := { s with tmu := x }
def State.setPml (s : State) (x : Pml) : State := { s with pml := x }
def State.setSst (s : State) (x : Sst) : State := { s with sst := x }
def State.setLnk (s : State) (x : Lnk) : State := { s with lnk := x }

/-- The record of axis k. -/
def State.axis (s : State) (k : AxisNo) : Axis := s.fmu.axes[k]

/-- The record of axis k written. -/
def State.setAxis (s : State) (k : AxisNo) (a : Axis) : State :=
  s.setFmu { s.fmu with axes := s.fmu.axes.set k a }

/-- The channel record of camera k. -/
def State.camera (s : State) (k : CameraNo) : Camera := s.ctu.cameras[k]

/-- The channel record of camera k written. -/
def State.setCamera (s : State) (k : CameraNo) (c : Camera) : State :=
  s.setCtu { s.ctu with cameras := s.ctu.cameras.set k c }

/-- The record of a port. -/
def State.port (s : State) (p : PortIx) : Port := s.sws.ports[p]

/-- The record of a port written. -/
def State.setPort (s : State) (p : PortIx) (x : Port) : State :=
  s.setSws { s.sws with ports := s.sws.ports.set p x }

/-- A set of the station table. -/
def State.stationSet (s : State) (n : Fin 16) : StationSet := s.sws.table[n]

/-- A set of the station table written. -/
def State.setStationSet (s : State) (n : Fin 16) (x : StationSet) : State :=
  s.setSws { s.sws with table := s.sws.table.set n x }

/-- The grant in a slot. -/
def State.grant (s : State) (slot : Fin 4) : Option Grant := s.acu.grants[slot]

/-- A slot of the grant table written. -/
def State.setGrant (s : State) (slot : Fin 4) (g : Option Grant) : State :=
  s.setAcu { s.acu with grants := s.acu.grants.set slot g }

/-- A watch. -/
def State.watch (s : State) (w : WatchNo) : Option Watch := s.acu.watches[w]

/-- A watch written. -/
def State.setWatch (s : State) (w : WatchNo) (x : Option Watch) : State :=
  s.setAcu { s.acu with watches := s.acu.watches.set w x }

/-- The holder of an axis in the holder table. -/
def State.holder (s : State) (k : AxisNo) : Option WatchNo := s.acu.holders[k]

/-- The holder of an axis written. -/
def State.setHolder (s : State) (k : AxisNo) (w : Option WatchNo) : State :=
  s.setAcu { s.acu with holders := s.acu.holders.set k w }

/-! ## Run time and stamps -/

/-- The current run time (R156). -/
def State.now (s : State) : RunTime := s.tmu.now

/-- One microsecond of hall time in the parts hall time is held in (R157). -/
def hallUnit : Nat := 1000000000

/-- A stamp: hall time in whole microseconds, rounded down; absent while the hall clock is UNSET (R157, R158). -/
def State.stamp (s : State) : Option Nat :=
  if s.tmu.clock = .unset then none else s.tmu.hallParts.map (· / hallUnit)

/-! ## Reports between blocks -/

/-- A block sends a report: it joins the reports in flight at the newest end (log 1). -/
def State.send (s : State) (c : Instr) : State := s.setReports (s.reports ++ [c])

/-- Several reports sent in order. -/
def State.sendAll (s : State) (cs : List Instr) : State := s.setReports (s.reports ++ cs)

/-- A report that its owner takes is no longer in flight (log 1). -/
def State.received (s : State) (c : Instr) : State := s.setReports (s.reports.erase c)

/-! ## Taking a command -/

/-- A command that the part takes only once start-up is complete (R183, R203); before that it has no effect. -/
def taken (c : Instr) (s : State) (f : State → State) : Result :=
  if s.phase = .running then .next (f (s.received c)) else .next s

/-- A message of the switch link: taken from the start-up point at which the SWS takes SRX, discarded before (R95, R203). -/
def takenOnSwitchLink (c : Instr) (s : State) (f : State → State) : Result :=
  if s.phase = .held then .next s else .next (f (s.received c))

/-! ## Counters -/

/-- The place of a link counter in the order of R192. -/
def linkCounterIx : LinkCounter → Fin 8
  | .framingErrors => 0 | .badCheck => 1 | .badClass => 2 | .overrunDrops => 3
  | .requestsTaken => 4 | .repliesSent => 5 | .noticesPosted => 6 | .noticesDropped => 7

/-- A link counter goes up by one (R192). -/
def Lnk.count (l : Lnk) (c : LinkCounter) : Lnk :=
  { l with counters := l.counters.set (linkCounterIx c) (saturate Config.top32 l.counters[linkCounterIx c]) }

/-! ## Notices -/

/-- The kind code of a notice (10.6). -/
def noticeKindCode : Notice → Nat
  | .permitChanged .. => 0x01 | .fault .. => 0x02 | .axisHalted .. => 0x03 | .axisAtRest .. => 0x04
  | .homeDone .. => 0x05 | .cameraState .. => 0x06 | .strayVerdict .. => 0x07 | .testVerdict .. => 0x08
  | .stationStranger .. => 0x09 | .stationMoved .. => 0x0A | .tableFull .. => 0x0B | .forgetExpired .. => 0x0C
  | .grantClosed .. => 0x0D | .levelDropped .. => 0x0E | .watchHit .. => 0x0F | .accountState .. => 0x10
  | .clockState .. => 0x11 | .clockStep .. => 0x12 | .storeDone .. => 0x13 | .overflow .. => 0x14

/-- The notice queue after a posting, with whether a notice joined it and whether one was dropped (R189). -/
def placeNotice (queue : List PostedNotice) (p : PostedNotice) : List PostedNotice × Bool × Bool :=
  if queue.length ≤ Config.noticeRoom then (queue ++ [p], true, false)
  else
    match queue.getLast? with
    | some ⟨.overflow dropped firstKind _, run, hall⟩ =>
      (queue.dropLast ++ [⟨.overflow (min (dropped + 1) 65535) firstKind p.runStamp, run, hall⟩], false, true)
    | _ =>
      if queue.length = Config.noticeRoom + 1 then
        (queue ++ [⟨.overflow 1 (noticeKindCode p.notice) p.runStamp, p.runStamp, p.hallStamp⟩], true, true)
      else (queue, false, true)

/-- The LNK after a posting: the queue, its two counters, and ATTN, which is high while the queue holds a notice once start-up
is complete, and low before that (R189, R190, R203). -/
def Lnk.post (l : Lnk) (p : PostedNotice) (running : Bool) : Lnk :=
  let (queue, joined, dropped) := placeNotice l.notices p
  let l1 := { l with notices := queue, attn := running && !queue.isEmpty }
  let l2 := if joined then l1.count .noticesPosted else l1
  if dropped then l2.count .noticesDropped else l2

/-- A block posts a notice: the LNK takes the run stamp and the hall stamp at the posting (R189). -/
def State.post (s : State) (n : Notice) : State :=
  s.setLnk (s.lnk.post ⟨n, s.now, s.stamp⟩ (s.phase == .running))

/-! ## Answers to requests -/

/-- The message code of FETCH_NOTICES (10.6), whose reply is of class NOTICE-BATCH (R187). -/
def fetchNoticesCode : Byte := 0xA1#8

/-- The owner returns an outcome and the LNK makes the reply to the request in hand from it: the reply carries the overrun
mark, which is cleared (R185 to R187). Where no request is in hand only the outcome is kept (log 8). -/
def State.answer (s : State) (a : Answer) : State :=
  match s.lnk.inHand, s.lnk.reply with
  | some r, none =>
    s.setLnk { s.lnk with
      outcome := some a
      reply := some ⟨r.message == fetchNoticesCode, r.tag, r.message, a, s.lnk.drops⟩
      drops := 0 }
  | _, _ => s.setLnk { s.lnk with outcome := some a }

/-- The request is done (R187). -/
def State.replyOk (s : State) (body : List Byte) : State := s.answer ⟨.ok, none, body⟩

/-- An operation that takes time has begun (R187, R188). -/
def State.replyAccepted (s : State) (body : List Byte) : State := s.answer ⟨.accepted, none, body⟩

/-- The request is refused: no body (R187). -/
def State.refuse (s : State) (r : Reason) : State := s.answer ⟨.refused, some r, []⟩

/-- A request with a level authority is refused LEVEL below that level (R121). -/
def State.withLevel (s : State) (need : Nat) (f : State → State) : State :=
  if s.acu.level < need then s.refuse .level else f s

/-- A request is refused with a reason when a check fails, and goes on otherwise. -/
def State.require (s : State) (ok : Bool) (r : Reason) (f : State → State) : State :=
  if ok then f s else s.refuse r

/-- A request whose value is in no list or range is refused, and goes on with the value otherwise. -/
def State.requireSome {α : Type} (s : State) (x : Option α) (r : Reason) (f : α → State → State) : State :=
  match x with
  | some v => f v s
  | none => s.refuse r

/-! ## The working copy -/

/-- The dirty flag is set; a change taken while a SAVE is written is marked (R198). -/
def State.markDirty (s : State) : State :=
  s.setSst { s.sst with dirty := true, changed := s.sst.changed || s.sst.saving == some .save }

/-- A configuration request replaces the working copy and sets the dirty flag (R198). -/
def State.configure (s : State) (c : Settings) : State := (s.setCfg c).markDirty

end Sys2Proof.Machine
end

