-- ==== Sys2Proof/WellFormed.lean ====
section
/-!
DEFINITION. WellFormed.lean: which commands can come at all. A request's numbers fit the bytes R184 gives them, whatever their
range; an event or a report names what its rule lets it name. No meaning relies on it: a command that is not well formed is
still taken by its rule, as the manual's range checks say.
-/

namespace Sys2Proof

/-- A number that w bytes hold (R184). -/
def fitsBytes (w n : Nat) : Bool := n < 256 ^ w

/-- A signed number that w bytes hold in two's complement (R184). -/
def fitsSigned (w : Nat) (n : Int) : Bool := -(128 * 256 ^ (w - 1) : Int) ≤ n && n < (128 * 256 ^ (w - 1) : Int)

/-- A bottle serial (00, Numbering). -/
def isSerial (n : Nat) : Bool := 1 ≤ n && n ≤ Config.lastSerial

/-- A grant id (00, Numbering). -/
def isGrantId (n : Nat) : Bool := 1 ≤ n && n ≤ 255

/-- A switch port number (00, Numbering). -/
def isPortNumber (n : Nat) : Bool := 1 ≤ n && n ≤ 8

/-- The number of members of a set of up to eight. -/
def setSize (s : BitVec 8) : Nat := ([0, 1, 2, 3, 4, 5, 6, 7].filter fun k => s.getLsbD k).length

/-- The bytes from the length byte to the second check byte of a frame that can be complete (R183). -/
def isCompleteFrame (bytes : List Byte) : Bool :=
  match bytes with
  | [] => false
  | n :: rest => n.toNat ≤ 240 && rest.length == n.toNat + 5

/-- The event sources (R173). -/
def FaultSource.isEvent : FaultSource → Bool
  | .restarted | .rejectFailed | .watchStop | .storeFailed | .switchQueue => true
  | .trackFull | .trackReverse | .axisHalted | .cameraOffline | .cameraFaulted | .cameraOverdue | .gateOverdue
  | .portErrors | .flushUnconfirmed | .clockHoldover | .tempStale => false

/-- A pitch event announcement: serials of records, strictly rising, at most 128 (R3, R5). -/
def announcementOk (records : List Announced) : Bool :=
  records.length ≤ Config.trackCapacity && records.all (fun r => isSerial r.serial)
    && (records.zip records.tail).all fun p => p.1.serial < p.2.serial

/-- A report to the ACU's watches names a serial (R147) and a verdict other than PENDING (R10). -/
def Report.wellFormed : Report → Bool
  | .newRecord s | .fillStart _ s | .lineStage s _ => isSerial s
  | .departure s how reason => isSerial s && (how == .rejected) == reason.isSome
  | .phaseEntry _ _ s _ | .holdAfterRelease _ _ s _ => isSerial s
  | .release _ _ | .query _ _ _ => true
  | .halt _ _ before => before != .halted
  | .verdict s _ v => isSerial s && v != .pending

/-- A report to the ACU's grants names a grant id and a count within the forget list (R113, R138). -/
def GrantReport.wellFormed : GrantReport → Bool
  | .axesInMotion id _ => isGrantId id
  | .homingStarted _ | .atRest _ _ => true
  | .closingForgets id n | .resolvedDone id n | .resolvedExpired id n => isGrantId id && n ≤ 32
  | .terminals id n => isGrantId id && n ≤ Config.terminalLimit

/-- Whether a command can come. -/
def Instr.wellFormed : Instr → Bool
  | .pinReset | .resetRelease | .startUpComplete _ _ | .stepEvent _ | .encoderError | .gatePulseExpiry => true
  | .fillReport s item => isSerial s && item != .result .pending
  | .verdictReport s _ v => isSerial s && v != .pending
  | .watchReport s _ _ => isSerial s
  | .lineGeometry l n t d => fitsBytes 2 l && fitsBytes 2 n && fitsBytes 1 t && fitsBytes 1 d
  | .lineClear | .lineStatus => true
  | .trackRead s => fitsBytes 4 s
  | .rejectLogRead i => fitsBytes 1 i
  | .assignmentArbiter s _ _ => isSerial s
  | .fmuPitchEvent _ rs | .ctuPitchEvent _ rs => announcementOk rs
  | .fillWindowExpiry _ _ | .dwellExpiry _ | .stepPulse _ | .moveComplete _ | .homingTravelExhausted _ | .homeFound _
  | .limitActive _ | .driveBindingChange _ _ | .valveTestExpiry _ => true
  | .axisHome _ | .clearHalt _ | .axisStatus _ => true
  | .axisStop _ m n => fitsBytes 1 m && fitsBytes 1 n
  | .axisConfig k s v0 v1 a h =>
    fitsBytes 1 k && fitsBytes 2 s && fitsBytes 2 v0 && fitsBytes 4 v1 && fitsBytes 2 a && fitsBytes 4 h
  | .axisDuty _ g d => fitsBytes 1 g && fitsBytes 1 d
  | .axisMove axes g ts => fitsBytes 1 g && ts.length == setSize axes && ts.all (fitsSigned 4)
  | .axisJog _ g d => fitsBytes 1 g && fitsBytes 1 d
  | .valveTest _ g d => fitsBytes 1 g && fitsBytes 2 d
  | .fmuDeparture s | .ctuDeparture s => isSerial s
  | .fmuLineClear | .ctuLineClear => true
  | .holdListAdd _ _ _ | .holdListRemove _ _ | .holdRelease _ _ | .accountAlarmEntry _ | .accountAlarmExit _ => true
  | .fmuGrantClosingStart g _ | .ctuGrantClosingStart g | .swsGrantOpened g _ | .swsGrantClosingStart g
  | .swsGrantClosed g => isGrantId g
  | .fmuGrantCompletion _ => true
  | .recipeWrite n v =>
    fitsBytes 1 n && fitsBytes 4 v.stroke && fitsBytes 2 v.startSpeed && fitsBytes 4 v.topSpeed
      && fitsBytes 2 v.acceleration && fitsBytes 2 v.dwellBase && fitsBytes 1 v.trimEnable && fitsBytes 1 v.window
  | .recipeSelect n | .recipeRead n => fitsBytes 1 n
  | .trimWrite f ts => fitsBytes 1 f && fitsBytes 1 ts.length && ts.all (fitsSigned 2)
  | .trimMode m i => fitsBytes 1 m && (i.all (fitsBytes 1))
  | .trimRead | .tempDeadlineExpiry | .fillStatus => true
  | .productTemp t => fitsSigned 2 t
  | .verdictWindowExpiry _ _ | .triggerPulseEnd _ | .verdictArrival _ _ _ | .cameraBindingChange _ _ => true
  | .lineTrigger c => c < 4096
  | .activeCameraSetReport cams => !(cams.getLsbD 6) && !(cams.getLsbD 7)
  | .cameraConfig k p st v => fitsBytes 1 k && fitsBytes 2 p && fitsBytes 2 st && fitsBytes 1 v
  | .cameraRearm _ | .cameraStatus _ => true
  | .cameraTest _ g sw => fitsBytes 1 g && fitsBytes 1 sw
  | .testTrigger _ g => fitsBytes 1 g
  | .switchBadFrame .abandoned => true
  | .switchBadFrame (.complete bytes) => isCompleteFrame bytes
  | .query _ p _ | .linkReport p _ => fitsBytes 1 p
  | .errorReport p n => fitsBytes 1 p && fitsBytes 4 n
  | .answer | .forgetDone _ | .forgetExpiry _ | .firstSetting => true
  | .portConfig p pol w a => fitsBytes 1 p && fitsBytes 1 pol && fitsBytes 2 w && fitsBytes 2 a
  | .stationPin _ p r u => fitsBytes 1 p && fitsBytes 1 r && u.all (fitsBytes 1)
  | .stationUnpin _ | .stationQuarantine _ | .stationRelease _ | .stationLookup _ => true
  | .stationRead n | .portUnblock n | .forgetRead n => fitsBytes 1 n
  | .stationFlush (.address _) | .stationFlush .all => true
  | .stationFlush (.port p) => fitsBytes 1 p
  | .stationFlush (.unknown c) => fitsBytes 1 c && 3 ≤ c
  | .switchStatus => true
  | .unlock l code => fitsBytes 1 l && fitsBytes 1 code.length
  | .lockoutExpiry | .lock | .idleDeadlineExpiry => true
  | .passcodeSet l code => fitsBytes 1 l && code.all fun c => 1 ≤ c.length && fitsBytes 1 c.length
  | .grantOpen l _ _ _ g m => fitsBytes 1 l && fitsBytes 1 g && fitsBytes 2 m
  | .grantExtend g m => fitsBytes 1 g && fitsBytes 2 m
  | .grantExpiry _ => true
  | .grantClose g => fitsBytes 1 g
  | .closingReport r => r.wellFormed
  | .accountReset g a => fitsBytes 1 g && fitsBytes 1 a
  | .accessStatus | .grantRead => true
  | .watchSet w ops a sc g e =>
    fitsBytes 1 w && fitsBytes 1 a && fitsBytes 1 sc && fitsBytes 1 g && fitsBytes 1 e &&
      match ops with
      | .serial s st => fitsBytes 4 s && fitsBytes 1 st
      | .axisPhase k p => fitsBytes 1 k && fitsBytes 1 p
      | .cameraNg k n => fitsBytes 1 k && fitsBytes 1 n
      | .station _ => true
      | .unknown c => fitsBytes 1 c && 4 ≤ c
  | .watchClear w sc g => fitsBytes 1 w && fitsBytes 1 sc && fitsBytes 1 g
  | .acuReport r => r.wellFormed
  | .axisResume _ => true
  | .watchAck w => fitsBytes 1 w
  | .watchRead => true
  | .timeSet h | .timeMark h => fitsBytes 8 h
  | .phaseTermExpiry | .holdoverExpiry | .clockStatus => true
  | .accountCount _ => true
  | .accountConfig a w al => fitsBytes 1 a && fitsBytes 4 w && fitsBytes 4 al
  | .accountRead | .accountSaveExpiry | .accountSaveComplete _ => true
  | .sourceActivation src | .sourceDeactivation src | .extensionExpiry src => !src.isEvent
  | .eventSourceLatch src => src.isEvent
  | .faultAck srcs => fitsBytes 1 srcs.length && srcs.all (fitsBytes 1)
  | .permitConfig src e m x => fitsBytes 1 src && fitsBytes 1 e && fitsBytes 1 m && fitsBytes 2 x
  | .permitStatus => true
  | .requestFrame bytes => isCompleteFrame bytes
  | .frameGapTimeout | .requestTaken | .replySent => true
  | .fetchNotices n => fitsBytes 1 n
  | .identity | .save | .saveComplete _ | .softReset | .syncFound => true
  | .frameAbandonedForLength n => 241 ≤ n.toNat

end Sys2Proof
end

