-- ==== Sys2Proof/Machine/Flags.lean ====
section
/-!
DEFINITION. Flags.lean: the part's flags and counters that several commands compute: the fault sources as their blocks raise
and clear them, when a source is in effect, PERMIT, and the saturating counters of the blocks.
-/

namespace Sys2Proof.Machine

open Sys2Proof

/-! ## Fault sources -/

/-- The number of a fault source (R173). -/
def sourceNo : FaultSource → Fin 16
  | .restarted => 0 | .rejectFailed => 1 | .trackFull => 2 | .trackReverse => 3 | .axisHalted => 4
  | .cameraOffline => 5 | .cameraFaulted => 6 | .cameraOverdue => 7 | .gateOverdue => 8 | .portErrors => 9
  | .flushUnconfirmed => 10 | .clockHoldover => 11 | .tempStale => 12 | .watchStop => 13 | .storeFailed => 14
  | .switchQueue => 15

/-- The sixteen sources in the order of their numbers (R173). -/
def sourceTable : Vector FaultSource 16 :=
  #v[.restarted, .rejectFailed, .trackFull, .trackReverse, .axisHalted, .cameraOffline, .cameraFaulted, .cameraOverdue,
    .gateOverdue, .portErrors, .flushUnconfirmed, .clockHoldover, .tempStale, .watchStop, .storeFailed, .switchQueue]

/-- The fault source with a number (R173). -/
def sourceOfNo (n : Fin 16) : FaultSource := sourceTable[n]

/-- The three forced sources: always enabled, in mode LATCH, with extension 0 (R177, R180). -/
def isForced : FaultSource → Bool
  | .restarted | .rejectFailed | .storeFailed => true
  | _ => false

/-- A block tells the PML of a change of one of its conditions, and of nothing else (R174). -/
def State.reportSource (s : State) (src : FaultSource) (before after : Bool) : State :=
  if before = after then s else s.send (if after then .sourceActivation src else .sourceDeactivation src)

/-- The fields of a fault source. -/
def State.source (s : State) (n : Fin 16) : Source := s.pml.sources[n]

/-- The fields of a fault source written. -/
def State.setSource (s : State) (n : Fin 16) (x : Source) : State :=
  s.setPml { s.pml with sources := s.pml.sources.set n x }

/-- The configuration of a fault source. -/
def State.sourceSettings (s : State) (n : Fin 16) : SourceSettings := s.cfg.sources[n]

/-- The run time at which the extension of a source's activation ends: active-since plus the extension (R176). -/
def extensionEnd (since : RunTime) (c : SourceSettings) : RunTime := since + c.extension * Config.tenth

/-- When a source is in effect (R176). -/
def inEffectNow (c : SourceSettings) (x : Source) (now : RunTime) : Bool :=
  c.enable &&
    match c.mode with
    | .latch => x.latched
    | .live =>
      x.active && match x.since with
        | some t => extensionEnd t c ≤ now
        | none => false

/-- A source's in effect field set anew (R176). -/
def State.weigh (s : State) (n : Fin 16) : State :=
  s.setSource n { s.source n with inEffect := inEffectNow (s.sourceSettings n) (s.source n) s.now }

/-- The set of sources in effect (R177). -/
def inEffectSet (p : Pml) : BitVec 16 :=
  (sixteenNos.filter fun n => p.sources[n].inEffect).foldl (fun set n => withMember set n) 0

/-- PERMIT as the sixteen sources give it: high when none is in effect (R177). -/
def permitOf (p : Pml) : Bool := sixteenNos.all fun n => !p.sources[n].inEffect

/-- The PML sets PERMIT from the sixteen sources and posts PERMIT_CHANGED when its level changes (R177). -/
def State.settlePermit (s : State) (src : FaultSource) (cause : PermitCause) : State :=
  let level := permitOf s.pml
  if level = s.pml.permit then s
  else (s.setPml { s.pml with permit := level }).post (.permitChanged level src cause (inEffectSet s.pml))

/-- The FAULT of a raise, with the source's fields as they stand after it (R178). -/
def State.postFault (s : State) (src : FaultSource) (how : Raise) : State :=
  let c := s.sourceSettings (sourceNo src)
  s.post (.fault src how c.enable c.mode c.extension (s.source (sourceNo src)).inEffect)

/-- An activation of a condition source (R174): taken when the source is inactive. -/
def State.activateSource (s : State) (src : FaultSource) : State :=
  let n := sourceNo src
  if src.isEvent || (s.source n).active then s
  else
    (((s.setSource n { s.source n with active := true, latched := true, since := some s.now }).weigh n).postFault src
      .activation).settlePermit src .activation

/-- A deactivation of a condition source (R174): taken when the source is active; the latch is kept. -/
def State.deactivateSource (s : State) (src : FaultSource) : State :=
  let n := sourceNo src
  if (s.source n).active then
    ((s.setSource n { s.source n with active := false, since := none }).weigh n).settlePermit src .deactivation
  else s

/-- A latch of an event source (R175). -/
def State.latchSource (s : State) (src : FaultSource) : State :=
  let n := sourceNo src
  if src.isEvent then
    (((s.setSource n { s.source n with latched := true }).weigh n).postFault src .latch).settlePermit src .latch
  else s

/-! ## Outputs -/

/-- The level of an output. STEP is low between pulses and STX is high between frames, and each pulse and each frame of STX is
one event (log 13). CTX is high unless a reply is being sent, when it follows the bits of the reply's frame, which are no one
level. -/
def State.level (s : State) : Output → Option Bool
  | .permit => some s.pml.permit
  | .gate => some s.ltr.gate
  | .attn => some s.lnk.attn
  | .valve k => some (s.axis k).valve
  | .step _ => some false
  | .dir k => some (s.axis k).dir
  | .trig k => some (s.camera k).trig
  | .tag0 k => some ((s.camera k).tagLines.val.testBit 0)
  | .tag1 k => some ((s.camera k).tagLines.val.testBit 1)
  | .ctx => if s.lnk.reply.isSome then none else some true
  | .stx => some true

/-- The level of an output from the start of a reset until start-up completes: CTX and STX idle high, the others low (R203). -/
def resetLevel : Output → Bool
  | .ctx | .stx => true
  | _ => false

/-! ## Counters -/

/-- The place of a line counter in the order of R22. -/
def lineCounterIx : LineCounter → Fin 11
  | .recordsMade => 0 | .passed => 1 | .rejectedFill => 2 | .rejectedCamera => 3 | .rejectedSample => 4
  | .lost => 5 | .cleared => 6 | .untrackedAtInfeed => 7 | .untrackedAtGate => 8 | .rejectsFailed => 9
  | .encoderErrors => 10

/-- A line counter goes up by n; beyond 64 bits the manual gives no count and a free value stands (R22; log 5). -/
def State.countLine (s : State) (c : LineCounter) (n : Nat) : State :=
  let old := s.ltr.counters[lineCounterIx c]
  if old + n ≤ Config.top64 then
    s.setLtr { s.ltr with counters := s.ltr.counters.set (lineCounterIx c) (old + n) }
  else
    (s.setLtr { s.ltr with
      counters := s.ltr.counters.set (lineCounterIx c) (Config.countPastTop s.draws).toNat }).setDraws (s.draws + 1)

/-- The place of a camera counter in the order of R92. -/
def cameraCounterIx : CameraCounter → Fin 8
  | .triggers => 0 | .ok => 1 | .ng => 2 | .timeout => 3 | .overrun => 4 | .fault => 5 | .late => 6 | .stray => 7

/-- A camera counter goes up by one (R92). -/
def Camera.count (x : Camera) (c : CameraCounter) : Camera :=
  { x with counters := x.counters.set (cameraCounterIx c) (saturate Config.top32 x.counters[cameraCounterIx c]) }

/-- The place of a switch link counter in the order of R119. -/
def switchCounterIx : SwitchCounter → Fin 7
  | .badCheck => 0 | .badMessage => 1 | .queriesTaken => 2 | .queriesDiscarded => 3 | .learnRefused => 4
  | .unmatchedDone => 5 | .forgetsExpired => 6

/-- A switch link counter goes up by one (R119). -/
def State.countSwitch (s : State) (c : SwitchCounter) : State :=
  s.setSws { s.sws with
    counters := s.sws.counters.set (switchCounterIx c) (saturate Config.top32 s.sws.counters[switchCounterIx c]) }

/-- A link counter of the LNK goes up by one (R192). -/
def State.countLink (s : State) (c : LinkCounter) : State := s.setLnk (s.lnk.count c)

/-- The state of a count against its thresholds: reached for an account (R165). -/
def reachedState (count warn alarm : Nat) : AlarmState :=
  if alarm ≠ 0 ∧ alarm ≤ count then .alarm
  else if warn ≠ 0 ∧ warn ≤ count then .warn
  else .normal

/-- The error state of a port: exceeded, not reached (R98). -/
def exceededState (count warn alarm : Nat) : AlarmState :=
  if alarm ≠ 0 ∧ alarm < count then .alarm
  else if warn ≠ 0 ∧ warn < count then .warn
  else .normal

end Sys2Proof.Machine
end

