-- ==== Sys2Proof/Machine/Encoding.lean ====
section
/-!
DEFINITION. Encoding.lean: bytes as the links carry them: numbers, sets and enumerated fields (R184), the CRC-16, the frame
(R194), and the records of R195 to R197. Field places that R184 leaves open are in log 11.
-/

namespace Sys2Proof.Machine

open Sys2Proof

/-! ## Numbers (R184) -/

/-- A number in w bytes, most significant byte first. -/
def be : Nat → Nat → List Byte
  | 0, _ => []
  | w + 1, n => BitVec.ofNat 8 (n / 256 ^ w) :: be w n

/-- The number that bytes hold, most significant byte first. -/
def ofBe (bytes : List Byte) : Nat := bytes.foldl (fun n b => n * 256 + b.toNat) 0

/-- A signed number in w bytes, in two's complement. -/
def beSigned (w : Nat) (i : Int) : List Byte := be w (i % (256 ^ w : Nat)).toNat

/-- The signed number that bytes hold in two's complement. -/
def ofBeSigned (bytes : List Byte) : Int :=
  let n := ofBe bytes
  if 2 * n < 256 ^ bytes.length then n else (n : Int) - (256 ^ bytes.length : Nat)

/-- An offset of hall times in eight signed bytes (R197); what eight bytes cannot hold is a free value (log 5). -/
def offsetBytes (i : Int) : List Byte :=
  if -(2 ^ 63 : Int) ≤ i ∧ i < (2 ^ 63 : Int) then beSigned 8 i else be 8 (Config.offsetBeyondRange i).toNat

/-- One byte. -/
def byte (n : Nat) : List Byte := [BitVec.ofNat 8 n]

/-- A yes-or-no value: 1 for yes (log 11). -/
def yesNo (b : Bool) : List Byte := byte (if b then 1 else 0)

/-- A number that may be absent, preceded by its flag; it occupies its bytes whatever its value (R184), and they are 0 when it
is absent (log 11). -/
def optional (w : Nat) : Option Nat → List Byte
  | none => 0#8 :: be w 0
  | some n => 1#8 :: be w n

/-- A signed number that may be absent (R184), its bytes 0 when it is (log 11). -/
def optionalSigned (w : Nat) : Option Int → List Byte
  | none => 0#8 :: be w 0
  | some n => 1#8 :: beSigned w n

/-- A grant id, 0 when absent (R184). -/
def grantByte (g : Option Nat) : List Byte := byte (g.getD 0)

/-- A list: the number of its members in one byte, then the members (R184). -/
def listBytes {α : Type} (f : α → List Byte) (xs : List α) : List Byte := byte xs.length ++ xs.flatMap f

/-! ## Enumerated fields, by their place in the owning chapter's list (R184) -/

def countDirectionCode : CountDirection → Nat
  | .aLeads => 0 | .bLeads => 1

def fillResultCode : FillResult → Nat
  | .pending => 0 | .ok => 1 | .notFilled => 2 | .missed => 3 | .aborted => 4 | .late => 5

def verdictCode : Verdict → Nat
  | .pending => 0 | .ok => 1 | .ng => 2 | .timeout => 3 | .overrun => 4 | .fault => 5 | .offline => 6 | .testing => 7

def rejectReasonCode : RejectReason → Nat
  | .fill => 0 | .camera k => 1 + k | .sample => 7 | .untracked => 8

def departureCode : Departure → Nat
  | .passed => 0 | .rejected => 1 | .lost => 2

def motionCode : Motion → Nat
  | .unhomed => 0 | .homing => 1 | .idle => 2 | .armed => 3 | .lowering => 4 | .filling => 5 | .raising => 6
  | .stopping => 7 | .stopped => 8 | .halted => 9 | .moving => 10

def dutyCode : Duty → Nat
  | .auto => 0 | .manual => 1

def retireCode : RetireState → Nat
  | .inService => 0 | .draining => 1 | .retired => 2

def rampCode : Option Ramp → Nat
  | some .accel => 0 | some .cruise => 1 | some .decel => 2 | none => 3

def haltCauseCode : HaltCause → Nat
  | .limit => 0 | .driveOffline => 1 | .homeNotFound => 2

def endCauseCode : EndCause → Nat
  | .complete => 0 | .stopped => 1

def fillPhaseCode : FillPhase → Nat
  | .lowering => 0 | .filling => 1 | .raising => 2

def entryPhaseCode : EntryPhase → Nat
  | .fill p => fillPhaseCode p | .halted => 3

def trimModeCode : TrimMode → Nat
  | .auto => 0 | .pinned => 1

def cameraStateCode : CameraState → Nat
  | .offline => 0 | .ready => 1 | .faulted => 2 | .test => 3

def cameraCauseCode : CameraCause → Nat
  | .bindingLost => 0 | .bindingSet => 1 | .cflt => 2 | .rearm => 3 | .testOn => 4 | .testOff => 5 | .grantClose => 6

def upDownCode : UpDown → Nat
  | .up => 0 | .down => 1

def policyCode : Policy → Nat
  | .locked => 0 | .learn => 1 | .service => 2

def alarmStateCode : AlarmState → Nat
  | .normal => 0 | .warn => 1 | .alarm => 2

def stationKindCode : StationKind → Nat
  | .pinned => 0 | .learned => 1

def roleCode : Role → Nat
  | .drive _ => 0 | .camera _ => 1 | .panel => 2 | .other => 3 | .unknown => 4 | .serviceTerminal => 5

/-- The unit a role binds (R101). -/
def roleUnit : Role → Option Nat
  | .drive k => some k | .camera k => some k | .panel | .other | .unknown | .serviceTerminal => none

def stationStateCode : StationState → Nat
  | .admitted => 0 | .quarantined => 1 | .flushing => 2

def forgetReasonCode : ForgetReason → Nat
  | .evict => 0 | .grantClose => 1 | .flushRequest => 2 | .policyChange => 3 | .unpin => 4

def grantStateCode : GrantState → Nat
  | .opened => 0 | .closing => 1

def closeCauseCode : CloseCause → Nat
  | .request => 0 | .expiry => 1

def closeResultCode : CloseResult → Nat
  | .clean => 0 | .unconfirmed => 1

/-- The account's place in the order of ACCOUNT_READ (R170, R197). -/
def accountCode : Account → Nat
  | .axis k => k | .camera k => 8 + k | .gate => 14

def accountCauseCode : AccountCause → Nat
  | .count => 0 | .config => 1 | .reset => 2

def watchKindCode : WatchKind → Nat
  | .serial .. => 0 | .axisPhase .. => 1 | .cameraNg .. => 2 | .station .. => 3

def watchActionCode : WatchAction → Nat
  | .notice => 0 | .sample => 1 | .hold => 2 | .withdraw => 3

def stageCode : Stage → Nat
  | .infeed => 0 | .fillStart => 1 | .camera k => 2 + k | .gate => 8

def clockStateCode : ClockState → Nat
  | .unset => 0 | .free => 1 | .locked => 2 | .holdover => 3

def clockCauseCode : ClockCause → Nat
  | .timeSet => 0 | .mark => 1 | .holdover => 2

def latchModeCode : LatchMode → Nat
  | .live => 0 | .latch => 1

def raiseCode : Raise → Nat
  | .activation => 0 | .latch => 1

def permitCauseCode : PermitCause → Nat
  | .activation => 0 | .expiry => 1 | .latch => 2 | .deactivation => 3 | .ack => 4 | .config => 5

def bankCode : BankName → Nat
  | .a => 0 | .b => 1

def saveKindCode : SaveKind → Nat
  | .save => 0 | .accountSave => 1

def statusCode : Status → Nat
  | .ok => 0 | .accepted => 1 | .refused => 2

/-- The refusal reason codes of R187. -/
def reasonCode : Reason → Nat
  | .unknownMessage => 1 | .badLength => 2 | .badValue => 3 | .level => 4 | .noGrant => 5 | .state => 6 | .busy => 7
  | .full => 8 | .notFound => 9 | .lockedOut => 10

/-- The member result codes of R187. -/
def memberResultCode : MemberResult → Nat
  | .ok => 0 | .accepted => 1 | .refused r => reasonCode r | .fault => 0x20 | .overrun => 0x21

/-- A member result of three bytes: the member number, the code, and the detail byte (R187). -/
def memberBytes (member : Nat) (r : MemberResult) (detail : Nat) : List Byte :=
  byte member ++ byte (memberResultCode r) ++ byte detail

/-- A switch port as its number (00, Numbering). -/
def portNumber (p : PortIx) : Nat := p + 1

/-! ## Frames (R184, R194) -/

/-- One bit of the CRC register's shift. -/
def crcBit (crc : BitVec 16) : BitVec 16 :=
  if crc.getLsbD 15 then (crc <<< 1) ^^^ 0x1021#16 else crc <<< 1

/-- A byte enters the CRC register, most significant bit first. -/
def crcByte (crc : BitVec 16) (b : Byte) : BitVec 16 :=
  crcBit (crcBit (crcBit (crcBit (crcBit (crcBit (crcBit (crcBit (crc ^^^ ((b.zeroExtend 16) <<< 8)))))))))

/-- The CRC-16 of R184: x^16 + x^12 + x^5 + 1, start 0xFFFF, not inverted. -/
def crc16 (bytes : List Byte) : BitVec 16 := bytes.foldl crcByte 0xFFFF#16

/-- The class codes of R194. -/
def classRequest : Byte := 0x01#8
def classReply : Byte := 0x02#8
def classNoticeBatch : Byte := 0x03#8
def classSwitch : Byte := 0x04#8

/-- A frame (R194): sync, length, class, tag, message, payload, check. No frame carries more than 240 payload bytes. -/
def frameBytes (cls tag message : Byte) (payload : List Byte) : Option (List Byte) :=
  if payload.length ≤ 240 then
    let body := BitVec.ofNat 8 payload.length :: cls :: tag :: message :: payload
    some (0xA5#8 :: body ++ be 2 (crc16 body).toNat)
  else none

/-- The parts of a complete frame, given from its length byte to its second check byte. -/
structure FrameParts where
  cls : Byte
  tag : Byte
  message : Byte
  payload : List Byte
  checkPasses : Bool
deriving DecidableEq, Repr

/-- A complete frame taken apart (R183, R184). -/
def frameParts (bytes : List Byte) : Option FrameParts :=
  match bytes with
  | n :: cls :: tag :: message :: rest =>
    if n.toNat ≤ 240 ∧ rest.length = n.toNat + 2 then
      let covered := n :: cls :: tag :: message :: rest.take n.toNat
      some ⟨cls, tag, message, rest.take n.toNat, ofBe (rest.drop n.toNat) == (crc16 covered).toNat⟩
    else none
  | _ => none

/-- The head and body of a reply's payload (R187, R194). -/
def replyPayload (r : Reply) : List Byte :=
  byte (statusCode r.answer.status) ++ byte ((r.answer.reason.map reasonCode).getD 0)
    ++ byte (if r.drops = 0 then 0 else 1) ++ byte r.drops ++ r.answer.body

/-- The frame of a reply on CTX (R187, R194). -/
def replyFrame (r : Reply) : Option (List Byte) :=
  frameBytes (if r.noticeBatch then classNoticeBatch else classReply) r.tag r.message (replyPayload r)

/-- The code and payload of a message the part sends on STX (R95, 10.6). -/
def switchMessageBytes : SwitchMessage → Nat × List Byte
  | .answer a p admits => (0xD0, be 6 a.toNat ++ byte (portNumber p) ++ byte (if admits then 0 else 1))
  | .forget a => (0xD1, be 6 a.toNat)
  | .forgetAll => (0xD2, [])
  | .portBlock p => (0xD3, byte (portNumber p))
  | .portOpen p => (0xD4, byte (portNumber p))

/-- A frame on STX (R95, R194). -/
def switchFrameBytes (f : SwitchFrame) : Option (List Byte) :=
  frameBytes classSwitch f.tag (BitVec.ofNat 8 (switchMessageBytes f.message).1) (switchMessageBytes f.message).2

/-! ## Layouts (R195 to R197) -/

/-- One bit of a flags byte. -/
def flagBit (k : Nat) (b : Bool) : Nat := if b then 2 ^ k else 0

/-- A bottle record in 33 bytes, with its position (R195). -/
def bottleBytes (b : Bottle) (position : Nat) : List Byte :=
  be 4 b.serial ++ be 4 b.infeedPitch.toNat ++ be 8 (b.stamp.getD 0)
    ++ byte (flagBit 0 b.stamp.isSome + flagBit 1 b.fillAxis.isSome + flagBit 2 b.sample.isSome)
    ++ byte b.recipe ++ byte ((b.fillAxis.map fun k => k.val).getD 0) ++ byte (fillResultCode b.fill)
    ++ byte b.verdicts.length
    ++ ((b.verdicts.map fun v => BitVec.ofNat 8 (v.1.val * 16 + verdictCode v.2)) ++ List.replicate 6 0xFF#8).take 6
    ++ byte ((b.sample.map fun w => w.val).getD 0) ++ byte b.hits.toNat ++ be 4 position

/-- A station entry in 28 bytes (R196). -/
def stationBytes (e : Station) : List Byte :=
  be 6 e.address.toNat ++ byte (portNumber e.port) ++ byte (stationKindCode e.kind * 16 + roleCode e.role)
    ++ byte ((roleUnit e.role).getD 0) ++ byte (stationStateCode e.state) ++ grantByte e.grant
    ++ byte (flagBit 0 (roleUnit e.role).isSome + flagBit 1 e.firstSeen.isSome + flagBit 2 e.lastSeen.isSome)
    ++ be 8 (e.firstSeen.getD 0) ++ be 8 (e.lastSeen.getD 0)

/-- A way of STATION_READ: a free way is 28 bytes of 0 (R196). -/
def wayBytes : Option Station → List Byte
  | none => List.replicate 28 0#8
  | some e => stationBytes e

/-- The forget list entry of STATION_LOOKUP: 17 bytes (R196). -/
def forgetBytes (f : Forget) : List Byte :=
  be 6 f.address.toNat ++ byte (portNumber f.port) ++ byte (forgetReasonCode f.reason) ++ grantByte f.grant ++ be 8 f.sentAt

/-- The subject of a WATCH_HIT in seven bytes (R197). -/
def watchSubjectBytes : WatchSubject → List Byte
  | .serial s stage departure =>
    be 4 s ++ byte (stageCode stage) ++ byte ((departure.map fun d => departureCode d.1).getD 0)
      ++ byte ((departure.bind fun d => d.2.map rejectReasonCode).getD 0)
  | .axisPhase k phase serial holds cause =>
    byte k ++ byte (entryPhaseCode phase) ++ be 4 (serial.getD 0)
      ++ byte (flagBit 7 holds + (cause.map haltCauseCode).getD 0)
  | .cameraNg k n serial => byte k ++ byte n ++ be 4 serial
  | .station a port admits => be 6 a.toNat ++ byte (flagBit 7 admits + portNumber port)

/-- Whether the optional subject field of a notice's kind is present (R197, flags bit 1). -/
def optionalPresent : Notice → Bool
  | .axisAtRest _ _ _ position => position.isSome
  | .testVerdict _ _ _ triggered => triggered.isSome
  | .watchHit _ _ _ _ (.axisPhase _ _ serial _ _) => serial.isSome
  | .clockState _ _ _ offset => offset.isSome
  | _ => false

/-- The subject of a notice, by kind (R197). -/
def noticeSubject : Notice → List Byte
  | .permitChanged level src cause set =>
    yesNo level ++ byte (sourceNo src) ++ byte (permitCauseCode cause) ++ be 2 set.toNat
  | .fault src how enable mode extension inEffect =>
    byte (sourceNo src) ++ byte (raiseCode how) ++ yesNo enable ++ byte (latchModeCode mode) ++ be 2 extension
      ++ yesNo inEffect
  | .axisHalted k cause before => byte k ++ byte (haltCauseCode cause) ++ byte (motionCode before)
  | .axisAtRest k motion cause position =>
    byte k ++ byte (motionCode motion) ++ byte (endCauseCode cause) ++ beSigned 4 (position.getD 0)
  | .homeDone k => byte k
  | .cameraState k previous new cause =>
    byte k ++ byte (cameraStateCode previous) ++ byte (cameraStateCode new) ++ byte (cameraCauseCode cause)
  | .strayVerdict k tag ng => byte k ++ byte tag ++ yesNo ng
  | .testVerdict k tag ng triggered => byte k ++ byte tag ++ yesNo ng ++ be 8 (triggered.getD 0)
  | .stationStranger a port way => be 6 a.toNat ++ byte (portNumber port) ++ byte way
  | .stationMoved a entryPort queryPort role =>
    be 6 a.toNat ++ byte (portNumber entryPort) ++ byte (portNumber queryPort) ++ byte (roleCode role)
  | .tableFull a port set => be 6 a.toNat ++ byte (portNumber port) ++ byte set
  | .forgetExpired a port reason grant =>
    be 6 a.toNat ++ byte (portNumber port) ++ byte (forgetReasonCode reason) ++ grantByte grant
  | .grantClosed id level cause result expired openedAt =>
    byte id ++ byte (flagBit 0 (level == 2) + flagBit 1 (cause == .expiry) + flagBit 2 (result == .unconfirmed))
      ++ byte expired ++ be 8 openedAt
  | .levelDropped before => byte before
  | .watchHit w kind action count subject =>
    byte w ++ byte (watchKindCode kind * 16 + watchActionCode action) ++ be 2 count ++ watchSubjectBytes subject
  | .accountState account previous new count cause =>
    byte (accountCode account) ++ byte (alarmStateCode previous) ++ byte (alarmStateCode new)
      ++ byte (accountCauseCode cause) ++ be 4 count
  | .clockState previous new cause offset =>
    byte (clockStateCode previous) ++ byte (clockStateCode new) ++ byte (clockCauseCode cause)
      ++ offsetBytes (offset.getD 0)
  | .clockStep byMark offset => byte (if byMark then 1 else 0) ++ offsetBytes offset
  | .storeDone op ok dirty inUse sequence =>
    byte (saveKindCode op) ++ byte (if ok then 0 else 1) ++ yesNo dirty
      ++ [(inUse.map fun name => BitVec.ofNat 8 (bankCode name)).getD Config.bankByteWhenNone] ++ be 4 sequence.toNat
  | .overflow dropped firstKind latest => be 2 dropped ++ byte firstKind ++ be 8 latest

/-- A notice in 29 bytes: bytes of the subject that are not used are 0 (R197). -/
def noticeBytes (p : PostedNotice) : List Byte :=
  byte (noticeKindCode p.notice) ++ byte (flagBit 0 p.hallStamp.isSome + flagBit 1 (optionalPresent p.notice))
    ++ be 8 p.runStamp ++ be 8 (p.hallStamp.getD 0)
    ++ (noticeSubject p.notice ++ List.replicate 11 0#8).take 11

end Sys2Proof.Machine
end

