-- ==== Sys2Proof/Machine/Operands.lean ====
section
/-!
DEFINITION. Operands.lean: what a request frame carries. From the message code and the payload it gives the request as a
command, or says that the code is no request code or that the length is not the one the fields call for (R184, R186, 10.6).
It also gives the messages of the switch link (R95) and the values that codes of enumerated fields stand for.
-/

namespace Sys2Proof.Machine

open Sys2Proof

/-! ## Splitting a payload -/

/-- The numbers of a payload whose fields have the widths given: the payload has exactly those bytes (R184, R186). -/
def fields : List Nat → List Byte → Option (List Nat)
  | [], [] => some []
  | [], _ :: _ => none
  | w :: ws, p => if w ≤ p.length then (fields ws (p.drop w)).map (ofBe (p.take w) :: ·) else none

/-- The signed numbers of a payload of n fields of w bytes each. -/
def signedFields (w : Nat) : Nat → List Byte → Option (List Int)
  | 0, [] => some []
  | 0, _ :: _ => none
  | n + 1, p =>
    if w ≤ p.length then (signedFields w n (p.drop w)).map (ofBeSigned (p.take w) :: ·) else none

/-- A set byte. -/
def setOf8 (n : Nat) : BitVec 8 := BitVec.ofNat 8 n

/-! ## Requests -/

/-- What the LNK makes of a request (R186). -/
inductive ParsedRequest where
  | unknownMessage
  | badLength
  | request (c : Instr)
deriving DecidableEq, Repr

/-- A request whose payload has fixed fields: the command when the length fits. -/
def fixedRequest (ws : List Nat) (p : List Byte) (f : List Nat → Option Instr) : ParsedRequest :=
  match (fields ws p).bind f with
  | some c => .request c
  | none => .badLength

/-- The operands of a WATCH_SET by the kind code; a code outside the list has none (R144, R184; log 11). -/
def watchOperandWidths (kind : Nat) : List Nat :=
  match kind with
  | 0 => [4, 1]
  | 1 => [1, 1]
  | 2 => [1, 1]
  | 3 => [6]
  | _ => []

/-- The operands of a WATCH_SET. -/
def watchOperands (kind : Nat) (xs : List Nat) : WatchOperands :=
  match kind, xs with
  | 0, [s, stage] => .serial s stage
  | 1, [k, phase] => .axisPhase k phase
  | 2, [k, n] => .cameraNg k n
  | 3, [a] => .station (BitVec.ofNat 48 a)
  | _, _ => .unknown kind

/-- WATCH_SET: watch, kind with its operands, action, scope with the grant id, enable (R145). -/
def parseWatchSet (p : List Byte) : ParsedRequest :=
  match p with
  | w :: kind :: rest =>
    let ws := watchOperandWidths kind.toNat
    match fields (ws ++ [1, 1, 1, 1]) rest with
    | some xs =>
      match xs.drop ws.length with
      | [action, scope, grant, enable] =>
        .request (.watchSet w.toNat (watchOperands kind.toNat (xs.take ws.length)) action scope grant enable)
      | _ => .badLength
    | none => .badLength
  | _ => .badLength

/-- STATION_FLUSH: the scope, then the address or the port it names (R112); a scope of no list is one byte long (log 11). -/
def parseStationFlush (p : List Byte) : ParsedRequest :=
  match p with
  | scope :: rest =>
    match scope.toNat with
    | 0 => fixedRequest [6] rest fun | [a] => some (.stationFlush (.address (BitVec.ofNat 48 a))) | _ => none
    | 1 => fixedRequest [1] rest fun | [n] => some (.stationFlush (.port n)) | _ => none
    | 2 => fixedRequest [] rest fun _ => some (.stationFlush .all)
    | code => fixedRequest [] rest fun _ => some (.stationFlush (.unknown code))
  | [] => .badLength

/-- UNLOCK: the level, then the passcode with its length before it, taken as written (R123, R184, R186). -/
def parseUnlock (p : List Byte) : ParsedRequest :=
  match p with
  | level :: n :: code => if code.length = n.toNat then .request (.unlock level.toNat code) else .badLength
  | _ => .badLength

/-- PASSCODE_SET: as UNLOCK, a length of 0 standing for UNSET (R127, R184). -/
def parsePasscodeSet (p : List Byte) : ParsedRequest :=
  match p with
  | level :: n :: code =>
    if code.length = n.toNat then .request (.passcodeSet level.toNat (if n = 0 then none else some code))
    else .badLength
  | _ => .badLength

/-- TRIM_WRITE: the first index, the count, and that many trims of two signed bytes (R66, R186). -/
def parseTrimWrite (p : List Byte) : ParsedRequest :=
  match p with
  | first :: n :: rest =>
    match signedFields 2 n.toNat rest with
    | some trims => .request (.trimWrite first.toNat trims)
    | none => .badLength
  | _ => .badLength

/-- AXIS_MOVE: the axis set, the grant id, and one target of four signed bytes a member (R44; log 11). -/
def parseAxisMove (p : List Byte) : ParsedRequest :=
  match p with
  | axes :: grant :: rest =>
    match signedFields 4 (axisMembers axes).length rest with
    | some targets => .request (.axisMove axes grant.toNat targets)
    | none => .badLength
  | _ => .badLength

/-- FAULT_ACK: a list of sources with its count before it (R179). -/
def parseFaultAck (p : List Byte) : ParsedRequest :=
  match p with
  | n :: rest => if rest.length = n.toNat then .request (.faultAck (rest.map (·.toNat))) else .badLength
  | [] => .badLength

/-- PRODUCT_TEMP: a temperature in two signed bytes (R67). -/
def parseProductTemp (p : List Byte) : ParsedRequest :=
  match signedFields 2 1 p with
  | some [t] => .request (.productTemp t)
  | _ => .badLength

/-- A request with no payload. -/
def bare (p : List Byte) (c : Instr) : ParsedRequest := if p.isEmpty then .request c else .badLength

/-- A number that may be absent, as its flag byte and its value give it (R184). A flag other than 0 or 1 gives a value that no
list holds, so that its owner refuses it. -/
def flagged (flag value : Nat) : Option Nat :=
  match flag with
  | 0 => none
  | 1 => some value
  | _ => some 256

/-- The request that a message code and a payload give (R184, R186, 10.6). -/
def parseRequest (code : Byte) (p : List Byte) : ParsedRequest :=
  match code.toNat with
  | 0x10 => bare p .lineStatus
  | 0x11 => fixedRequest [4] p fun | [s] => some (.trackRead s) | _ => none
  | 0x12 => fixedRequest [1] p fun | [i] => some (.rejectLogRead i) | _ => none
  | 0x13 => bare p .lineClear
  | 0x14 => fixedRequest [2, 2, 1, 1] p fun | [l, n, t, d] => some (.lineGeometry l n t d) | _ => none
  | 0x20 => fixedRequest [1] p fun | [a] => some (.axisStatus (setOf8 a)) | _ => none
  | 0x21 => fixedRequest [1] p fun | [a] => some (.axisHome (setOf8 a)) | _ => none
  | 0x22 => fixedRequest [1] p fun | [a] => some (.clearHalt (setOf8 a)) | _ => none
  | 0x23 => fixedRequest [1, 1, 1] p fun | [a, m, n] => some (.axisStop (setOf8 a) m n) | _ => none
  | 0x24 => fixedRequest [1, 2, 2, 4, 2, 4] p fun
    | [k, s, v0, v1, a, h] => some (.axisConfig k s v0 v1 a h) | _ => none
  | 0x25 => fixedRequest [1, 1, 1] p fun | [a, g, d] => some (.axisDuty (setOf8 a) g d) | _ => none
  | 0x26 => parseAxisMove p
  | 0x27 => fixedRequest [1, 1, 1] p fun | [a, g, d] => some (.axisJog (setOf8 a) g d) | _ => none
  | 0x28 => fixedRequest [1, 1, 2] p fun | [a, g, d] => some (.valveTest (setOf8 a) g d) | _ => none
  | 0x30 => fixedRequest [1] p fun | [n] => some (.recipeRead n) | _ => none
  | 0x31 => fixedRequest [1, 4, 2, 4, 2, 2, 1, 1, 1] p fun
    | [n, st, v0, v1, a, d, t, w, c] => some (.recipeWrite n ⟨st, v0, v1, a, d, t, w, setOf8 c⟩) | _ => none
  | 0x32 => fixedRequest [1] p fun | [n] => some (.recipeSelect n) | _ => none
  | 0x33 => bare p .trimRead
  | 0x34 => parseTrimWrite p
  | 0x35 => fixedRequest [1, 1, 1] p fun | [m, f, i] => some (.trimMode m (flagged f i)) | _ => none
  | 0x36 => parseProductTemp p
  | 0x37 => bare p .fillStatus
  | 0x40 => fixedRequest [1] p fun | [a] => some (.cameraStatus (setOf8 a)) | _ => none
  | 0x41 => fixedRequest [1, 2, 2, 1] p fun | [k, c, st, v] => some (.cameraConfig k c st v) | _ => none
  | 0x42 => fixedRequest [1] p fun | [a] => some (.cameraRearm (setOf8 a)) | _ => none
  | 0x43 => fixedRequest [1, 1, 1] p fun | [a, g, sw] => some (.cameraTest (setOf8 a) g sw) | _ => none
  | 0x44 => fixedRequest [1, 1] p fun | [a, g] => some (.testTrigger (setOf8 a) g) | _ => none
  | 0x50 => bare p .switchStatus
  | 0x51 => fixedRequest [6] p fun | [a] => some (.stationLookup (BitVec.ofNat 48 a)) | _ => none
  | 0x52 => fixedRequest [1] p fun | [n] => some (.stationRead n) | _ => none
  | 0x53 => fixedRequest [1] p fun | [n] => some (.forgetRead n) | _ => none
  | 0x54 => fixedRequest [1, 1, 2, 2] p fun | [n, pol, w, al] => some (.portConfig n pol w al) | _ => none
  | 0x55 => fixedRequest [6, 1, 1, 1, 1] p fun
    | [a, n, r, f, u] => some (.stationPin (BitVec.ofNat 48 a) n r (flagged f u)) | _ => none
  | 0x56 => fixedRequest [6] p fun | [a] => some (.stationUnpin (BitVec.ofNat 48 a)) | _ => none
  | 0x57 => fixedRequest [6] p fun | [a] => some (.stationQuarantine (BitVec.ofNat 48 a)) | _ => none
  | 0x58 => fixedRequest [6] p fun | [a] => some (.stationRelease (BitVec.ofNat 48 a)) | _ => none
  | 0x59 => parseStationFlush p
  | 0x5A => fixedRequest [1] p fun | [n] => some (.portUnblock n) | _ => none
  | 0x60 => bare p .accessStatus
  | 0x61 => parseUnlock p
  | 0x62 => bare p .lock
  | 0x63 => parsePasscodeSet p
  | 0x64 => bare p .grantRead
  | 0x65 => fixedRequest [1, 1, 1, 1, 1, 2] p fun
    | [l, a, c, n, g, m] => some (.grantOpen l (setOf8 a) (setOf8 c) (setOf8 n) g m) | _ => none
  | 0x66 => fixedRequest [1, 2] p fun | [g, m] => some (.grantExtend g m) | _ => none
  | 0x67 => fixedRequest [1] p fun | [g] => some (.grantClose g) | _ => none
  | 0x68 => fixedRequest [1, 1] p fun | [g, a] => some (.accountReset g a) | _ => none
  | 0x70 => bare p .watchRead
  | 0x71 => parseWatchSet p
  | 0x72 => fixedRequest [1, 1, 1] p fun | [w, sc, g] => some (.watchClear w sc g) | _ => none
  | 0x73 => fixedRequest [1] p fun | [w] => some (.watchAck w) | _ => none
  | 0x74 => fixedRequest [1] p fun | [a] => some (.axisResume (setOf8 a)) | _ => none
  | 0x80 => bare p .clockStatus
  | 0x81 => fixedRequest [8] p fun | [t] => some (.timeSet t) | _ => none
  | 0x82 => bare p .accountRead
  | 0x83 => fixedRequest [1, 4, 4] p fun | [a, w, al] => some (.accountConfig a w al) | _ => none
  | 0x90 => bare p .permitStatus
  | 0x91 => parseFaultAck p
  | 0x92 => fixedRequest [1, 1, 1, 2] p fun | [n, e, m, x] => some (.permitConfig n e m x) | _ => none
  | 0xA0 => bare p .identity
  | 0xA1 => fixedRequest [1] p fun | [n] => some (.fetchNotices n) | _ => none
  | 0xB0 => bare p .save
  | 0xB1 => bare p .softReset
  | _ => .unknownMessage

/-! ## Values of enumerated fields -/

def yesNoOf (n : Nat) : Option Bool :=
  match n with
  | 0 => some false | 1 => some true | _ => none

def countDirectionOf (n : Nat) : Option CountDirection :=
  match n with
  | 0 => some .aLeads | 1 => some .bLeads | _ => none

def stopModeOf (n : Nat) : Option StopMode :=
  match n with
  | 0 => some .decelerate | 1 => some .immediate | _ => none

def dutyOf (n : Nat) : Option Duty :=
  match n with
  | 0 => some .auto | 1 => some .manual | _ => none

/-- The direction of a jog: UP is 0, DOWN is 1 (R45); true is down. -/
def jogDownOf (n : Nat) : Option Bool :=
  match n with
  | 0 => some false | 1 => some true | _ => none

def trimModeOf (n : Nat) : Option TrimMode :=
  match n with
  | 0 => some .auto | 1 => some .pinned | _ => none

/-- ON is 0, OFF is 1 (R89); true is on. -/
def onOffOf (n : Nat) : Option Bool :=
  match n with
  | 0 => some true | 1 => some false | _ => none

def policyOf (n : Nat) : Option Policy :=
  match n with
  | 0 => some .locked | 1 => some .learn | 2 => some .service | _ => none

/-- The role a STATION_PIN names with its unit number, when the two are allowed together (R106). -/
def pinRoleOf (role : Nat) (unitNo : Option Nat) : Option Role :=
  match role, unitNo with
  | 0, some u => (finOf 8 u).map .drive
  | 1, some u => (finOf 6 u).map .camera
  | 2, none => some .panel
  | 3, none => some .other
  | _, _ => none

def watchActionOf (n : Nat) : Option WatchAction :=
  match n with
  | 0 => some .notice | 1 => some .sample | 2 => some .hold | 3 => some .withdraw | _ => none

def stageOf (n : Nat) : Option Stage :=
  match n with
  | 0 => some .infeed
  | 1 => some .fillStart
  | 8 => some .gate
  | _ => if 2 ≤ n then (finOf 6 (n - 2)).map .camera else none

def entryPhaseOf (n : Nat) : Option EntryPhase :=
  match n with
  | 0 => some (.fill .lowering) | 1 => some (.fill .filling) | 2 => some (.fill .raising) | 3 => some .halted
  | _ => none

/-- The kind of a watch with its operands, when each is in its range (R144). -/
def watchKindOf (ops : WatchOperands) : Option WatchKind :=
  match ops with
  | .serial s stage => if 1 ≤ s ∧ s ≤ Config.lastSerial then (stageOf stage).map (.serial s) else none
  | .axisPhase k phase => (finOf 8 k).bind fun axis => (entryPhaseOf phase).map (.axisPhase axis)
  | .cameraNg k n => if 1 ≤ n ∧ n ≤ 15 then (finOf 6 k).map fun cam => .cameraNg cam n else none
  | .station a => some (.station a)
  | .unknown _ => none

/-- The actions a kind allows (R144). -/
def actionAllowed (kind : WatchKind) (action : WatchAction) : Bool :=
  match kind, action with
  | _, .notice => true
  | _, .withdraw => true
  | .serial .., .sample => true
  | .cameraNg .., .sample => true
  | .axisPhase _ (.fill _), .hold => true
  | _, _ => false

def latchModeOf (n : Nat) : Option LatchMode :=
  match n with
  | 0 => some .live | 1 => some .latch | _ => none

/-- The account with a number, in the order of ACCOUNT_READ (R168, R170). -/
def accountOf (n : Nat) : Option Account :=
  if n < 8 then (finOf 8 n).map .axis
  else if n < 14 then (finOf 6 (n - 8)).map .camera
  else if n = 14 then some .gate
  else none

/-! ## Messages of the switch link (R95) -/

/-- UP is 0, DOWN is 1 (R95). -/
def upDownOf (n : Nat) : Option UpDown :=
  match n with
  | 0 => some .up | 1 => some .down | _ => none

/-- The message of a frame on SRX whose check passed, when its class, code, length and port are those of a message the SWS
takes (R95, 10.6). A LINK_REPORT whose link is neither UP 0 nor DOWN 1 is no such message (log 35). -/
def switchCommand (f : FrameParts) : Option Instr :=
  if f.cls ≠ classSwitch then none
  else
    match f.message.toNat with
    | 0xC0 =>
      match fields [6, 1] f.payload with
      | some [a, p] => if (portOf p).isSome then some (.query (BitVec.ofNat 48 a) p f.tag) else none
      | _ => none
    | 0xC1 =>
      match fields [1, 1] f.payload with
      | some [p, l] => if (portOf p).isSome then (upDownOf l).map (.linkReport p) else none
      | _ => none
    | 0xC2 =>
      match fields [1, 4] f.payload with
      | some [p, n] => if (portOf p).isSome then some (.errorReport p n) else none
      | _ => none
    | 0xC3 =>
      match fields [6] f.payload with
      | some [a] => some (.forgetDone (BitVec.ofNat 48 a))
      | _ => none
    | 0xC4 =>
      match fields [8] f.payload with
      | some [t] => some (.timeMark t)
      | _ => none
    | _ => none

end Sys2Proof.Machine
end

