-- ==== Sys2Proof/Machine/Track.lean ====
section
/-!
DEFINITION. Track.lean: the Line Tracker (chapter 1): encoder steps, pitch events with verify, gate and infeed, the gate pulse,
the reports into records, and the line requests.
-/

namespace Sys2Proof.Machine

open Sys2Proof

/-! ## Records -/

/-- The position of a record: the pitch count less the infeed pitch, modulo 2^32 (R3). -/
def position (pitch : Pitch) (b : Bottle) : Nat := (pitch - b.infeedPitch).toNat

/-- The records of an announcement (R3). -/
def announced (l : Ltr) : List Announced := l.track.map fun b => ⟨b.serial, position l.pitch b, b.recipe⟩

/-- Whether a verdict entry is other than OK (R13). -/
def entryFails (v : CameraNo × Verdict) : Bool := v.2 != .ok

/-- A record that passes at the gate (R13). -/
def recordPasses (b : Bottle) : Bool := b.fill == .ok && !b.verdicts.any entryFails && b.sample.isNone

/-- The primary reason of a reject of a record (R13): FILL, then the lowest failing camera, then SAMPLE. -/
def primaryReason (b : Bottle) : RejectReason :=
  if b.fill ≠ .ok then .fill
  else
    match b.verdicts.find? entryFails with
    | some v => .camera v.1
    | none => .sample

/-- The cameras whose verdict entry was not OK (R15). -/
def failingCameras (b : Bottle) : CameraSet :=
  (b.verdicts.filter entryFails).foldl (fun set v => withMember set v.1) 0

/-- The rejected counter of a primary reason (R13). -/
def rejectedCounter : RejectReason → LineCounter
  | .fill => .rejectedFill
  | .camera _ => .rejectedCamera
  | .sample => .rejectedSample
  | .untracked => .untrackedAtGate

/-! ## Encoder (R1, R2) -/

/-- TRACK_REVERSE as the debt and N give it: active while the debt is N or more (R2). -/
def State.settleReverse (s : State) : State :=
  let active := decide (s.cfg.geometry.stepsPerPitch ≤ s.ltr.debt)
  (s.setLtr { s.ltr with trackReverse := active }).reportSource .trackReverse s.ltr.trackReverse active

/-- Whether the change of one encoder input is a forward step: with A_LEADS a change of A that leaves the two different, or
of B that leaves them equal; with B_LEADS the other way (R1). -/
def stepIsForward (direction : CountDirection) (input : EncoderInput) (differAfter : Bool) : Bool :=
  let aLeadsForward := match input with
    | .a => differAfter
    | .b => !differAfter
  match direction with
  | .aLeads => aLeadsForward
  | .bLeads => !aLeadsForward

/-- The reference levels after a change of one input (R1). -/
def Ltr.toggle (l : Ltr) (input : EncoderInput) : Ltr :=
  match input with
  | .a => { l with refA := !l.refA }
  | .b => { l with refB := !l.refB }

/-! ## The reject gate (R12 to R20) -/

/-- A reject asserts GATE and starts or restarts its pulse; one actuation is counted on the gate account (R14). -/
def State.actuateGate (s : State) : State :=
  (s.setLtr { s.ltr with gate := true, gateEnd := some (s.now + s.cfg.geometry.pulseMs * Config.ms) }).send
    (.accountCount .gate)

/-- An entry joins the newest end of the reject log; the oldest of 16 leaves first (R15). -/
def logReject (log : List RejectEntry) (e : RejectEntry) : List RejectEntry :=
  (if log.length < Config.rejectLogCapacity then log else log.drop 1) ++ [e]

/-- A reject is logged and placed in the verify slot (R15, R16). -/
def State.recordReject (s : State) (e : RejectEntry) : State :=
  s.setLtr { s.ltr with log := logReject s.ltr.log e, verify := some ⟨e.serial⟩ }

/-- The departure of a record is announced to the FMU, the CTU and the ACU (R20). -/
def State.announceDeparture (s : State) (serial : Nat) (how : Departure) (reason : Option RejectReason) : State :=
  s.sendAll [.fmuDeparture serial, .ctuDeparture serial, .acuReport (.departure serial how reason)]

/-- The oldest record leaves the track. -/
def State.removeOldest (s : State) : State := s.setLtr { s.ltr with track := s.ltr.track.drop 1 }

/-- The verify slot is emptied (R12). -/
def State.emptyVerify (s : State) : State := s.setLtr { s.ltr with verify := none }

/-- The record passes: GATE is not actuated (R13). -/
def State.passRecord (s : State) (b : Bottle) : State :=
  (s.emptyVerify.countLine .passed 1).removeOldest.announceDeparture b.serial .passed none

/-- The record is rejected with its primary reason (R13). -/
def State.rejectRecord (s : State) (b : Bottle) : State :=
  let reason := primaryReason b
  ((((s.actuateGate).recordReject ⟨some b.serial, reason, failingCameras b, some b.fill, s.stamp, false⟩).countLine
    (rejectedCounter reason) 1).removeOldest).announceDeparture b.serial .rejected (some reason)

/-- The record is removed as LOST (R18). -/
def State.loseRecord (s : State) (b : Bottle) : State :=
  (s.emptyVerify.countLine .lost 1).removeOldest.announceDeparture b.serial .lost none

/-- An untracked container is rejected (R19). -/
def State.rejectUntracked (s : State) : State :=
  ((s.actuateGate).recordReject ⟨none, .untracked, 0, none, s.stamp, false⟩).countLine .untrackedAtGate 1

/-- The oldest record when it stands at the gate offset L (R12). -/
def recordAtGate (s : State) : Option Bottle :=
  match s.ltr.track with
  | [] => none
  | b :: _ => if position s.ltr.pitch b = s.cfg.geometry.gateOffset then some b else none

/-- The gate step of a pitch event: the four cases of R12. -/
def gateStep (s : State) : State :=
  match recordAtGate s, s.inputs.gatePres with
  | some b, true => if recordPasses b then s.passRecord b else s.rejectRecord b
  | some b, false => s.loseRecord b
  | none, true => s.rejectUntracked
  | none, false => s.emptyVerify

/-- The failed mark of the newest entry of the reject log (R16, R17). -/
def markNewestFailed (log : List RejectEntry) : List RejectEntry :=
  match log.getLast? with
  | some e => log.dropLast ++ [{ e with failed := true }]
  | none => log

/-- The verify step of a pitch event: GATE_VFY is sampled only for a reject in the slot (R17). -/
def verifyStep (s : State) : State :=
  if s.ltr.verify.isSome && s.inputs.gateVfy then
    ((s.setLtr { s.ltr with log := markNewestFailed s.ltr.log }).countLine .rejectsFailed 1).send
      (.eventSourceLatch .rejectFailed)
  else s

/-! ## Infeed (R6 to R8) -/

/-- The serial of the record to be made, when one may be made (R6 to R8). -/
def serialForNew (l : Ltr) : Option Nat :=
  if l.track.length < Config.trackCapacity then
    match l.nextSerial with
    | some n => some n
    | none => if l.track.isEmpty then some 1 else none
  else none

/-- The next serial after one is taken: EXHAUSTED after the last (R6). -/
def serialAfter (n : Nat) : Option Nat := if n = Config.lastSerial then none else some (n + 1)

/-- The verdict list of a new record: PENDING for each camera of the recipe's set, ascending (R5). -/
def newVerdicts (cameras : CameraSet) : List (CameraNo × Verdict) := (cameraMembers cameras).map fun k => (k, .pending)

/-- TRACK_FULL as the LTR holds it, with the change told to the PML (R7, R8). -/
def State.setTrackFull (s : State) (full : Bool) : State :=
  (s.setLtr { s.ltr with trackFull := full }).reportSource .trackFull s.ltr.trackFull full

/-- A bottle record is made and announced to the FMU and the ACU (R7). -/
def State.makeRecord (s : State) (serial : Nat) : State :=
  let recipe := s.fmu.active
  let b : Bottle :=
    { serial := serial, infeedPitch := s.ltr.pitch, stamp := s.stamp, recipe := recipe, fillAxis := none
      fill := .pending, verdicts := newVerdicts s.cfg.recipes[recipe].cameras, sample := none, hits := 0 }
  ((((s.setLtr { s.ltr with track := s.ltr.track ++ [b], nextSerial := serialAfter serial }).countLine .recordsMade
    1).setTrackFull false).send (.assignmentArbiter serial recipe s.ltr.pitch)).send (.acuReport (.newRecord serial))

/-- A container at infeed gets no record; a full track makes TRACK_FULL active (R8). -/
def State.missInfeed (s : State) : State :=
  let s1 := s.countLine .untrackedAtInfeed 1
  if s.ltr.track.length < Config.trackCapacity then s1 else s1.setTrackFull true

/-- The infeed step of a pitch event (R7, R8). -/
def infeedStep (s : State) : State :=
  if s.inputs.infeed then
    match serialForNew s.ltr with
    | some n => s.makeRecord n
    | none => s.missInfeed
  else s

/-! ## Pitch events (R3) -/

/-- The pitch count goes up by one, wrapping. -/
def State.advancePitch (s : State) : State := s.setLtr { s.ltr with pitch := s.ltr.pitch + 1 }

/-- A pitch event on the LTR's own state (verify, gate, infeed), then its announcement to the FMU and the CTU (R3). -/
def pitchEvent (s : State) : State :=
  let t := infeedStep (gateStep (verifyStep s.advancePitch))
  t.sendAll [.fmuPitchEvent t.ltr.pitch (announced t.ltr), .ctuPitchEvent t.ltr.pitch (announced t.ltr)]

/-- The step-in-pitch count changes; the new count is handed to the CTU (R2). -/
def State.setStep (s : State) (n : Nat) : State := (s.setLtr { s.ltr with step := n }).send (.lineTrigger n)

/-- A forward step event (R2). -/
def forwardStep (s : State) : State :=
  if s.ltr.debt = 0 then
    if s.cfg.geometry.stepsPerPitch ≤ s.ltr.step + 1 then pitchEvent (s.setStep 0) else s.setStep (s.ltr.step + 1)
  else (s.setLtr { s.ltr with debt := s.ltr.debt - 1 }).settleReverse

/-- A backward step event (R2). -/
def backwardStep (s : State) : State :=
  (s.setLtr { s.ltr with debt := min (s.ltr.debt + 1) Config.debtLimit }).settleReverse

/-- STEP_EVENT (R1, R2): one encoder input changes to a neighbouring state of the cycle. -/
def execStepEvent (input : EncoderInput) (s : State) : Result :=
  taken (.stepEvent input) s fun s =>
    let s1 := s.setLtr (s.ltr.toggle input)
    if stepIsForward s.cfg.geometry.direction input (s1.ltr.refA != s1.ltr.refB) then forwardStep s1 else backwardStep s1

/-- ENCODER_ERROR (R1): both inputs change; the new levels are the reference and no step event is taken. -/
def execEncoderError (s : State) : Result :=
  taken .encoderError s fun s => (s.setLtr ((s.ltr.toggle .a).toggle .b)).countLine .encoderErrors 1

/-- GATE_PULSE_EXPIRY (R14): at the end time GATE goes low. -/
def execGatePulseExpiry (s : State) : Result :=
  taken .gatePulseExpiry s fun s =>
    match s.ltr.gateEnd with
    | some t => if t ≤ s.now then s.setLtr { s.ltr with gate := false, gateEnd := none } else s
    | none => s

/-! ## Reports into records (R9 to R11) -/

/-- A change of the record with a serial; nothing when the track has none. -/
def State.updateRecord (s : State) (serial : Nat) (f : Bottle → Bottle) : State :=
  s.setLtr { s.ltr with track := s.ltr.track.map fun b => if b.serial = serial then f b else b }

/-- A fill report applied to its record: the axis when absent, the result while PENDING (R9). -/
def applyFillItem (item : FillItem) (b : Bottle) : Bottle :=
  match item with
  | .axis k => if b.fillAxis.isNone then { b with fillAxis := some k } else b
  | .result r => if b.fill = .pending then { b with fill := r } else b

/-- A verdict written into the record's PENDING entry for its camera (R10). -/
def applyVerdict (k : CameraNo) (v : Verdict) (b : Bottle) : Bottle :=
  { b with verdicts := b.verdicts.map fun e => if e.1 = k ∧ e.2 = .pending then (k, v) else e }

/-- A watch hit, and the sample mark when asked for and absent (R11). -/
def applyWatchHit (w : WatchNo) (sample : Bool) (b : Bottle) : Bottle :=
  { b with hits := withMember b.hits w, sample := if sample && b.sample.isNone then some w else b.sample }

/-- FILL_REPORT (R9). -/
def execFillReport (serial : Nat) (item : FillItem) (s : State) : Result :=
  taken (.fillReport serial item) s fun s => s.updateRecord serial (applyFillItem item)

/-- VERDICT_REPORT (R10). -/
def execVerdictReport (serial : Nat) (camera : CameraNo) (verdict : Verdict) (s : State) : Result :=
  taken (.verdictReport serial camera verdict) s fun s => s.updateRecord serial (applyVerdict camera verdict)

/-- WATCH_REPORT (R11). -/
def execWatchReport (serial : Nat) (watch : WatchNo) (sample : Bool) (s : State) : Result :=
  taken (.watchReport serial watch sample) s fun s => s.updateRecord serial (applyWatchHit watch sample)

/-! ## Requests -/

/-- Whether a gate offset exceeds every axis's S and every camera's C + V (R4, R201). -/
def offsetsFit (c : Settings) (gateOffset : Nat) : Bool :=
  (axisNos.all fun k => c.axes[k].startOffset < gateOffset)
    && cameraNos.all fun k => c.cameras[k].pitchOffset + c.cameras[k].window < gateOffset

/-- The ranges of the line geometry (R4). -/
def geometryInRange (gateOffset stepsPerPitch pulseMs : Nat) : Bool :=
  3 ≤ gateOffset && gateOffset ≤ 1000 && 16 ≤ stepsPerPitch && stepsPerPitch ≤ 4096 && 5 ≤ pulseMs && pulseMs ≤ 200

/-- The geometry is replaced; a change of N sets the step-in-pitch count to 0, and a count that changes is handed to the CTU (R2);
TRACK_REVERSE follows the new N (R4). -/
def State.applyGeometry (s : State) (g : Geometry) : State :=
  let s1 := s.configure { s.cfg with geometry := g }
  (if g.stepsPerPitch = s.cfg.geometry.stepsPerPitch ∨ s.ltr.step = 0 then s1 else s1.setStep 0).settleReverse

/-- LINE_GEOMETRY (R4). -/
def execLineGeometry (gateOffset stepsPerPitch pulseMs direction : Nat) (s : State) : Result :=
  taken (.lineGeometry gateOffset stepsPerPitch pulseMs direction) s fun s =>
    s.withLevel 2 fun s =>
      s.requireSome (countDirectionOf direction) .badValue fun d s =>
        s.require (geometryInRange gateOffset stepsPerPitch pulseMs && offsetsFit s.cfg gateOffset) .badValue fun s =>
          s.require (s.ltr.track.isEmpty && s.ltr.verify.isNone) .busy fun s =>
            (s.applyGeometry ⟨gateOffset, stepsPerPitch, pulseMs, d⟩).replyOk []

/-- An axis that holds an assignment and is in LOWERING, FILLING or RAISING (R21). -/
def Axis.isFillingAssigned (a : Axis) : Bool :=
  !a.assignments.isEmpty && (a.motion == .lowering || a.motion == .filling || a.motion == .raising)

/-- The track is emptied and the clear announced to the FMU and the CTU (R21). -/
def State.clearTrack (s : State) : State :=
  let s1 := s.countLine .cleared s.ltr.track.length
  (s1.setLtr { s1.ltr with track := [] }).sendAll [.fmuLineClear, .ctuLineClear]

/-- LINE_CLEAR (R21). -/
def execLineClear (s : State) : Result :=
  taken .lineClear s fun s =>
    s.withLevel 1 fun s =>
      s.require (!axisNos.any fun k => (s.axis k).isFillingAssigned) .busy fun s =>
        s.clearTrack.replyOk (byte s.ltr.track.length)

/-- The body of LINE_STATUS (R23); a next serial that is EXHAUSTED stands as an absent one, and GATE is 1 when high
(log 11). -/
def lineStatusBody (s : State) : List Byte :=
  let l := s.ltr
  let g := s.cfg.geometry
  be 4 l.pitch.toNat ++ be 2 l.step ++ be 2 l.debt ++ byte l.track.length
    ++ optional 4 (l.track.head?.map (·.serial)) ++ optional 4 (l.track.getLast?.map (·.serial))
    ++ optional 4 l.nextSerial ++ verifyBytes l.verify
    ++ yesNo l.gate ++ yesNo l.trackFull ++ yesNo l.trackReverse
    ++ be 2 g.gateOffset ++ be 2 g.stepsPerPitch ++ byte g.pulseMs ++ byte (countDirectionCode g.direction)
    ++ l.counters.toList.flatMap (be 8)
where
  /-- The verify slot: empty, or the serial or UNTRACKED of its reject (R23; log 11). -/
  verifyBytes : Option VerifyReject → List Byte
    | none => 0#8 :: optional 4 none
    | some v => 1#8 :: optional 4 v.serial

/-- LINE_STATUS (R23). -/
def execLineStatus (s : State) : Result :=
  taken .lineStatus s fun s => s.replyOk (lineStatusBody s)

/-- The records TRACK_READ returns: the first whose serial is at least the one named and those that follow, up to six
(R23). -/
def recordsFrom (track : List Bottle) (serial : Nat) : List Bottle :=
  (track.dropWhile fun b => b.serial < serial).take 6

/-- TRACK_READ (R23, R195). -/
def execTrackRead (serial : Nat) (s : State) : Result :=
  taken (.trackRead serial) s fun s =>
    s.require (1 ≤ serial && serial ≤ Config.lastSerial) .badValue fun s =>
      s.replyOk (listBytes (fun b => bottleBytes b (position s.ltr.pitch b)) (recordsFrom s.ltr.track serial))

/-- A reject log entry with all its fields (R15, R24). -/
def rejectEntryBytes (e : RejectEntry) : List Byte :=
  optional 4 e.serial ++ byte (rejectReasonCode e.reason) ++ byte e.failing.toNat
    ++ optional 1 (e.fill.map fillResultCode) ++ optional 8 e.stamp ++ yesNo e.failed

/-- REJECT_LOG_READ (R24). -/
def execRejectLogRead (start : Nat) (s : State) : Result :=
  taken (.rejectLogRead start) s fun s =>
    s.require (start ≤ 15) .badValue fun s =>
      s.replyOk (byte s.ltr.log.length ++ listBytes rejectEntryBytes ((s.ltr.log.drop start).take 8))

end Sys2Proof.Machine
end

