-- ==== Sys2Proof/Machine/Authority.lean ====
section
/-!
DEFINITION. Authority.lean: the grant check of R128, the checks of a request that names a set as a whole (R39), and the run of
such a request over its members.
-/

namespace Sys2Proof.Machine

open Sys2Proof

/-! ## Grants (R128, R129) -/

/-- A grant id a request may name (R128). -/
def grantIdOk (id : Nat) : Bool := 1 ≤ id && id ≤ 255

/-- The slot that holds a grant id (R129). -/
def State.slotOf (s : State) (id : Nat) : Option (Fin 4) := fourNos.find? fun i => (s.grant i).any fun g => g.id == id

/-- The grant with an id, when a slot holds it. -/
def State.grantOf (s : State) (id : Nat) : Option Grant := (s.slotOf id).bind s.grant

/-- The grant check of one member: the reason it fails with, or none when the member passes (R128). -/
def State.grantCheck (s : State) (id : Nat) (covers : Grant → Bool) : Option Reason :=
  match s.grantOf id with
  | none => some .noGrant
  | some g =>
    if !covers g then some .noGrant
    else match g.state with
      | .closing => some .state
      | .opened => none

/-- The grant check of an axis. -/
def State.grantCheckAxis (s : State) (id : Nat) (k : AxisNo) : Option Reason := s.grantCheck id fun g => g.axes.getLsbD k

/-- The grant check of a camera. -/
def State.grantCheckCamera (s : State) (id : Nat) (k : CameraNo) : Option Reason :=
  s.grantCheck id fun g => g.cameras.getLsbD k

/-- A member check that a grant precedes: the member's result when the grant check fails, and the check's own otherwise. -/
def afterGrant (check : Option Reason) (s : State) (f : State → State × MemberResult) : State × MemberResult :=
  match check with
  | some r => (s, .refused r)
  | none => f s

/-! ## Requests that name a set (R39) -/

/-- Each member is checked and acted on in ascending order; the results stand in that order (R39, R187). The last value a
member gives is its detail byte. -/
def runMembersDetailed {α : Type} (members : List α) (number : α → Nat)
    (f : α → State → State × MemberResult × Nat) (s : State) : State × List Byte :=
  members.foldl (fun acc m => ((f m acc.1).1,
    acc.2 ++ memberBytes (number m) (f m acc.1).2.1 (f m acc.1).2.2)) (s, [])

/-- The same for a request whose detail bytes are 0 (R187). -/
def runMembers {α : Type} (members : List α) (number : α → Nat) (f : α → State → State × MemberResult) (s : State) :
    State × List Byte :=
  runMembersDetailed members number (fun m s => ((f m s).1, (f m s).2, 0)) s

/-- A request on an axis set, answered OK with one result a member (R39). -/
def State.onAxes (s : State) (axes : AxisSet) (f : AxisNo → State → State × MemberResult) : State :=
  (runMembers (axisMembers axes) (fun k => k.val) f s).1.replyOk (runMembers (axisMembers axes) (fun k => k.val) f s).2

/-- A request on a camera set, answered OK with one result a member (R39). -/
def State.onCameras (s : State) (cameras : CameraSet) (f : CameraNo → State → State × MemberResult) : State :=
  (runMembers (cameraMembers cameras) (fun k => k.val) f s).1.replyOk
    (runMembers (cameraMembers cameras) (fun k => k.val) f s).2

/-- The checks of a set request of a level as a whole: the set, the level, the value common to all members (R39); a camera
set that names a camera 6 or 7 fails with the empty set, before the level (log 12). -/
def State.wholeSet (s : State) (named : Bool) (need : Nat) (common : Bool) (f : State → State) : State :=
  s.require named .badValue fun s => s.withLevel need fun s => s.require common .badValue f

/-- The checks of a set request under a grant as a whole: the set, the grant id, the value common to all members (R39,
R128). -/
def State.wholeSetUnderGrant (s : State) (named : Bool) (id : Nat) (common : Bool) (f : State → State) : State :=
  s.require (named && grantIdOk id && common) .badValue f

end Sys2Proof.Machine
end

