-- ==== Sys2Proof/Machine/Motion.lean ====
section
/-!
DEFINITION. Motion.lean: how an axis moves (chapter 2): the start of a move, its pulses and ramp, at-rest events, stops and the
halt, and the dropping of assignments that stops and halts share.
-/

namespace Sys2Proof.Machine

open Sys2Proof

/-! ## The axis record -/

/-- An axis in motion: a move or a stop that issues pulses is in progress (2.2). -/
def Axis.inMotion (a : Axis) : Bool := a.profile.isSome

/-- The position range (R26). -/
def positionLow : Int := -8388608
def positionHigh : Int := 8388607

/-- The pulses needed to slow from the current speed to the start speed, rounded up (R29). -/
def neededPulses (p : Profile) (speed : Nat) : Nat :=
  let slow := p.startSpeed * 1000
  let per := 2000 * p.acceleration * 1000000
  (speed * speed - slow * slow + (per - 1)) / per

/-- The pulses an axis in motion needs to slow down (R29, R31). -/
def Axis.needed (a : Axis) : Nat :=
  match a.profile with
  | some p => neededPulses p a.speed
  | none => 0

/-- The at-rest values of R27. -/
def Axis.atRest (a : Axis) : Axis :=
  { a with speed := 0, ramp := none, remaining := none, profile := none, pulsePart := 0, lead := 0 }

/-- A DRAINING axis whose list is empty becomes RETIRED (R68). -/
def Axis.settleRetire (a : Axis) : Axis :=
  if a.retire = .draining ∧ a.assignments = [] then { a with retire := .retired } else a

/-- The start of a move (R28); flat marks a move that runs at the start speed throughout (R33, R45). The first pulse is due 10
microseconds later, the least that R26 allows after DIR is set (log 7). -/
def Axis.startMove (a : Axis) (down : Bool) (count : Option Nat) (p : Profile) (flat : Bool) : Axis :=
  { a with
    profile := some p
    dir := down
    remaining := count
    speed := p.startSpeed * 1000
    ramp := some (if flat || p.startSpeed == p.topSpeed then .cruise else .accel)
    pulsePart := 0
    lead := Config.firstPulseWait }

/-- The ramp after a pulse: DECEL once the ramp-down condition holds (R29). -/
def Axis.rampAfterPulse (a : Axis) : Option Ramp :=
  match a.ramp, a.remaining with
  | some .decel, _ => some .decel
  | r, some n => if n ≤ a.needed then some .decel else r
  | r, none => r

/-- One pulse on STEP (R26, R29). -/
def Axis.pulse (a : Axis) : Axis :=
  let a1 := { a with
    position := a.position.map fun p => if a.dir then p + 1 else p - 1
    remaining := a.remaining.map (· - 1)
    pulsePart := a.pulsePart - 1000000000
    lead := 0
    pulses := a.pulses + 1 }
  { a1 with ramp := a1.rampAfterPulse }

/-- One microsecond of the wait for the first pulse: the speed stays, so that the first pulse goes out at the start speed (R28;
log 7). -/
def Axis.awaitFirst (a : Axis) (left : Nat) : Axis :=
  { a with lead := left, pulsePart := if left = 0 then 1000000000 else a.pulsePart }

/-- One microsecond of the speed's ramp, and of the pulse period (R29; log 7). -/
def Axis.rampedOn (a : Axis) : Axis :=
  match a.profile, a.ramp with
  | some p, some .accel =>
    let v := min (a.speed + p.acceleration) (p.topSpeed * 1000)
    { a with speed := v, ramp := some (if v = p.topSpeed * 1000 then .cruise else .accel), pulsePart := a.pulsePart + v }
  | some p, some .decel =>
    let v := max (a.speed - p.acceleration) (p.startSpeed * 1000)
    { a with speed := v, pulsePart := a.pulsePart + v }
  | some _, _ => { a with pulsePart := a.pulsePart + a.speed }
  | none, _ => a

/-- One microsecond of an axis: the wait for a move's first pulse, and then the ramp (R28, R29; log 7). -/
def Axis.ramped (a : Axis) : Axis :=
  match a.lead with
  | left + 1 => a.awaitFirst left
  | 0 => a.rampedOn

/-! ## Inputs of an axis -/

/-- HOME active. -/
def State.homeActive (s : State) (k : AxisNo) : Bool := s.inputs.home.getLsbD k

/-- LIMIT active. -/
def State.limitActive (s : State) (k : AxisNo) : Bool := s.inputs.limit.getLsbD k

/-! ## Assignments, holds and halts -/

/-- The fill results of a list emptied by a halt or a stop: the first ABORTED, a second NOT_FILLED (R36). -/
def droppedReports : List Assignment → List Instr
  | [] => []
  | a :: rest =>
    .fillReport a.serial (.result .aborted) :: rest.map fun b => .fillReport b.serial (.result .notFilled)

/-- The release of an axis's hold, as the ACU is told of it (R36, R40, R62). -/
def releaseReports (k : AxisNo) : Option WatchNo → List Instr
  | none => []
  | some w => [.acuReport (.release k w)]

/-- The assignments are dropped, the hold is released, and the fill and its dwell end (R36, R40); the reports stand in the
order R36 names them (log 37). -/
def State.dropFill (s : State) (k : AxisNo) : State :=
  let a := s.axis k
  (s.setAxis k { a with assignments := [], held := none, fill := none, dwellEnd := none }.settleRetire).sendAll
    (droppedReports a.assignments ++ releaseReports k a.held)

/-- An at-rest event is reported to the ACU when the duty is MANUAL (R27). -/
def State.reportRest (s : State) (k : AxisNo) : State :=
  match (s.axis k).duty with
  | .manual => s.send (.closingReport (.atRest k (s.axis k).motion))
  | .auto => s

/-- AXIS_AT_REST is posted when the notify-on-rest flag is set, and the flag is cleared (R47). -/
def State.notifyRest (s : State) (k : AxisNo) (cause : EndCause) : State :=
  let a := s.axis k
  if a.notify then (s.setAxis k { a with notify := false }).post (.axisAtRest k a.motion cause a.position) else s

/-- Whether an axis is HALTED. -/
def State.anyHalted (s : State) : Bool := axisNos.any fun k => (s.axis k).motion == .halted

/-- The halt of R36. A halt of an axis that is HALTED does not happen. The at-rest report of R27 stands between the report of
the halt and AXIS_HALTED (log 37). -/
def State.haltAxis (s : State) (k : AxisNo) (cause : HaltCause) : State :=
  let a := s.axis k
  if a.motion = .halted then s
  else
    let s1 := s.dropFill k
    let s2 := s1.setAxis k { (s1.axis k).atRest with
      motion := .halted, position := none, haltCause := some cause, valve := false, valveTestEnd := none, notify := false }
    let s3 := s2.send (.acuReport (.halt k cause a.motion))
    let s4 := if a.inMotion then s3.reportRest k else s3
    (s4.post (.axisHalted k cause a.motion)).reportSource .axisHalted s.anyHalted true

/-! ## Moves and stops -/

/-- A move begins; with LIMIT active the axis halts before the first pulse (R28, R35). -/
def State.beginMove (s : State) (k : AxisNo) (down : Bool) (count : Option Nat) (p : Profile) (flat : Bool) : State :=
  let s1 := s.setAxis k ((s.axis k).startMove down count p flat)
  if s.limitActive k then s1.haltAxis k .limit else s1

/-- A decelerate stop that needs pulses: the remaining count is cut and the ramp is DECEL (R31); with LIMIT active the axis
halts before the first of them (R35). -/
def State.beginSlowing (s : State) (k : AxisNo) : State :=
  let a := s.axis k
  let s1 := s.setAxis k { a with
    remaining := some (match a.remaining with
      | some n => min n a.needed
      | none => a.needed)
    ramp := some .decel }
  if s.limitActive k then s1.haltAxis k .limit else s1

/-- The axis comes to rest in a motion state, with its at-rest event (R27). -/
def State.comeToRest (s : State) (k : AxisNo) (m : Motion) (cause : EndCause) : State :=
  ((s.setAxis k { (s.axis k).atRest with motion := m }).reportRest k).notifyRest k cause

/-- The state in which a decelerate stop leaves the axis (R31). -/
def Axis.stoppedState (a : Axis) : Motion := if a.position.isSome then .stopped else .unhomed

/-- A decelerate stop completes (R31). -/
def State.completeStop (s : State) (k : AxisNo) : State := s.comeToRest k (s.axis k).stoppedState .stopped

/-- A decelerate stop by AXIS_STOP or at the closing start of a grant (R31): at once when no pulse is needed. -/
def State.stopSlowly (s : State) (k : AxisNo) : State :=
  if (s.axis k).needed = 0 then s.completeStop k
  else (s.setAxis k { s.axis k with motion := .stopping }).beginSlowing k

/-- An immediate stop by AXIS_STOP: the position becomes invalid and the axis UNHOMED (R32). -/
def State.stopAtOnce (s : State) (k : AxisNo) : State :=
  (s.setAxis k { s.axis k with position := none }).comeToRest k .unhomed .stopped

/-- A valve test ends early: VALVE goes low and the test is not counted (R46). -/
def State.endValveTest (s : State) (k : AxisNo) : State :=
  let a := s.axis k
  match a.valveTestEnd with
  | some _ => s.setAxis k { a with valve := false, valveTestEnd := none }
  | none => s

end Sys2Proof.Machine
end

