-- ==== Sys2Proof/Machine/Cycle.lean ====
section
/-!
DEFINITION. Cycle.lean: the fill cycle (3.3 to 3.6): phase entries and holds, the three segments, the completion of a raise, and
the early end of a fill that a window expiry, a departure and a line clear share.
-/

namespace Sys2Proof.Machine

open Sys2Proof

/-! ## Dwell (R65) -/

/-- The trim index in use (R65). -/
def trimIndexInUse (c : Settings) (temperature : Option Int) : Nat :=
  match c.trimMode with
  | .pinned => c.pinnedIndex
  | .auto =>
    match temperature with
    | none => 0
    | some t => min (t / 20).toNat 31

/-- The effective dwell in ms (R65). -/
def effectiveDwell (c : Settings) (temperature : Option Int) (r : Recipe) : Nat :=
  let trim := if r.trimEnable then c.trims.toList.getD (trimIndexInUse c temperature) 0 else 0
  (max (r.dwellBase + trim) Config.dwellFloor).toNat

/-! ## Segments -/

/-- The motion state of a segment (R57). -/
def segmentMotion : FillPhase → Motion
  | .lowering => .lowering
  | .filling => .filling
  | .raising => .raising

/-- The segment of a motion state. -/
def segmentOf : Motion → Option FillPhase
  | .lowering => some .lowering
  | .filling => some .filling
  | .raising => some .raising
  | _ => none

/-- The recipe of the current fill's record, as it stands now (R49). -/
def State.fillRecipe (s : State) (f : Fill) : Recipe := s.cfg.recipes[f.recipe]

/-- An assignment leaves the list, and a DRAINING axis whose list is then empty becomes RETIRED (R54, R68). -/
def Axis.removeAssignment (a : Axis) (serial : Nat) : Axis :=
  { a with assignments := a.assignments.filter fun x => x.serial != serial }.settleRetire

/-- The motion state of an axis after its fill: ARMED with an assignment left, IDLE without (R61). -/
def Axis.freeMotion (a : Axis) : Motion := if a.assignments.isEmpty then .idle else .armed

/-- The completion of RAISING (R61). -/
def State.completeRaise (s : State) (k : AxisNo) : State :=
  let a := s.axis k
  match a.fill with
  | none => s.setAxis k { a.atRest with motion := a.freeMotion }
  | some f =>
    let a1 := if f.closing then a else a.removeAssignment f.serial
    let reports : List Instr := if f.closing then [] else [.fillReport f.serial (.result .ok)]
    ((s.setAxis k { a1.atRest with fill := none, motion := a1.freeMotion }.settleRetire).sendAll
      (reports ++ [.accountCount (.axis k)])).reportRest k

/-- A segment begins: LOWERING by R58, FILLING by R59, RAISING by R60. -/
def State.beginSegment (s : State) (k : AxisNo) (phase : FillPhase) : State :=
  let a := s.axis k
  match a.fill with
  | none => s
  | some f =>
    let r := s.fillRecipe f
    match phase with
    | .lowering => s.beginMove k true (some r.stroke) r.profile false
    | .filling =>
      s.setAxis k { a with
        valve := true, dwellEnd := some (s.now + effectiveDwell s.cfg s.fmu.temperature r * Config.ms) }
    | .raising =>
      let d := (a.position.getD 0).natAbs
      if d = 0 then s.completeRaise k else s.beginMove k false (some d) r.profile false

/-! ## Phase entries and holds (R57, R63) -/

/-- The lowest watch with a hold list entry for the phase that is not excluded (R57, R63). -/
def Axis.holderFor (a : Axis) (phase : FillPhase) : Option WatchNo :=
  fourNos.find? fun w => !a.excluded.getLsbD w && a.holdList.any fun e => e.watch == w && e.phase == phase

/-- The RAISING entry of a fill with its closing mark set is not held (R57). -/
def isClosingRaise (f : Option Fill) (phase : FillPhase) : Bool := f.any (·.closing) && phase == .raising

/-- A phase entry (R57): the motion state, the excluded watches, the hold, the report to the ACU, and the segment when no
watch holds; the report of the entry stands before those of the segment (log 37). -/
def State.phaseEntry (s : State) (k : AxisNo) (phase : FillPhase) : State :=
  let a := { s.axis k with motion := segmentMotion phase, excluded := 0 }
  let holder := if isClosingRaise a.fill phase then none else a.holderFor phase
  let s1 := (s.setAxis k { a with held := holder }).send
    (.acuReport (.phaseEntry k phase ((a.fill.map (·.serial)).getD 0) holder))
  match holder with
  | some _ => s1
  | none => s1.beginSegment k phase

/-- The hold list is consulted again after a release: another watch holds, or the segment begins (R63). -/
def State.consultAgain (s : State) (k : AxisNo) : State :=
  let a := s.axis k
  match segmentOf a.motion with
  | none => s.setAxis k { a with held := none }
  | some phase =>
    let holder := a.holderFor phase
    let s1 := s.setAxis k { a with held := holder }
    match holder with
    | some w => s1.send (.acuReport (.holdAfterRelease k phase ((a.fill.map (·.serial)).getD 0) w))
    | none => s1.beginSegment k phase

/-! ## The early end of a fill (R62, R64) -/

/-- LOWERING comes to rest at its end and hands over (R27, R58): to FILLING, or to RAISING when the fill is closing (R62). -/
def State.completeLowering (s : State) (k : AxisNo) : State :=
  let s1 := (s.setAxis k (s.axis k).atRest).reportRest k
  s1.phaseEntry k (if (s.axis k).fill.any (·.closing) then .raising else .filling)

/-- The closing mark is set, a hold is released and reported, the excluded watches are emptied, and the motion state is
handled by the table of R62. -/
def State.closeFill (s : State) (k : AxisNo) : State :=
  let a := s.axis k
  let s1 := (s.setAxis k { a with
    fill := a.fill.map fun f => { f with closing := true }
    held := none
    excluded := 0 }).sendAll (releaseReports k a.held)
  match a.motion with
  | .lowering =>
    if a.inMotion then
      if a.needed = 0 then s1.completeLowering k else s1.beginSlowing k
    else s1.phaseEntry k .raising
  | .filling => (s1.setAxis k { s1.axis k with valve := false, dwellEnd := none }).phaseEntry k .raising
  | .raising => if a.inMotion then s1 else s1.beginSegment k .raising
  | _ => s1

/-! ## Pitch events on one axis (R55, R56, R62) -/

/-- The assignment of the current fill. -/
def Axis.fillAssignment (a : Axis) : Option Assignment :=
  a.fill.bind fun f => a.assignments.find? fun x => x.serial == f.serial

/-- The window expiry of the current fill falls at this pitch count (R62). -/
def windowEnds (s : State) (k : AxisNo) (pitch : Pitch) : Bool :=
  match (s.axis k).fill, (s.axis k).fillAssignment with
  | some f, some x => !f.closing && x.startPitch + BitVec.ofNat 32 (s.fillRecipe f).window == pitch
  | _, _ => false

/-- The window expiry (R62): LATE is reported, the assignment leaves and the fill is closed. -/
def State.windowExpiry (s : State) (k : AxisNo) (pitch : Pitch) : State :=
  match (s.axis k).fill with
  | some f =>
    if windowEnds s k pitch then
      ((s.setAxis k ((s.axis k).removeAssignment f.serial)).send (.fillReport f.serial (.result .late))).closeFill k
    else s
  | none => s

/-- An axis ready to begin the fill of an assignment (R56). -/
def Axis.readyFor (a : Axis) (x : Assignment) : Bool :=
  a.motion == .armed && !a.inMotion && a.fill.isNone && a.assignments.head? == some x

/-- The start that falls at this pitch count: the fill begins, its report before that of its phase entry (log 37), or the
container is MISSED (R56). -/
def State.startDue (s : State) (k : AxisNo) (pitch : Pitch) : State :=
  let a := s.axis k
  match a.assignments.find? fun x => x.startPitch == pitch with
  | none => s
  | some x =>
    if a.readyFor x then
      ((s.setAxis k { a with fill := some ⟨x.serial, false, x.recipe⟩ }).send
        (.acuReport (.fillStart k x.serial))).phaseEntry k .lowering
    else (s.setAxis k (a.removeAssignment x.serial)).send (.fillReport x.serial (.result .missed))

/-- A pitch event on one axis: the window expiry first, the start second (R55). -/
def State.axisPitch (s : State) (pitch : Pitch) (k : AxisNo) : State := (s.windowExpiry k pitch).startDue k pitch

end Sys2Proof.Machine
end

