-- ==== Sys2Proof/Machine/Axes.lean ====
section
/-!
DEFINITION. Axes.lean: the meanings of the motion events and the axis requests (chapter 2, and R135, R137, R139 for duty).
-/

namespace Sys2Proof.Machine

open Sys2Proof

/-! ## Events -/

/-- STEP_PULSE (R26, R29): one pulse of a move in progress with a pulse left. -/
def execStepPulse (axis : AxisNo) (s : State) : Result :=
  taken (.stepPulse axis) s fun s =>
    let a := s.axis axis
    if a.inMotion && a.remaining != some 0 then s.setAxis axis a.pulse else s

/-- The completion of a move whose remaining count is 0, by the move it is (R30). -/
def State.completeMove (s : State) (k : AxisNo) : State :=
  match (s.axis k).motion with
  | .moving => s.comeToRest k .idle .complete
  | .stopping => s.completeStop k
  | .homing => s.haltAxis k .homeNotFound
  | .lowering => s.completeLowering k
  | .raising => s.completeRaise k
  | _ => s

/-- MOVE_COMPLETE (R30). -/
def execMoveComplete (axis : AxisNo) (s : State) : Result :=
  taken (.moveComplete axis) s fun s =>
    let a := s.axis axis
    if a.inMotion && a.remaining == some 0 then s.completeMove axis else s

/-- HOMING_TRAVEL_EXHAUSTED (R34). -/
def execHomingTravelExhausted (axis : AxisNo) (s : State) : Result :=
  taken (.homingTravelExhausted axis) s fun s =>
    let a := s.axis axis
    if a.motion == .homing && a.remaining == some 0 then s.haltAxis axis .homeNotFound else s

/-- Homing finds HOME (R34): position 0, IDLE, at rest, HOME_DONE, and the notify-on-rest flag clear. -/
def State.findHome (s : State) (k : AxisNo) : State :=
  ((s.setAxis k { (s.axis k).atRest with motion := .idle, position := some 0, notify := false }).reportRest k).post
    (.homeDone k)

/-- HOME_FOUND (R34): HOME becomes active; it has an effect in HOMING alone. -/
def execHomeFound (axis : AxisNo) (s : State) : Result :=
  taken (.homeFound axis) s fun s =>
    let s1 := s.setInputs { s.inputs with home := withMember s.inputs.home axis }
    if (s.axis axis).motion = .homing then s1.findHome axis else s1

/-- LIMIT_ACTIVE (R35): LIMIT becomes active; an axis in motion halts. -/
def execLimitActive (axis : AxisNo) (s : State) : Result :=
  taken (.limitActive axis) s fun s =>
    let s1 := s.setInputs { s.inputs with limit := withMember s.inputs.limit axis }
    if (s.axis axis).inMotion then s1.haltAxis axis .limit else s1

/-- DRIVE_BINDING_CHANGE (R38): the value is kept; a loss halts the axis. -/
def execDriveBindingChange (axis : AxisNo) (binding : UpDown) (s : State) : Result :=
  taken (.driveBindingChange axis binding) s fun s =>
    let a := s.axis axis
    let s1 := s.setAxis axis { a with binding := binding }
    if a.binding = .up ∧ binding = .down then s1.haltAxis axis .driveOffline else s1

/-- VALVE_TEST_EXPIRY (R46): VALVE goes low, one valve test is counted, and the end is notified. -/
def execValveTestExpiry (axis : AxisNo) (s : State) : Result :=
  taken (.valveTestExpiry axis) s fun s =>
    match (s.axis axis).valveTestEnd with
    | some t =>
      if t ≤ s.now then ((s.endValveTest axis).send (.accountCount (.axis axis))).notifyRest axis .complete else s
    | none => s

/-! ## Requests -/

/-- Homing begins (R33); in MANUAL duty its start is reported to the ACU (R137). -/
def State.beginHoming (s : State) (k : AxisNo) : State :=
  let c := s.cfg.axes[k]
  let s1 := s.setAxis k { s.axis k with motion := .homing, position := none, notify := true }
  let s2 := match (s.axis k).duty with
    | .manual => s1.send (.closingReport (.homingStarted k))
    | .auto => s1
  s2.beginMove k false (some c.homingLimit) c.manual true

/-- One member of AXIS_HOME, by the table of R33. -/
def homeMember (k : AxisNo) (s : State) : State × MemberResult :=
  let a := s.axis k
  if a.binding = .down then (s, .refused .state)
  else match a.motion with
    | .halted => (s, .refused .state)
    | .homing | .moving | .stopping | .armed | .lowering | .filling | .raising => (s, .refused .busy)
    | .unhomed | .idle | .stopped =>
      if a.valveTestEnd.isSome then (s, .refused .busy)
      else if s.homeActive k then
        ((s.setAxis k { a with position := some 0, motion := .idle }).post (.homeDone k), .ok)
      else (s.beginHoming k, .accepted)

/-- AXIS_HOME (R33). -/
def execAxisHome (axes : AxisSet) (s : State) : Result :=
  taken (.axisHome axes) s fun s => s.wholeSet (axes != 0) 1 true fun s => s.onAxes axes homeMember

/-- One member of CLEAR_HALT (R37). -/
def clearHaltMember (k : AxisNo) (s : State) : State × MemberResult :=
  let a := s.axis k
  if a.motion ≠ .halted then (s, .refused .state)
  else if s.limitActive k ∨ a.binding = .down then (s, .refused .state)
  else
    let s1 := s.setAxis k { a with motion := .unhomed, haltCause := none }
    (s1.reportSource .axisHalted true s1.anyHalted, .ok)

/-- CLEAR_HALT (R37). -/
def execClearHalt (axes : AxisSet) (s : State) : Result :=
  taken (.clearHalt axes) s fun s => s.wholeSet (axes != 0) 1 true fun s => s.onAxes axes clearHaltMember

/-- The effect of AXIS_STOP on one member, by the table of R40. -/
def stopEffect (mode : StopMode) (k : AxisNo) (s : State) : State × MemberResult :=
  let a := s.axis k
  let stand (s : State) : State := s.setAxis k { s.axis k with motion := .stopped }
  match a.motion, mode with
  | .unhomed, _ | .stopped, _ | .halted, _ => (s, .ok)
  | .idle, _ => (stand s, .ok)
  | .armed, _ => (stand (s.dropFill k), .ok)
  | .filling, _ => (stand ((s.setAxis k { a with valve := false }).dropFill k), .ok)
  | .lowering, .decelerate | .raising, .decelerate =>
    if !a.inMotion then (stand (s.dropFill k), .ok)
    else if a.motion == .lowering && a.fill.any (·.closing) then
      ((s.dropFill k).setAxis k { (s.dropFill k).axis k with motion := .stopping }, .accepted)
    else ((s.dropFill k).stopSlowly k, .accepted)
  | .lowering, .immediate | .raising, .immediate =>
    if !a.inMotion then (stand (s.dropFill k), .ok) else ((s.dropFill k).stopAtOnce k, .ok)
  | .homing, .decelerate | .moving, .decelerate =>
    (s.stopSlowly k, if a.needed = 0 then .ok else .accepted)
  | .homing, .immediate | .moving, .immediate | .stopping, .immediate => (s.stopAtOnce k, .ok)
  | .stopping, .decelerate => (s, .accepted)

/-- One member of AXIS_STOP (R40): the notify choice, the end of a valve test, the stop, and the notice of a member at
rest. -/
def stopMember (mode : StopMode) (notify : Bool) (k : AxisNo) (s : State) : State × MemberResult :=
  let s1 := s.setAxis k { s.axis k with notify := (s.axis k).notify || notify }
  let r := stopEffect mode k (s1.endValveTest k)
  (if (r.1.axis k).inMotion then r.1 else r.1.notifyRest k .stopped, r.2)

/-- AXIS_STOP (R40). -/
def execAxisStop (axes : AxisSet) (mode notify : Nat) (s : State) : Result :=
  taken (.axisStop axes mode notify) s fun s =>
    s.require (axes != 0) .badValue fun s => s.withLevel 1 fun s =>
      s.requireSome (stopModeOf mode) .badValue fun m s =>
        s.requireSome (yesNoOf notify) .badValue fun n s => s.onAxes axes (stopMember m n)

/-- The three numbers of a profile. -/
def profileBytes (p : Profile) : List Byte := be 2 p.startSpeed ++ be 4 p.topSpeed ++ be 2 p.acceleration

/-- An assignment in a status body. -/
def assignmentBytes (x : Assignment) : List Byte := be 4 x.serial ++ be 4 x.startPitch.toNat

/-- The fields of one member of AXIS_STATUS, in the order of the axis record's table (R41); the current speed in
whole p/s, rounded down, and a level 1 when high or active (log 11). -/
def axisStatusBytes (s : State) (k : AxisNo) : List Byte :=
  let a := s.axis k
  let c := s.cfg.axes[k]
  byte (motionCode a.motion) ++ byte (dutyCode a.duty) ++ byte (retireCode a.retire)
    ++ optional 1 (a.held.map fun w => w.val) ++ listBytes assignmentBytes a.assignments
    ++ optionalSigned 4 a.position ++ optional 4 a.remaining ++ be 4 (a.speed / 1000) ++ byte (rampCode a.ramp)
    ++ (match a.profile with
      | none => List.replicate 9 0#8
      | some p => 1#8 :: profileBytes p)
    ++ optional 1 (a.haltCause.map haltCauseCode) ++ yesNo a.notify ++ optional 8 a.valveTestEnd
    ++ byte (upDownCode a.binding) ++ be 2 c.startOffset ++ profileBytes c.manual ++ be 4 c.homingLimit
    ++ yesNo a.dir ++ yesNo a.valve ++ yesNo (s.homeActive k) ++ yesNo (s.limitActive k)

/-- AXIS_STATUS (R41). -/
def execAxisStatus (axes : AxisSet) (s : State) : Result :=
  taken (.axisStatus axes) s fun s =>
    s.require (axes != 0) .badValue fun s =>
      s.replyOk ((axisMembers axes).flatMap fun (k : AxisNo) => memberBytes k .ok 0 ++ axisStatusBytes s k)

/-- The ranges of a profile (R42, R49). -/
def profileInRange (p : Profile) : Bool :=
  10 ≤ p.startSpeed && p.startSpeed ≤ 10000 && p.startSpeed ≤ p.topSpeed && p.topSpeed ≤ 100000
    && 1 ≤ p.acceleration && p.acceleration ≤ 10000

/-- The ranges of AXIS_CONFIG (R42). -/
def axisSettingsInRange (c : AxisSettings) (gateOffset : Nat) : Bool :=
  1 ≤ c.startOffset && c.startOffset < gateOffset && profileInRange c.manual && 1 ≤ c.homingLimit
    && c.homingLimit ≤ 8388607

/-- An axis that AXIS_CONFIG finds BUSY (R42). -/
def Axis.isOccupied (a : Axis) : Bool := !a.assignments.isEmpty || a.inMotion || a.valveTestEnd.isSome

/-- AXIS_CONFIG (R42). -/
def execAxisConfig (axis startOffset startSpeed topSpeed acceleration homingLimit : Nat) (s : State) : Result :=
  taken (.axisConfig axis startOffset startSpeed topSpeed acceleration homingLimit) s fun s =>
    s.withLevel 2 fun s =>
      s.requireSome (finOf 8 axis) .badValue fun k s =>
        let c : AxisSettings := ⟨startOffset, ⟨startSpeed, topSpeed, acceleration⟩, homingLimit⟩
        s.require (axisSettingsInRange c s.cfg.geometry.gateOffset) .badValue fun s =>
          s.require (!(s.axis k).isOccupied) .busy fun s =>
            (s.configure { s.cfg with axes := s.cfg.axes.set k c }).replyOk []

/-- The return of an axis to AUTO duty (R43): UNHOMED with no position; a HALTED axis stays HALTED. No valve test runs then, so
VALVE is low (R26). -/
def Axis.toAuto (a : Axis) : Axis :=
  { a with
    duty := .auto, position := none, motion := if a.motion = .halted then .halted else .unhomed
    valve := false }

/-- One member of AXIS_DUTY once its authority is checked (R43). -/
def dutyMember (duty : Duty) (k : AxisNo) (s : State) : State × MemberResult :=
  let a := s.axis k
  match duty, a.duty with
  | .manual, .manual | .auto, .auto => (s, .ok)
  | .manual, .auto =>
    if a.assignments.isEmpty && !a.inMotion && a.motion != .filling then
      (s.setAxis k { a with duty := .manual }, .ok)
    else (s, .refused .state)
  | .auto, .manual =>
    if a.inMotion || a.valveTestEnd.isSome then (s, .refused .busy) else (s.setAxis k a.toAuto, .ok)

/-- AXIS_DUTY (R43, R135). -/
def execAxisDuty (axes : AxisSet) (grant duty : Nat) (s : State) : Result :=
  taken (.axisDuty axes grant duty) s fun s =>
    s.wholeSetUnderGrant (axes != 0) grant true fun s =>
      s.requireSome (dutyOf duty) .badValue fun d s =>
        s.onAxes axes fun k s => afterGrant (s.grantCheckAxis grant k) s (dutyMember d k)

/-- What the member checks of manual motion share: duty, drive binding, halt, motion, valve test (R44 to R46). -/
def manualCheck (a : Axis) (unhomedAllowed : Bool) : Option Reason :=
  if a.duty = .auto then some .state
  else if a.binding = .down then some .state
  else match a.motion with
    | .halted => some .state
    | .unhomed => if !unhomedAllowed then some .state else if a.valveTestEnd.isSome then some .busy else none
    | .idle | .stopped => if a.valveTestEnd.isSome then some .busy else none
    | _ => some .busy

/-- A manual move begins (R28, R44, R45). -/
def State.beginManual (s : State) (k : AxisNo) (down : Bool) (count : Option Nat) (flat : Bool) : State :=
  (s.setAxis k { s.axis k with motion := .moving, notify := true }).beginMove k down count s.cfg.axes[k].manual flat

/-- One member of AXIS_MOVE after its grant check, by the table of R44. -/
def moveMember (target : Int) (k : AxisNo) (s : State) : State × MemberResult :=
  let a := s.axis k
  if target < positionLow ∨ positionHigh < target then (s, .refused .badValue)
  else match manualCheck a false with
    | some r => (s, .refused r)
    | none =>
      let p := a.position.getD 0
      if target = p then ((s.setAxis k { a with notify := true }).notifyRest k .complete, .ok)
      else (s.beginManual k (decide (p < target)) (some (target - p).natAbs) false, .accepted)

/-- The target of a member, in ascending member order (R44). -/
def targetOf (axes : AxisSet) (targets : List Int) (k : AxisNo) : Int :=
  targets.getD ((axisMembers axes).filter fun j => j < k).length 0

/-- AXIS_MOVE (R44). -/
def execAxisMove (axes : AxisSet) (grant : Nat) (targets : List Int) (s : State) : Result :=
  taken (.axisMove axes grant targets) s fun s =>
    s.wholeSetUnderGrant (axes != 0) grant true fun s =>
      s.onAxes axes fun k s =>
        afterGrant (s.grantCheckAxis grant k) s (moveMember (targetOf axes targets k) k)

/-- The pulses from a position to the end of the range in a jog's direction (R28, R45). -/
def jogDistance (down : Bool) (p : Int) : Nat := (if down then positionHigh - p else p - positionLow).toNat

/-- One member of AXIS_JOG after its grant check (R45). -/
def jogMember (down : Bool) (k : AxisNo) (s : State) : State × MemberResult :=
  let a := s.axis k
  match manualCheck a true with
  | some r => (s, .refused r)
  | none =>
    match a.position with
    | some p =>
      if jogDistance down p = 0 then (s, .refused .state)
      else (s.beginManual k down (some (jogDistance down p)) true, .accepted)
    | none => (s.beginManual k down none true, .accepted)

/-- AXIS_JOG (R45). -/
def execAxisJog (axes : AxisSet) (grant direction : Nat) (s : State) : Result :=
  taken (.axisJog axes grant direction) s fun s =>
    s.wholeSetUnderGrant (axes != 0) grant true fun s =>
      s.requireSome (jogDownOf direction) .badValue fun down s =>
        s.onAxes axes fun k s => afterGrant (s.grantCheckAxis grant k) s (jogMember down k)

/-- One member of VALVE_TEST after its grant check (R46). -/
def valveMember (durationMs : Nat) (k : AxisNo) (s : State) : State × MemberResult :=
  let a := s.axis k
  match manualCheck a true with
  | some r => (s, .refused r)
  | none =>
    (s.setAxis k { a with valve := true, valveTestEnd := some (s.now + durationMs * Config.ms), notify := true },
      .accepted)

/-- VALVE_TEST (R46). -/
def execValveTest (axes : AxisSet) (grant durationMs : Nat) (s : State) : Result :=
  taken (.valveTest axes grant durationMs) s fun s =>
    s.wholeSetUnderGrant (axes != 0) grant (1 ≤ durationMs && durationMs ≤ 5000) fun s =>
      s.onAxes axes fun k s => afterGrant (s.grantCheckAxis grant k) s (valveMember durationMs k)

/-! ## Grants over axes -/

/-- One axis at the closing start of a grant that covers it, by the table of R137; an axis in AUTO duty is not touched. -/
def State.closeAxis (s : State) (k : AxisNo) : State :=
  let a := s.axis k
  match a.duty with
  | .auto => s
  | .manual =>
    if a.valveTestEnd.isSome then (s.endValveTest k).notifyRest k .stopped
    else match a.motion with
      | .moving | .homing => s.stopSlowly k
      | _ => s

/-- The grant's axes in MANUAL duty that are not at rest (R137). -/
def manualInMotion (s : State) (axes : AxisSet) : AxisSet :=
  ((axisMembers axes).filter fun k => (s.axis k).duty == .manual && (s.axis k).inMotion).foldl
    (fun set k => withMember set k) 0

/-- FMU_GRANT_CLOSING_START (R137): the axes of the set in ascending number (log 37). -/
def execFmuGrantClosingStart (grant : Nat) (axes : AxisSet) (s : State) : Result :=
  taken (.fmuGrantClosingStart grant axes) s fun s =>
    let s1 := (axisMembers axes).foldl State.closeAxis s
    s1.send (.closingReport (.axesInMotion grant (manualInMotion s1 axes)))

/-- FMU_GRANT_COMPLETION (R139): every axis of the set in MANUAL duty returns to AUTO as R43 gives, in ascending number
(log 37). -/
def execFmuGrantCompletion (axes : AxisSet) (s : State) : Result :=
  taken (.fmuGrantCompletion axes) s fun s =>
    (axisMembers axes).foldl (fun s k =>
      match (s.axis k).duty with
      | .manual => s.setAxis k (s.axis k).toAuto
      | .auto => s) s

end Sys2Proof.Machine
end

