-- ==== Sys2Proof/Machine/Fill.lean ====
section
/-!
DEFINITION. Fill.lean: the meanings of the fill events and the fill requests (chapter 3): the assignment arbiter, pitch events,
the dwell, holds, departures, recipes, trims, the product temperature and retirement.
-/

namespace Sys2Proof.Machine

open Sys2Proof

/-! ## The assignment arbiter (R52, R53) -/

/-- An axis eligible to take a new record (R52). -/
def Axis.eligible (a : Axis) : Bool :=
  a.duty == .auto && a.retire == .inService && a.assignments.length < 2 && a.binding == .up &&
    match a.motion with
    | .idle | .armed | .lowering | .filling | .raising => true
    | _ => false

/-- The axes in the order the arbiter examines them: from the pointer on, from 7 to 0 (R53). -/
def rotation (pointer : AxisNo) : List AxisNo := axisNos.map fun i => pointer + i

/-- The axis takes the record (R53). -/
def Axis.take (a : Axis) (serial : Nat) (recipe : RecipeNo) (startPitch : Pitch) : Axis :=
  { a with
    assignments := a.assignments ++ [⟨serial, startPitch, recipe⟩]
    motion := if a.motion = .idle then .armed else a.motion }

/-- ASSIGNMENT_ARBITER (R53). -/
def execAssignmentArbiter (serial : Nat) (recipe : RecipeNo) (infeedPitch : Pitch) (s : State) : Result :=
  taken (.assignmentArbiter serial recipe infeedPitch) s fun s =>
    match (rotation s.fmu.pointer).find? fun k => (s.axis k).eligible with
    | some k =>
      let start := infeedPitch + BitVec.ofNat 32 s.cfg.axes[k].startOffset
      let s1 := s.setAxis k ((s.axis k).take serial recipe start)
      (s1.setFmu { s1.fmu with pointer := k + 1 }).send (.fillReport serial (.axis k))
    | none => s.send (.fillReport serial (.result .notFilled))

/-! ## Pitch events and the dwell -/

/-- FMU_PITCH_EVENT (R55): each axis on its own, the window expiry first and the start second; the axes in ascending number
(log 37). -/
def execFmuPitchEvent (pitch : Pitch) (records : List Announced) (s : State) : Result :=
  taken (.fmuPitchEvent pitch records) s fun s => axisNos.foldl (fun s k => s.axisPitch pitch k) s

/-- FILL_WINDOW_EXPIRY (R62). -/
def execFillWindowExpiry (axis : AxisNo) (pitch : Pitch) (s : State) : Result :=
  taken (.fillWindowExpiry axis pitch) s fun s => s.windowExpiry axis pitch

/-- DWELL_EXPIRY (R59): VALVE goes low and the axis makes a phase entry into RAISING. -/
def execDwellExpiry (axis : AxisNo) (s : State) : Result :=
  taken (.dwellExpiry axis) s fun s =>
    match (s.axis axis).dwellEnd with
    | some t =>
      if t ≤ s.now then
        (s.setAxis axis { s.axis axis with valve := false, dwellEnd := none }).phaseEntry axis .raising
      else s
    | none => s

/-! ## Departures and line clear (R64) -/

/-- An ARMED axis with no assignment and no fill left becomes IDLE (R64). -/
def Axis.disarmed (a : Axis) : Axis :=
  if a.assignments = [] ∧ a.motion = .armed ∧ a.fill = none then { a with motion := .idle } else a

/-- The departure of a record as one axis takes it (R64). -/
def State.departAxis (s : State) (serial : Nat) (k : AxisNo) : State :=
  let a := s.axis k
  if a.assignments.any fun x => x.serial == serial then
    let a1 := a.removeAssignment serial
    if a.fill.any fun f => f.serial == serial then (s.setAxis k a1).closeFill k
    else s.setAxis k a1.disarmed
  else s

/-- FMU_DEPARTURE (R64): the axes in ascending number (log 37). -/
def execFmuDeparture (serial : Nat) (s : State) : Result :=
  taken (.fmuDeparture serial) s fun s => axisNos.foldl (fun s k => s.departAxis serial k) s

/-- The line clear as one axis takes it (R64). -/
def State.clearAxis (s : State) (k : AxisNo) : State :=
  let a := s.axis k
  let a1 : Axis := { a with assignments := [] }.disarmed.settleRetire
  if a.fill.any fun f => !f.closing then (s.setAxis k a1).closeFill k else s.setAxis k a1

/-- FMU_LINE_CLEAR (R64): the axes in ascending number (log 37). -/
def execFmuLineClear (s : State) : Result :=
  taken .fmuLineClear s fun s => axisNos.foldl State.clearAxis s

/-! ## The hold list (R63, R152) -/

/-- HOLD_LIST_ADD (R63): one entry a watch, at the end of the list (log 11). -/
def execHoldListAdd (axis : AxisNo) (watch : WatchNo) (phase : FillPhase) (s : State) : Result :=
  taken (.holdListAdd axis watch phase) s fun s =>
    let a := s.axis axis
    s.setAxis axis { a with holdList := a.holdList.filter (fun e => e.watch != watch) ++ [⟨watch, phase⟩] }

/-- HOLD_LIST_REMOVE (R63): the entry leaves; when its watch held the axis the hold list is consulted again. -/
def execHoldListRemove (axis : AxisNo) (watch : WatchNo) (s : State) : Result :=
  taken (.holdListRemove axis watch) s fun s =>
    let a := s.axis axis
    let s1 := s.setAxis axis { a with holdList := a.holdList.filter fun e => e.watch != watch }
    if a.held = some watch then s1.consultAgain axis else s1

/-- HOLD_RELEASE (R152): taken while the axis is held by that watch, and discarded otherwise. -/
def execHoldRelease (axis : AxisNo) (watch : WatchNo) (s : State) : Result :=
  taken (.holdRelease axis watch) s fun s =>
    let a := s.axis axis
    if a.held = some watch then
      (s.setAxis axis { a with excluded := withMember a.excluded watch }).consultAgain axis
    else s

/-! ## Retirement (R68, R69) -/

/-- ACCOUNT_ALARM_ENTRY (R68). -/
def execAccountAlarmEntry (axis : AxisNo) (s : State) : Result :=
  taken (.accountAlarmEntry axis) s fun s =>
    let a := s.axis axis
    if a.retire = .inService then s.setAxis axis { a with retire := .draining }.settleRetire else s

/-- ACCOUNT_ALARM_EXIT (R69). -/
def execAccountAlarmExit (axis : AxisNo) (s : State) : Result :=
  taken (.accountAlarmExit axis) s fun s => s.setAxis axis { s.axis axis with retire := .inService }

/-! ## Recipes (R49 to R51) -/

/-- The recipe that RECIPE_WRITE carries, when every value is in its range (R49, R50); trim enable is taken as a yes-or-no
value, on 1 and off 0 (log 11). -/
def recipeOf (v : RecipeValues) : Option Recipe :=
  match yesNoOf v.trimEnable with
  | none => none
  | some t =>
    let p : Profile := ⟨v.startSpeed, v.topSpeed, v.acceleration⟩
    if 1 ≤ v.stroke ∧ v.stroke ≤ 2000000 ∧ profileInRange p ∧ 10 ≤ v.dwellBase ∧ v.dwellBase ≤ 10000
        ∧ 1 ≤ v.window ∧ v.window ≤ 32 ∧ !namesNoCamera v.cameras then
      some ⟨v.stroke, p, v.dwellBase, t, v.window, v.cameras⟩
    else none

/-- The records in the track that carry a recipe (R50, R51). -/
def carriers (track : List Bottle) (n : RecipeNo) : Nat := (track.filter fun b => b.recipe == n).length

/-- The FMU reports the active recipe's camera set to the CTU (R50, R51). -/
def State.reportActiveSet (s : State) : State := s.send (.activeCameraSetReport s.cfg.recipes[s.fmu.active].cameras)

/-- A recipe is replaced (R50). -/
def State.writeRecipe (s : State) (n : RecipeNo) (r : Recipe) : State :=
  let s1 := s.configure { s.cfg with recipes := s.cfg.recipes.set n r }
  if n = s.fmu.active then s1.reportActiveSet else s1

/-- RECIPE_WRITE (R50). -/
def execRecipeWrite (number : Nat) (values : RecipeValues) (s : State) : Result :=
  taken (.recipeWrite number values) s fun s =>
    s.withLevel 2 fun s =>
      s.requireSome (finOf 16 number) .badValue fun n s =>
        s.requireSome (recipeOf values) .badValue fun r s =>
          s.require (carriers s.ltr.track n == 0) .busy fun s => (s.writeRecipe n r).replyOk []

/-- RECIPE_SELECT (R51). -/
def execRecipeSelect (number : Nat) (s : State) : Result :=
  taken (.recipeSelect number) s fun s =>
    s.withLevel 1 fun s =>
      s.requireSome (finOf 16 number) .badValue fun n s =>
        (s.setFmu { s.fmu with active := n }).reportActiveSet.replyOk []

/-- The eight values of a recipe (R49); trim enable on is 1 and off 0 (log 11). -/
def recipeBytes (r : Recipe) : List Byte :=
  be 4 r.stroke ++ profileBytes r.profile ++ be 2 r.dwellBase ++ yesNo r.trimEnable ++ byte r.window
    ++ byte r.cameras.toNat

/-- RECIPE_READ (R51). -/
def execRecipeRead (number : Nat) (s : State) : Result :=
  taken (.recipeRead number) s fun s =>
    s.requireSome (finOf 16 number) .badValue fun n s =>
      s.replyOk (recipeBytes s.cfg.recipes[n] ++ yesNo (n == s.fmu.active) ++ byte (carriers s.ltr.track n))

/-! ## Trims and temperature (R65 to R67) -/

/-- The trims written from a first index on (R66). -/
def writeTrims (table : Vector Int 32) (first : Nat) (trims : List Int) : Vector Int 32 :=
  Vector.ofFn fun i => if first ≤ i.val then trims.getD (i.val - first) table[i] else table[i]

/-- The ranges of TRIM_WRITE (R66). -/
def trimsInRange (first : Nat) (trims : List Int) : Bool :=
  first ≤ 31 && 1 ≤ trims.length && trims.length ≤ 32 && first + trims.length ≤ 32
    && trims.all fun t => -500 ≤ t && t ≤ 500

/-- TRIM_WRITE (R66). -/
def execTrimWrite (first : Nat) (trims : List Int) (s : State) : Result :=
  taken (.trimWrite first trims) s fun s =>
    s.withLevel 2 fun s =>
      s.require (trimsInRange first trims) .badValue fun s =>
        (s.configure { s.cfg with trims := writeTrims s.cfg.trims first trims }).replyOk []

/-- The trim mode and pinned index after TRIM_MODE, when its values are in range (R66; log 11). -/
def trimModeAfter (mode : Nat) (index : Option Nat) (pinned : Nat) : Option (TrimMode × Nat) :=
  match trimModeOf mode, index with
  | some .auto, none => some (.auto, pinned)
  | some .auto, some i => if i ≤ 31 then some (.auto, pinned) else none
  | some .pinned, some i => if i ≤ 31 then some (.pinned, i) else none
  | some .pinned, none => none
  | none, _ => none

/-- TRIM_MODE (R66). -/
def execTrimMode (mode : Nat) (index : Option Nat) (s : State) : Result :=
  taken (.trimMode mode index) s fun s =>
    s.withLevel 2 fun s =>
      s.requireSome (trimModeAfter mode index s.cfg.pinnedIndex) .badValue fun m s =>
        (s.configure { s.cfg with trimMode := m.1, pinnedIndex := m.2 }).replyOk []

/-- TRIM_READ (R66). -/
def execTrimRead (s : State) : Result :=
  taken .trimRead s fun s =>
    s.replyOk (s.cfg.trims.toList.flatMap (beSigned 2) ++ byte (trimModeCode s.cfg.trimMode) ++ byte s.cfg.pinnedIndex
      ++ byte (trimIndexInUse s.cfg s.fmu.temperature))

/-- TEMP_STALE as the FMU holds it, with the change told to the PML (R67). -/
def State.setTempStale (s : State) (stale : Bool) : State :=
  (s.setFmu { s.fmu with tempStale := stale }).reportSource .tempStale s.fmu.tempStale stale

/-- An accepted PRODUCT_TEMP (R67). -/
def State.takeTemperature (s : State) (t : Int) : State :=
  (s.setFmu { s.fmu with temperature := some t, temperatureDeadline := s.now + Config.temperatureWait }).setTempStale
    false

/-- PRODUCT_TEMP (R67). -/
def execProductTemp (temperature : Int) (s : State) : Result :=
  taken (.productTemp temperature) s fun s =>
    s.withLevel 1 fun s =>
      s.require (-200 ≤ temperature && temperature ≤ 1000) .badValue fun s =>
        (s.takeTemperature temperature).replyOk []

/-- TEMP_DEADLINE_EXPIRY (R67). -/
def execTempDeadlineExpiry (s : State) : Result :=
  taken .tempDeadlineExpiry s fun s => if s.fmu.temperatureDeadline ≤ s.now then s.setTempStale true else s

/-! ## Status (R70) -/

/-- The fill fields of one axis, in the order R70 names them; the closing mark is 1 when set and 0 when clear, and the
hold list entries stand in the order they were added (log 11). -/
def fillAxisBytes (s : State) (k : AxisNo) : List Byte :=
  let a := s.axis k
  byte (retireCode a.retire) ++ optional 1 (a.held.map fun w => w.val)
    ++ (match a.fill with
      | none => List.replicate 6 0#8
      | some f => 1#8 :: be 4 f.serial ++ yesNo f.closing)
    ++ optional 8 (a.dwellEnd.map fun t => t - s.now) ++ listBytes assignmentBytes a.assignments
    ++ listBytes (fun e => byte e.watch ++ byte (fillPhaseCode e.phase)) a.holdList ++ byte a.excluded.toNat

/-- FILL_STATUS (R70); the run time left to a temperature deadline that has passed is 0 (log 32). -/
def execFillStatus (s : State) : Result :=
  taken .fillStatus s fun s =>
    s.replyOk (byte s.fmu.active ++ byte s.fmu.pointer ++ byte (trimModeCode s.cfg.trimMode) ++ byte s.cfg.pinnedIndex
      ++ byte (trimIndexInUse s.cfg s.fmu.temperature) ++ optionalSigned 2 s.fmu.temperature ++ yesNo s.fmu.tempStale
      ++ be 8 (s.fmu.temperatureDeadline - s.now) ++ axisNos.flatMap (fillAxisBytes s))

end Sys2Proof.Machine
end

