-- ==== Sys2Proof/Machine/Cameras.lean ====
section
/-!
DEFINITION. Cameras.lean: the Camera Trigger Unit (chapter 4): triggers, verdicts, the verdict window, states and their two fault
sources, test mode and the camera requests.
-/

namespace Sys2Proof.Machine

open Sys2Proof

/-! ## States and their fault sources (R74) -/

/-- CAMERA_OFFLINE's condition: some camera in the active recipe's camera set is OFFLINE (R74). -/
def someOffline (c : Ctu) : Bool := cameraNos.any fun k => c.activeSet.getLsbD k && c.cameras[k].state == .offline

/-- CAMERA_FAULTED's condition: some camera is FAULTED (R74). -/
def someFaulted (c : Ctu) : Bool := cameraNos.any fun k => c.cameras[k].state == .faulted

/-- The CTU tells the PML what changed in its two conditions since an earlier state of the cameras (R74, R174). -/
def State.reportCameraSources (s : State) (before : Ctu) : State :=
  (s.reportSource .cameraOffline (someOffline before) (someOffline s.ctu)).reportSource .cameraFaulted
    (someFaulted before) (someFaulted s.ctu)

/-- A camera's state is set; a change is posted and the two fault sources follow (R74), in the order R74 names them
(log 37). -/
def State.setCameraState (s : State) (k : CameraNo) (new : CameraState) (cause : CameraCause) : State :=
  let old := (s.camera k).state
  if old = new then s
  else ((s.setCamera k { s.camera k with state := new }).post (.cameraState k old new cause)).reportCameraSources s.ctu

/-! ## Tags, pulses and verdicts -/

/-- CFLT active. -/
def State.faultLine (s : State) (k : CameraNo) : Bool := s.inputs.cflt.getLsbD k

/-- The next tag is the tag of a pending entry or is stale (R80). -/
def Camera.tagTaken (c : Camera) : Bool := c.stale.getLsbD c.nextTag || c.pending.any fun e => e.tag == c.nextTag

/-- A trigger pulse of a camera (R72). A pulse given while TRIG is high from the one before changes the tag lines at once and
TRIG stays high for 20 microseconds more (log 33). -/
def Camera.pulse (c : Camera) (now : RunTime) : Camera :=
  { c.count .triggers with tagLines := c.nextTag, trig := true, trigEnd := some (now + Config.triggerPulse) }

/-- A pulse is issued with the next tag, its pending entry joins the list, the tag moves on, and the pulse is counted on the
camera's account (R72, R80, R90). -/
def State.firePulse (s : State) (k : CameraNo) (serial : Option Nat) (triggerPitch : Pitch) (expiry : Option Pitch) :
    State :=
  let c := s.camera k
  (s.setCamera k { c.pulse s.now with
    pending := c.pending ++ [⟨serial, c.nextTag, triggerPitch, expiry, s.stamp⟩]
    nextTag := c.nextTag + 1 }).send (.accountCount (.camera k))

/-- A verdict is reported to the LTR and to the ACU (R78). -/
def State.reportVerdict (s : State) (serial : Nat) (k : CameraNo) (v : Verdict) : State :=
  s.sendAll [.verdictReport serial k v, .acuReport (.verdict serial k v)]

/-- A camera counter goes up by one. -/
def State.countCamera (s : State) (k : CameraNo) (c : CameraCounter) : State := s.setCamera k ((s.camera k).count c)

/-- The entries a test names are left out of the pending list as said, and their tags are stale. -/
def Camera.drop (c : Camera) (leaves : PendingEntry → Bool) : Camera :=
  { c with
    pending := c.pending.filter fun e => !leaves e
    stale := (c.pending.filter leaves).foldl (fun set e => withMember set e.tag) c.stale }

/-- Every pending entry that names a serial is reported with a verdict, oldest first (R79, R86; at a rearm log 37), and
counted when a counter is named. -/
def State.reportPending (s : State) (k : CameraNo) (v : Verdict) (counter : Option CameraCounter) : State :=
  (s.camera k).pending.foldl (fun s e =>
    match e.serial, counter with
    | some n, some c => (s.reportVerdict n k v).countCamera k c
    | some n, none => s.reportVerdict n k v
    | none, _ => s) s

/-- Every pending entry is resolved with a verdict; test entries are dropped; every tag is stale (R79, R86, R90). -/
def State.resolvePending (s : State) (k : CameraNo) (v : Verdict) (counter : Option CameraCounter) : State :=
  let s1 := s.reportPending k v counter
  s1.setCamera k ((s1.camera k).drop fun _ => true)

/-! ## Line triggers (R76 to R80) -/

/-- The effective step offset: N - 1 while c is N or more (R75). -/
def effectiveStep (c : Settings) (k : CameraNo) : Nat := min c.cameras[k].stepOffset (c.geometry.stepsPerPitch - 1)

/-- The camera faults at a line trigger: the record and every pending entry receive FAULT (R79). -/
def State.faultAtTrigger (s : State) (k : CameraNo) (serial : Nat) : State :=
  (((s.setCameraState k .faulted .cflt).reportVerdict serial k .fault).countCamera k .fault).resolvePending k .fault
    (some .fault)

/-- The six cases of a line trigger, the first that applies (R78). -/
def State.triggerCases (s : State) (k : CameraNo) (sc : Scheduled) : State :=
  let c := s.camera k
  match c.state with
  | .offline => s.reportVerdict sc.serial k .offline
  | .test => s.reportVerdict sc.serial k .testing
  | .faulted => (s.reportVerdict sc.serial k .fault).countCamera k .fault
  | .ready =>
    if s.faultLine k then s.faultAtTrigger k sc.serial
    else if c.tagTaken then (s.reportVerdict sc.serial k .overrun).countCamera k .overrun
    else s.firePulse k (some sc.serial) sc.pitch (some (sc.pitch + BitVec.ofNat 32 s.cfg.cameras[k].window))

/-- A line trigger: the scheduled trigger becomes absent, the stage is reported to the ACU, and the first case that applies is
taken (R77, R78). -/
def State.takeTrigger (s : State) (k : CameraNo) : State :=
  let c := s.camera k
  match c.scheduled with
  | none => s
  | some sc =>
    ((s.setCamera k { c with scheduled := none }).send (.acuReport (.lineStage sc.serial k))).triggerCases k sc

/-- LINE_TRIGGER (R77): each camera whose trigger is due at this step, in ascending number (log 37); a count of 0 takes
none by itself. -/
def execLineTrigger (count : Nat) (s : State) : Result :=
  taken (.lineTrigger count) s fun s =>
    if count = 0 then s
    else cameraNos.foldl (fun s k => if effectiveStep s.cfg k = count then s.takeTrigger k else s) s

/-- A window expiry of one pending entry: TIMEOUT, counted, and the tag stale (R84). -/
def State.expireEntry (s : State) (k : CameraNo) (e : PendingEntry) : State :=
  let s1 := match e.serial with
    | some n => s.reportVerdict n k .timeout
    | none => s
  let s2 := s1.countCamera k .timeout
  s2.setCamera k ((s2.camera k).drop fun x => x == e)

/-- The window expiries of a camera at a pitch count, oldest first (R76, R84). -/
def State.expireWindows (s : State) (k : CameraNo) (pitch : Pitch) : State :=
  ((s.camera k).pending.filter fun e => e.expiryPitch == some pitch).foldl (fun s e => s.expireEntry k e) s

/-- The record to be triggered in this pitch: the one at position C whose recipe enables the camera (R76). -/
def dueRecord (c : Settings) (k : CameraNo) (records : List Announced) : Option Announced :=
  records.find? fun r => r.position == c.cameras[k].pitchOffset && c.recipes[r.recipe].cameras.getLsbD k

/-- The scheduling of a camera at a pitch event (R76). -/
def State.schedule (s : State) (k : CameraNo) (pitch : Pitch) (records : List Announced) : State :=
  match dueRecord s.cfg k records with
  | some r => s.setCamera k { s.camera k with scheduled := some ⟨r.serial, pitch⟩ }
  | none => s

/-- A pitch event on one camera: expiry, scheduling, trigger at step 0 (R76). -/
def State.cameraPitch (s : State) (pitch : Pitch) (records : List Announced) (k : CameraNo) : State :=
  let s1 := (s.expireWindows k pitch).schedule k pitch records
  if effectiveStep s.cfg k = 0 then s1.takeTrigger k else s1

/-- CTU_PITCH_EVENT (R76): each camera on its own, in ascending number (log 37). -/
def execCtuPitchEvent (pitch : Pitch) (records : List Announced) (s : State) : Result :=
  taken (.ctuPitchEvent pitch records) s fun s => cameraNos.foldl (fun s k => s.cameraPitch pitch records k) s

/-- VERDICT_WINDOW_EXPIRY (R84). -/
def execVerdictWindowExpiry (camera : CameraNo) (pitch : Pitch) (s : State) : Result :=
  taken (.verdictWindowExpiry camera pitch) s fun s => s.expireWindows camera pitch

/-- TRIGGER_PULSE_END (R72): TRIG goes low; the tag lines keep their levels. -/
def execTriggerPulseEnd (camera : CameraNo) (s : State) : Result :=
  taken (.triggerPulseEnd camera) s fun s =>
    let c := s.camera camera
    match c.trigEnd with
    | some t => if t ≤ s.now then s.setCamera camera { c with trig := false, trigEnd := none } else s
    | none => s

/-! ## Verdict arrivals (R82, R83) -/

/-- An arrival bound to a pending entry (R82). -/
def State.bindVerdict (s : State) (k : CameraNo) (ng : Bool) (e : PendingEntry) : State :=
  let c := s.camera k
  let s1 := s.setCamera k { c with pending := c.pending.filter fun x => x.tag != e.tag }
  match e.serial with
  | some n => (s1.reportVerdict n k (if ng then .ng else .ok)).countCamera k (if ng then .ng else .ok)
  | none => s1.post (.testVerdict k e.tag ng e.stamp)

/-- VERDICT_ARRIVAL (R73, R82, R83). -/
def execVerdictArrival (camera : CameraNo) (ng : Bool) (tag : Tag) (s : State) : Result :=
  taken (.verdictArrival camera ng tag) s fun s =>
    let c := s.camera camera
    match c.pending.find? fun e => e.tag == tag with
    | some e => s.bindVerdict camera ng e
    | none =>
      if c.stale.getLsbD tag then
        (s.setCamera camera { c with stale := withoutMember c.stale tag }).countCamera camera .late
      else (s.countCamera camera .stray).post (.strayVerdict camera tag ng)

/-! ## Bindings, departures, line clear -/

/-- The binding of a camera is lost (R86): OFFLINE, and every pending entry resolved. -/
def State.loseCamera (s : State) (k : CameraNo) : State :=
  let s1 := s.setCamera k { s.camera k with binding := .down }
  if (s.camera k).state = .offline then s1
  else
    ((s1.setCamera k { s1.camera k with testGrant := none }).setCameraState k .offline .bindingLost).resolvePending k
      .offline none

/-- CAMERA_BINDING_CHANGE (R86, R87). -/
def execCameraBindingChange (camera : CameraNo) (binding : UpDown) (s : State) : Result :=
  taken (.cameraBindingChange camera binding) s fun s =>
    let c := s.camera camera
    if c.binding = .up ∧ binding = .down then s.loseCamera camera
    else s.setCamera camera { c with binding := binding }

/-- CTU_DEPARTURE (R85). -/
def execCtuDeparture (serial : Nat) (s : State) : Result :=
  taken (.ctuDeparture serial) s fun s =>
    cameraNos.foldl (fun s k => s.setCamera k ((s.camera k).drop fun e => e.serial == some serial)) s

/-- CTU_LINE_CLEAR (R85). -/
def execCtuLineClear (s : State) : Result :=
  taken .ctuLineClear s fun s =>
    cameraNos.foldl (fun s k =>
      s.setCamera k { (s.camera k).drop (fun _ => true) with scheduled := none }) s

/-- ACTIVE_CAMERA_SET_REPORT (R74). -/
def execActiveCameraSetReport (cameras : CameraSet) (s : State) : Result :=
  taken (.activeCameraSetReport cameras) s fun s =>
    (s.setCtu { s.ctu with activeSet := cameras }).reportCameraSources s.ctu

/-! ## Test mode (R89 to R91) -/

/-- A camera leaves TEST by request or by the closing start of its grant (R89). -/
def State.leaveTest (s : State) (k : CameraNo) (cause : CameraCause) : State :=
  (s.setCamera k { (s.camera k).drop (fun e => e.serial.isNone) with testGrant := none }).setCameraState k .ready cause

/-- One member of CAMERA_TEST after its grant check (R89). -/
def testMember (grant : Nat) (on : Bool) (k : CameraNo) (s : State) : State × MemberResult :=
  let c := s.camera k
  match on, c.state with
  | true, .ready =>
    ((s.setCamera k { c with testGrant := some grant }).setCameraState k .test .testOn, .ok)
  | true, .test => if c.testGrant = some grant then (s, .ok) else (s, .refused .state)
  | true, _ => (s, .refused .state)
  | false, .test => (s.leaveTest k .testOff, .ok)
  | false, _ => (s, .ok)

/-- A camera set that a request may name: not empty and within 0 to 5 (R39, R184); one check, so that both failings stand
before the level (log 12). -/
def cameraSetOk (cameras : CameraSet) : Bool := cameras != 0 && !namesNoCamera cameras

/-- CAMERA_TEST (R89). -/
def execCameraTest (cameras : CameraSet) (grant switch : Nat) (s : State) : Result :=
  taken (.cameraTest cameras grant switch) s fun s =>
    s.wholeSetUnderGrant (cameraSetOk cameras) grant true fun s =>
      s.requireSome (onOffOf switch) .badValue fun on s =>
        s.onCameras cameras fun k s => afterGrant (s.grantCheckCamera grant k) s (testMember grant on k)

/-- One member of TEST_TRIGGER after its grant check, with its detail byte (R90). -/
def testTriggerMember (grant : Nat) (k : CameraNo) (s : State) : State × MemberResult × Nat :=
  let c := s.camera k
  if c.state ≠ .test ∨ c.testGrant ≠ some grant then (s, .refused .state, 0)
  else if s.faultLine k then
    (((s.setCamera k { c with testGrant := none }).setCameraState k .faulted .cflt).resolvePending k .fault
      (some .fault), .fault, 0)
  else if c.tagTaken then (s.countCamera k .overrun, .overrun, 0)
  else (s.firePulse k none s.ltr.pitch none, .accepted, c.nextTag)

/-- TEST_TRIGGER (R90). -/
def execTestTrigger (cameras : CameraSet) (grant : Nat) (s : State) : Result :=
  taken (.testTrigger cameras grant) s fun s =>
    s.wholeSetUnderGrant (cameraSetOk cameras) grant true fun s =>
      let r := runMembersDetailed (cameraMembers cameras) (fun k => k.val) (fun k s =>
        match s.grantCheckCamera grant k with
        | some reason => (s, .refused reason, 0)
        | none => testTriggerMember grant k s) s
      r.1.replyOk r.2

/-- CTU_GRANT_CLOSING_START (R91): the cameras in TEST under the grant leave it, in ascending number (log 37). -/
def execCtuGrantClosingStart (grant : Nat) (s : State) : Result :=
  taken (.ctuGrantClosingStart grant) s fun s =>
    cameraNos.foldl (fun s k =>
      if (s.camera k).state = .test ∧ (s.camera k).testGrant = some grant then s.leaveTest k .grantClose else s) s

/-! ## Requests -/

/-- The ranges of CAMERA_CONFIG (R75). -/
def cameraSettingsInRange (c : CameraSettings) (g : Geometry) : Bool :=
  1 ≤ c.pitchOffset && c.pitchOffset < g.gateOffset && c.stepOffset < g.stepsPerPitch && 1 ≤ c.window && c.window ≤ 16
    && c.pitchOffset + c.window < g.gateOffset

/-- A camera that CAMERA_CONFIG finds BUSY: a record in the track has a verdict entry for it, or an entry is pending
(R75). -/
def State.cameraOccupied (s : State) (k : CameraNo) : Bool :=
  (s.ltr.track.any fun b => b.verdicts.any fun v => v.1 == k) || !(s.camera k).pending.isEmpty

/-- CAMERA_CONFIG (R75). -/
def execCameraConfig (camera pitchOffset stepOffset window : Nat) (s : State) : Result :=
  taken (.cameraConfig camera pitchOffset stepOffset window) s fun s =>
    s.withLevel 2 fun s =>
      s.requireSome (finOf 6 camera) .badValue fun k s =>
        let c : CameraSettings := ⟨pitchOffset, stepOffset, window⟩
        s.require (cameraSettingsInRange c s.cfg.geometry) .badValue fun s =>
          s.require (!s.cameraOccupied k) .busy fun s =>
            (s.configure { s.cfg with cameras := s.cfg.cameras.set k c }).replyOk []

/-- One member of CAMERA_REARM (R88). -/
def rearmMember (k : CameraNo) (s : State) : State × MemberResult :=
  let c := s.camera k
  if c.binding = .down ∨ s.faultLine k ∨ c.state = .test then (s, .refused .state)
  else
    let s1 := s.reportPending k .fault (some .fault)
    ((s1.setCamera k { s1.camera k with pending := [], stale := 0, nextTag := 0 }).setCameraState k .ready .rearm, .ok)

/-- CAMERA_REARM (R88). -/
def execCameraRearm (cameras : CameraSet) (s : State) : Result :=
  taken (.cameraRearm cameras) s fun s =>
    s.wholeSet (cameraSetOk cameras) 1 true fun s => s.onCameras cameras rearmMember

/-- A pending entry in a status body. -/
def pendingBytes (e : PendingEntry) : List Byte :=
  optional 4 e.serial ++ byte e.tag ++ be 4 e.triggerPitch.toNat ++ optional 4 (e.expiryPitch.map fun p => p.toNat)
    ++ optional 8 e.stamp

/-- The fields of one member of CAMERA_STATUS, in the order R93 names them; the set of stale tags is one byte, bit k for
tag k, and CFLT and TRIG are 1 when active or high (log 11). -/
def cameraStatusBytes (s : State) (k : CameraNo) : List Byte :=
  let c := s.camera k
  let x := s.cfg.cameras[k]
  byte (cameraStateCode c.state) ++ grantByte c.testGrant ++ be 2 x.pitchOffset ++ be 2 x.stepOffset
    ++ be 2 (effectiveStep s.cfg k) ++ byte x.window ++ byte c.nextTag ++ listBytes pendingBytes c.pending
    ++ byte c.stale.toNat ++ optional 4 (c.scheduled.map fun x => x.serial) ++ byte (upDownCode c.binding)
    ++ c.counters.toList.flatMap (be 4) ++ yesNo (s.faultLine k) ++ yesNo c.trig

/-- CAMERA_STATUS (R93). -/
def execCameraStatus (cameras : CameraSet) (s : State) : Result :=
  taken (.cameraStatus cameras) s fun s =>
    s.require (cameraSetOk cameras) .badValue fun s =>
      s.replyOk ((cameraMembers cameras).flatMap fun (k : CameraNo) => memberBytes k .ok 0 ++ cameraStatusBytes s k)

end Sys2Proof.Machine
end

