-- ==== Sys2Proof/Machine/Cabinet.lean ====
section
/-!
DEFINITION. Cabinet.lean: the Switch Supervisor (chapter 5): the switch link, ports, the station table with its replacement, the
answer to a query, forgets, bindings, grants at the switch and the station requests.
-/

namespace Sys2Proof.Machine

open Sys2Proof

/-! ## Frames on STX (R95) -/

/-- A frame is sent on STX. -/
def State.transmit (s : State) (f : SwitchFrame) : State := s.setSws { s.sws with sent := s.sws.sent ++ [f] }

/-- A message other than ANSWER is sent with the SWS's own tag, which counts up, wrapping (R95). -/
def State.sendSwitch (s : State) (m : SwitchMessage) : State :=
  (s.setSws { s.sws with outTag := s.sws.outTag + 1 }).transmit ⟨s.sws.outTag, m⟩

/-! ## The station table (R101, R102) -/

/-- The set of an address: the address modulo 16 (R101). -/
def setOf (a : Address) : Fin 16 := Fin.ofNat 16 (a.toNat % 16)

/-- An address that no station has: 0 or all ones (R101). -/
def notAnAddress (a : Address) : Bool := a == 0 || a == BitVec.allOnes 48

/-- The way of a set that holds an address. -/
def StationSet.wayOf (x : StationSet) (a : Address) : Option (Fin 4) :=
  fourNos.find? fun w => x.ways[w].any fun e => e.address == a

/-- The entry of an address with its way. -/
def State.lookup (s : State) (a : Address) : Option (Fin 4 × Station) :=
  ((s.stationSet (setOf a)).wayOf a).bind fun w => ((s.stationSet (setOf a)).ways[w]).map fun e => (w, e)

/-- A way of a set. -/
def State.way (s : State) (n : Fin 16) (w : Fin 4) : Option Station := (s.stationSet n).ways[w]

/-- A way of a set written. -/
def State.setWay (s : State) (n : Fin 16) (w : Fin 4) (e : Option Station) : State :=
  s.setStationSet n { s.stationSet n with ways := (s.stationSet n).ways.set w e }

/-- The victim counter of a set written. -/
def State.setVictim (s : State) (n : Fin 16) (w : Fin 4) : State :=
  s.setStationSet n { s.stationSet n with victim := w }

/-- The lowest free way of a set (R104). -/
def StationSet.freeWay (x : StationSet) : Option (Fin 4) := fourNos.find? fun w => x.ways[w].isNone

/-- An entry that the victim search passes over: PINNED or FLUSHING (R102). -/
def Station.passedOver (e : Station) : Bool := e.kind == .pinned || e.state == .flushing

/-- The victim of a set: the first way from the counter on that the search does not pass over (R102). -/
def StationSet.victimWay (x : StationSet) : Option (Fin 4) :=
  (fourNos.map fun i => x.victim + i).find? fun w => x.ways[w].any fun e => !e.passedOver

/-- The ways of the table in ascending set number and, within a set, ascending way number (R112). -/
def allWays : List (Fin 16 × Fin 4) := sixteenNos.flatMap fun n => fourNos.map fun w => (n, w)

/-- The entries of the table in that order. -/
def Sws.stations (x : Sws) : List Station := allWays.filterMap fun p => x.table[p.1].ways[p.2]

/-! ## Terminals and forgets (R105, R113) -/

/-- An ADMITTED terminal of a grant (R105). -/
def Station.terminalOf (e : Station) (id : Nat) : Bool :=
  e.role == .serviceTerminal && e.state == .admitted && e.grant == some id

/-- The number of ADMITTED terminals of a grant. -/
def State.terminalCount (s : State) (id : Nat) : Nat := (s.sws.stations.filter fun e => e.terminalOf id).length

/-- The SWS reports a grant's terminal count to the ACU (R105). -/
def State.reportTerminals (s : State) (id : Nat) : State := s.send (.closingReport (.terminals id (s.terminalCount id)))

/-- The report that follows when an ADMITTED entry has left: a terminal's grant is told (R105). -/
def State.reportLeft (s : State) (e : Station) : State :=
  match e.grant with
  | some id => if e.terminalOf id then s.reportTerminals id else s
  | none => s

/-- An address in the forget list. -/
def State.forgetting (s : State) (a : Address) : Bool := s.sws.forgets.any fun f => f.address == a

/-- The room rule (R113). -/
def State.hasRoom (s : State) : Bool := s.sws.forgets.length ≤ Config.forgetRoom

/-- FORGET is sent for an ADMITTED entry, and its entry joins the newest end of the list (R113). -/
def State.sendForget (s : State) (e : Station) (reason : ForgetReason) : State :=
  let s1 := s.sendSwitch (.forget e.address)
  s1.setSws { s1.sws with forgets := s1.sws.forgets ++
    [⟨e.address, e.port, reason, if e.role = .serviceTerminal then e.grant else none, s.now⟩] }

/-- The forgets in the list that carry a grant id. -/
def State.forgetsOf (s : State) (id : Nat) : Nat := (s.sws.forgets.filter fun f => f.grant == some id).length

/-! ## Bindings (R109) -/

/-- An entry that holds its unit's binding UP: pinned, ADMITTED, its port's link UP and not blocked (R109). -/
def Sws.vouches (x : Sws) (e : Station) : Bool :=
  e.kind == .pinned && e.state == .admitted && x.ports[e.port].link == .up && !x.ports[e.port].blocked

/-- The binding of a unit as the table and the ports give it (R109). -/
def Sws.bindingOf (x : Sws) (r : Role) : UpDown :=
  if x.stations.any fun e => e.role == r && x.vouches e then .up else .down

/-- The eight drive bindings computed (R109). -/
def Sws.computedDrives (x : Sws) : Vector UpDown 8 := Vector.ofFn fun k => x.bindingOf (.drive k)

/-- The six camera bindings computed (R109). -/
def Sws.computedCameras (x : Sws) : Vector UpDown 6 := Vector.ofFn fun k => x.bindingOf (.camera k)

/-- The reports of the bindings that change (R109), axes first, each set in ascending number (log 37). -/
def bindingReports (old new : Sws) : List Instr :=
  ((axisNos.filter fun k => old.drives[k] != new.drives[k]).map fun k => .driveBindingChange k new.drives[k])
    ++ (cameraNos.filter fun k => old.cameras[k] != new.cameras[k]).map fun k =>
      .cameraBindingChange k new.cameras[k]

/-- The bindings are recomputed; after the first setting each change is reported to its owner (R109, R110). -/
def State.recomputeBindings (s : State) : State :=
  let new := { s.sws with drives := s.sws.computedDrives, cameras := s.sws.computedCameras }
  let s1 := s.setSws new
  if s.sws.firstDone then s1.sendAll (bindingReports s.sws new) else s1

/-! ## Ports -/

/-- FLUSH_UNCONFIRMED's condition: some port is blocked (R115). -/
def someBlocked (x : Sws) : Bool := portIxs.any fun p => x.ports[p].blocked

/-- PORT_ERRORS's condition: some port is in ALARM (R98). -/
def someAlarm (x : Sws) : Bool := portIxs.any fun p => x.ports[p].errorState == .alarm

/-- A port's error state set from its count and thresholds, and PORT_ERRORS with it (R98, R99). -/
def State.settleErrors (s : State) (p : PortIx) : State :=
  let c := s.cfg.ports[p]
  let s1 := s.setPort p { s.port p with errorState := exceededState (s.port p).errorCount c.warn c.alarm }
  s1.reportSource .portErrors (someAlarm s.sws) (someAlarm s1.sws)

/-- A port's blocked flag set to a value, and FLUSH_UNCONFIRMED with it (R115, R116). -/
def State.setBlocked (s : State) (p : PortIx) (blocked : Bool) : State :=
  let s1 := s.setPort p { s.port p with blocked := blocked }
  s1.reportSource .flushUnconfirmed (someBlocked s.sws) (someBlocked s1.sws)

/-! ## The switch link's messages -/

/-- SWITCH_BAD_FRAME (R95): an abandoned frame and a frame that names no message count as a bad message, a frame whose check
fails as a bad check. -/
def execSwitchBadFrame (frame : BadFrame) (s : State) : Result :=
  takenOnSwitchLink (.switchBadFrame frame) s fun s =>
    match frame with
    | .abandoned => s.countSwitch .badMessage
    | .complete bytes =>
      match frameParts bytes with
      | none => s.countSwitch .badMessage
      | some f =>
        if !f.checkPasses then s.countSwitch .badCheck
        else if (switchCommand f).isNone then s.countSwitch .badMessage else s

/-- A message that names a port: one outside 1 to 8 is a bad message (R95). -/
def State.onPort (s : State) (port : Nat) (f : PortIx → State → State) : State :=
  match portOf port with
  | some p => f p s
  | none => s.countSwitch .badMessage

/-- QUERY (R96): it joins the query queue, or is discarded at a full queue and SWITCH_QUEUE latched. -/
def execQuery (address : Address) (port : Nat) (tag : Byte) (s : State) : Result :=
  takenOnSwitchLink (.query address port tag) s fun s =>
    s.onPort port fun p s =>
      if s.sws.queries.length < Config.queryCapacity then
        s.setSws { s.sws with queries := s.sws.queries ++ [⟨address, p, tag⟩] }
      else (s.countSwitch .queriesDiscarded).send (.eventSourceLatch .switchQueue)

/-- LINK_REPORT (R97, R110): the link is set; a change recomputes the bindings. -/
def execLinkReport (port : Nat) (link : UpDown) (s : State) : Result :=
  takenOnSwitchLink (.linkReport port link) s fun s =>
    s.onPort port fun p s =>
      let s1 := s.setSws { s.sws with reported := withMember s.sws.reported p }
      if (s.port p).link = link then s1
      else (s1.setPort p { s1.port p with link := link }).recomputeBindings

/-- ERROR_REPORT (R98). -/
def execErrorReport (port count : Nat) (s : State) : Result :=
  takenOnSwitchLink (.errorReport port count) s fun s =>
    s.onPort port fun p s => (s.setPort p { s.port p with errorCount := count }).settleErrors p

/-! ## Queries (R103 to R105) -/

/-- The SWS answers a query: ANSWER with the query's tag, the count, and the report to the ACU's watches (R95, R103, R147). -/
def State.answerQuery (s : State) (q : Query) (admits : Bool) : State :=
  ((s.transmit ⟨q.tag, .answer q.address q.port admits⟩).countSwitch .queriesTaken).send
    (.acuReport (.query q.address q.port admits))

/-- A query that hits an entry on its own port (R103, step 4). -/
def State.hitOwnPort (s : State) (q : Query) (w : Fin 4) (e : Station) : State :=
  let n := setOf q.address
  let e1 := { e with lastSeen := s.stamp, firstSeen := if e.firstSeen.isNone then s.stamp else e.firstSeen }
  ((s.setWay n w (some e1)).setVictim n ((s.stationSet n).victim + 1)).answerQuery q (e.state == .admitted)

/-- A query that hits an entry on another port (R103, step 5). -/
def State.hitOtherPort (s : State) (q : Query) (e : Station) : State :=
  let n := setOf q.address
  ((s.setVictim n ((s.stationSet n).victim + 1)).post (.stationMoved q.address e.port q.port e.role)).answerQuery q false

/-- The victim leaves its way: an ADMITTED one is forgotten with reason EVICT, and a terminal's grant is told (R104). -/
def State.evict (s : State) (n : Fin 16) (w : Fin 4) (e : Station) : State :=
  let s1 := s.setWay n w none
  (if e.state = .admitted then (s1.sendForget e .evict).reportLeft e else s1).setVictim n (w + 1)

/-- Where a new entry goes (R104). -/
inductive Place where
  | free (w : Fin 4)
  | replace (w : Fin 4) (victim : Station)
  | noRoom
  | noVictim
deriving DecidableEq, Repr

/-- The place of a new entry in a set: the lowest free way, else the victim, whose forget needs room (R104). -/
def State.placeIn (s : State) (n : Fin 16) : Place :=
  match (s.stationSet n).freeWay with
  | some w => .free w
  | none =>
    match (s.stationSet n).victimWay with
    | none => .noVictim
    | some w =>
      match s.way n w with
      | none => .free w
      | some e => if e.state = .admitted ∧ !s.hasRoom then .noRoom else .replace w e

/-- A new learned entry for a query (R104, R105). -/
def learnedEntry (s : State) (q : Query) (role : Role) (state : StationState) (grant : Option Nat) : Station :=
  { address := q.address, port := q.port, kind := .learned, role := role, state := state, grant := grant
    firstSeen := s.stamp, lastSeen := s.stamp }

/-- A query that misses is learned where there is a place, and the learning goes on; it is denied where there is none (R104,
R105). -/
def State.learn (s : State) (q : Query) (role : Role) (state : StationState) (grant : Option Nat)
    (f : Fin 4 → State → State) : State :=
  let n := setOf q.address
  let e := learnedEntry s q role state grant
  match s.placeIn n with
  | .free w => f w (s.setWay n w (some e))
  | .replace w victim => f w ((s.evict n w victim).setWay n w (some e))
  | .noRoom => (s.countSwitch .learnRefused).answerQuery q false
  | .noVictim => (s.post (.tableFull q.address q.port n)).answerQuery q false

/-- A query that misses, by the port's policy (R104, R105); the terminal counts are reported before the query (log 37). -/
def State.missQuery (s : State) (q : Query) : State :=
  match s.cfg.ports[q.port].policy with
  | .locked =>
    s.learn q .unknown .quarantined none fun w s =>
      (s.post (.stationStranger q.address q.port w)).answerQuery q false
  | .learn => s.learn q .unknown .admitted none fun _ s => s.answerQuery q true
  | .service =>
    match (s.port q.port).service with
    | some (id, .opened) =>
      if s.terminalCount id < Config.terminalLimit then
        s.learn q .serviceTerminal .admitted (some id) fun _ s => (s.reportTerminals id).answerQuery q true
      else s.answerQuery q false
    | _ => s.answerQuery q false

/-- The first step of R103 that applies. -/
def State.judgeQuery (s : State) (q : Query) : State :=
  if (s.port q.port).blocked || notAnAddress q.address || s.forgetting q.address then s.answerQuery q false
  else
    match s.lookup q.address with
    | some (w, e) => if e.port = q.port then s.hitOwnPort q w e else s.hitOtherPort q e
    | none => s.missQuery q

/-- ANSWER (R96, R103): the oldest query is taken and answered. -/
def execAnswer (s : State) : Result :=
  taken .answer s fun s =>
    match s.sws.queries with
    | [] => s
    | q :: rest => (s.setSws { s.sws with queries := rest }).judgeQuery q

/-! ## Forgets (R114, R115) -/

/-- The list entry of an address leaves the forget list. -/
def State.dropForget (s : State) (a : Address) : State :=
  s.setSws { s.sws with forgets := s.sws.forgets.filter fun f => f.address != a }

/-- The FLUSHING entry of an address becomes what is said; another entry, or none, is left alone (R114, R115). -/
def State.endFlushing (s : State) (a : Address) (f : Station → Option Station) : State :=
  match s.lookup a with
  | some (w, e) => if e.state = .flushing then s.setWay (setOf a) w (f e) else s
  | none => s

/-- FORGET_DONE (R114). -/
def execForgetDone (address : Address) (s : State) : Result :=
  takenOnSwitchLink (.forgetDone address) s fun s =>
    match s.sws.forgets.find? fun f => f.address == address with
    | none => s.countSwitch .unmatchedDone
    | some f =>
      let s1 := (s.dropForget address).endFlushing address fun _ => none
      match f.grant with
      | some id => s1.send (.closingReport (.resolvedDone id (s1.forgetsOf id)))
      | none => s1

/-- The run time at which a forget expires (R115). -/
def forgetEnd (f : Forget) : RunTime := f.sentAt + Config.forgetLife

/-- The port of an expired forget is blocked; PORT_BLOCK is sent when its flag was clear (R115). -/
def State.blockPort (s : State) (p : PortIx) : State :=
  if (s.port p).blocked then s else (s.setBlocked p true).sendSwitch (.portBlock p)

/-- A forget list entry expires (R115). -/
def State.expireForget (s : State) (f : Forget) : State :=
  let s1 := ((s.dropForget f.address).countSwitch .forgetsExpired).endFlushing f.address fun e =>
    some { e with state := .quarantined }
  let s2 := ((s1.blockPort f.port).recomputeBindings).post (.forgetExpired f.address f.port f.reason f.grant)
  match f.grant with
  | some id => s2.send (.closingReport (.resolvedExpired id (s2.forgetsOf id)))
  | none => s2

/-- FORGET_EXPIRY (R115): at the run time of its sent at plus 2 s. -/
def execForgetExpiry (address : Address) (s : State) : Result :=
  taken (.forgetExpiry address) s fun s =>
    match s.sws.forgets.find? fun f => f.address == address with
    | some f => if forgetEnd f ≤ s.now then s.expireForget f else s
    | none => s

/-! ## The first setting (R110) -/

/-- The first setting is due: every port has reported since FORGET_ALL, or 2 s have passed (R110). -/
def firstSettingDue (s : State) : Bool :=
  !s.sws.firstDone &&
    (s.sws.reported == 0xFF#8 || match s.sws.forgetAllAt with
      | some t => t + Config.firstSettingWait ≤ s.now
      | none => false)

/-- The first setting at one camera (R87): a camera whose binding is UP becomes READY. -/
def State.firstCamera (s : State) (k : CameraNo) : State :=
  let b := s.sws.cameras[k]
  let s1 := s.setCamera k { s.camera k with binding := b }
  if b = .up then s1.setCameraState k .ready .bindingSet else s1

/-- The first setting at one axis (R38): the binding is recorded and halts nothing. -/
def State.firstAxis (s : State) (k : AxisNo) : State := s.setAxis k { s.axis k with binding := s.sws.drives[k] }

/-- FIRST_SETTING (R110): all fourteen bindings are set at their owners, axes first, each set in ascending number (log 37). -/
def execFirstSetting (s : State) : Result :=
  taken .firstSetting s fun s =>
    if firstSettingDue s then
      let s1 := s.recomputeBindings
      let s2 := s1.setSws { s1.sws with firstDone := true }
      cameraNos.foldl State.firstCamera (axisNos.foldl State.firstAxis s2)
    else s

/-! ## Port requests -/

/-- A learned entry of role UNKNOWN on a port in a state (R100). -/
def Station.strangerOn (e : Station) (p : PortIx) (state : StationState) : Bool :=
  e.kind == .learned && e.role == .unknown && e.port == p && e.state == state

/-- Every way taken in table order. -/
def State.overWays (s : State) (f : Fin 16 → Fin 4 → Station → State → State) : State :=
  allWays.foldl (fun s p => match s.way p.1 p.2 with
    | some e => f p.1 p.2 e s
    | none => s) s

/-- The check of a policy change: its refusal, if there is one (R100). -/
def policyRefusal (s : State) (p : PortIx) (old new : Policy) : Option Reason :=
  if old = new then none
  else match old with
    | .service => if (s.port p).service.isSome then some .state else none
    | .learn =>
      let n := (s.sws.stations.filter fun e => e.strangerOn p .admitted).length
      if s.sws.forgets.length + n ≤ Config.forgetRoom + 1 then none else some .full
    | .locked => none

/-- The strangers of a port moved away from LEARN become FLUSHING, each with its forget, in table order (R100; log
34). -/
def State.flushStrangers (s : State) (p : PortIx) : State :=
  s.overWays fun n w e s =>
    if e.strangerOn p .admitted then
      (s.setWay n w (some { e with state := .flushing })).sendForget e .policyChange
    else s

/-- The quarantined strangers of a port moved to LEARN are removed (R100). -/
def State.clearStrangers (s : State) (p : PortIx) : State :=
  s.overWays fun n w e s => if e.strangerOn p .quarantined then s.setWay n w none else s

/-- The action of a policy change on the table (R100). -/
def State.changePolicy (s : State) (p : PortIx) (old new : Policy) : State :=
  if old = new then s
  else
    let s1 := if old = .learn then s.flushStrangers p else s
    if new = .learn then s1.clearStrangers p else s1

/-- The ranges of the thresholds (R99). -/
def thresholdsOk (top warn alarm : Nat) : Bool :=
  warn ≤ top && alarm ≤ top && (warn == 0 || alarm == 0 || warn ≤ alarm)

/-- PORT_CONFIG (R99, R100). -/
def execPortConfig (port policy warn alarm : Nat) (s : State) : Result :=
  taken (.portConfig port policy warn alarm) s fun s =>
    s.withLevel 2 fun s =>
      s.requireSome (portOf port) .badValue fun p s =>
        s.requireSome (policyOf policy) .badValue fun new s =>
          s.require (thresholdsOk 65535 warn alarm) .badValue fun s =>
            let old := s.cfg.ports[p].policy
            match policyRefusal s p old new with
            | some r => s.refuse r
            | none =>
              let s1 := s.changePolicy p old new
              ((s1.configure { s1.cfg with ports := s1.cfg.ports.set p ⟨new, warn, alarm⟩ }).settleErrors p).replyOk []

/-- PORT_UNBLOCK (R116); FLUSH_UNCONFIRMED is reported before the bindings (log 37). -/
def execPortUnblock (port : Nat) (s : State) : Result :=
  taken (.portUnblock port) s fun s =>
    s.withLevel 2 fun s =>
      s.requireSome (portOf port) .badValue fun p s =>
        if (s.port p).blocked then
          (((s.setBlocked p false).sendSwitch (.portOpen p)).recomputeBindings).replyOk []
        else s.replyOk []

/-! ## Station requests -/

/-- A unit bound by an entry of another address (R106). -/
def State.boundElsewhere (s : State) (a : Address) (r : Role) : Bool :=
  (roleUnit r).isSome && s.sws.stations.any fun e => e.role == r && e.address != a

/-- A pinned entry as STATION_PIN makes it, with the stamps of the entry it replaces (R106). -/
def pinnedEntry (a : Address) (p : PortIx) (r : Role) (old : Option Station) : Station :=
  { address := a, port := p, kind := .pinned, role := r, state := .admitted, grant := none
    firstSeen := old.bind (·.firstSeen), lastSeen := old.bind (·.lastSeen) }

/-- The end of an accepted STATION_PIN, RELEASE, QUARANTINE or UNPIN: dirty, bindings, OK (R106 to R108). -/
def State.stationDone (s : State) : State := (s.markDirty.recomputeBindings).replyOk []

/-- The placement of a pinned entry whose address the table does not hold (R106). -/
def State.pinNew (s : State) (a : Address) (p : PortIx) (r : Role) : State :=
  let n := setOf a
  let e := pinnedEntry a p r none
  match s.placeIn n with
  | .free w => (s.setWay n w (some e)).stationDone
  | .replace w victim => ((s.evict n w victim).setWay n w (some e)).stationDone
  | .noRoom | .noVictim => s.refuse .full

/-- The placement of a pinned entry in the way of a learned entry with its address (R106). -/
def State.pinOver (s : State) (p : PortIx) (r : Role) (w : Fin 4) (old : Station) : State :=
  ((s.setWay (setOf old.address) w (some (pinnedEntry old.address p r (some old)))).reportLeft old).stationDone

/-- STATION_PIN (R106); a role of no list and a missing unit number are checked with the first row of the table (log 12). -/
def execStationPin (address : Address) (port role : Nat) (unitNo : Option Nat) (s : State) : Result :=
  taken (.stationPin address port role unitNo) s fun s =>
    s.withLevel 2 fun s =>
      s.require (!notAnAddress address) .badValue fun s =>
        s.requireSome (portOf port) .badValue fun p s =>
          s.requireSome (pinRoleOf role unitNo) .badValue fun r s =>
            if s.forgetting address then s.refuse .busy
            else match s.lookup address with
              | some (w, e) =>
                if e.kind = .pinned ∨ s.boundElsewhere address r ∨ (e.state = .admitted ∧ e.port ≠ p) then
                  s.refuse .state
                else s.pinOver p r w e
              | none => if s.boundElsewhere address r then s.refuse .state else s.pinNew address p r

/-- STATION_UNPIN (R107). -/
def execStationUnpin (address : Address) (s : State) : Result :=
  taken (.stationUnpin address) s fun s =>
    s.withLevel 2 fun s =>
      match s.lookup address with
      | none => s.refuse .notFound
      | some (w, e) =>
        if e.kind = .learned then s.refuse .notFound
        else if e.state = .admitted then
          s.require s.hasRoom .full fun s => ((s.setWay (setOf address) w none).sendForget e .unpin).stationDone
        else (s.setWay (setOf address) w none).stationDone

/-- STATION_QUARANTINE (R108). -/
def execStationQuarantine (address : Address) (s : State) : Result :=
  taken (.stationQuarantine address) s fun s =>
    s.withLevel 2 fun s =>
      match s.lookup address with
      | none => s.refuse .notFound
      | some (w, e) =>
        if e.kind = .learned then s.refuse .state
        else if e.state = .admitted then
          s.require s.hasRoom .full fun s =>
            ((s.setWay (setOf address) w (some { e with state := .quarantined })).sendForget e .flushRequest).stationDone
        else s.replyOk []

/-- STATION_RELEASE (R108). -/
def execStationRelease (address : Address) (s : State) : Result :=
  taken (.stationRelease address) s fun s =>
    s.withLevel 2 fun s =>
      match s.lookup address with
      | none => s.refuse .notFound
      | some (w, e) =>
        if e.kind = .learned then s.refuse .state
        else if e.state = .admitted then s.replyOk []
        else
          s.require (!s.forgetting address) .busy fun s =>
            (s.setWay (setOf address) w (some { e with state := .admitted })).stationDone

/-- The body of STATION_LOOKUP (R111, R196); a miss carries the set of the address, way 0 and an entry of 0 bytes (log 11). -/
def lookupBody (s : State) (a : Address) : List Byte :=
  let forget := s.sws.forgets.find? fun f => f.address == a
  let hit := s.lookup a
  byte (flagBit 0 hit.isSome + flagBit 1 forget.isSome) ++ byte (setOf a)
    ++ byte ((hit.map fun h => h.1.val).getD 0) ++ wayBytes (hit.map fun h => h.2)
    ++ (match forget with
      | some f => forgetBytes f
      | none => [])

/-- STATION_LOOKUP (R111). -/
def execStationLookup (address : Address) (s : State) : Result :=
  taken (.stationLookup address) s fun s => s.replyOk (lookupBody s address)

/-- STATION_READ (R111, R196). -/
def execStationRead (set : Nat) (s : State) : Result :=
  taken (.stationRead set) s fun s =>
    s.requireSome (finOf 16 set) .badValue fun n s =>
      s.replyOk (byte n ++ byte (s.stationSet n).victim ++ (s.stationSet n).ways.toList.flatMap wayBytes)

/-- The flush of one entry in scope, with the count handled and whether the flush has stopped (R112). -/
def flushOne (inScope : Station → Bool) (n : Fin 16) (w : Fin 4) (acc : State × Nat × Bool) : State × Nat × Bool :=
  let (s, handled, stopped) := acc
  match s.way n w with
  | none => acc
  | some e =>
    if stopped || !inScope e then acc
    else match e.state with
      | .admitted =>
        if s.hasRoom then
          (((s.setWay n w (some { e with state := .flushing })).sendForget e .flushRequest).reportLeft e, handled + 1,
            false)
        else (s, handled, true)
      | .quarantined | .flushing => (s.setWay n w none, handled + 1, false)

/-- The entries in scope handled in table order (R112). -/
def flushScope (s : State) (inScope : Station → Bool) : State × Nat × Bool :=
  allWays.foldl (fun acc p => flushOne inScope p.1 p.2 acc) (s, 0, false)

/-- A flush of a scope that passed its own checks (R112). -/
def State.flush (s : State) (inScope : Station → Bool) : State :=
  s.require (s.hasRoom || !(s.sws.stations.any fun e => inScope e && e.state == .admitted)) .full fun s =>
    let r := flushScope s inScope
    r.1.replyOk (byte r.2.1 ++ yesNo r.2.2)

/-- STATION_FLUSH (R112). -/
def execStationFlush (scope : FlushScope) (s : State) : Result :=
  taken (.stationFlush scope) s fun s =>
    s.withLevel 2 fun s =>
      match scope with
      | .unknown _ => s.refuse .badValue
      | .all => s.flush fun e => e.kind == .learned
      | .port n => s.requireSome (portOf n) .badValue fun p s => s.flush fun e => e.kind == .learned && e.port == p
      | .address a =>
        match s.lookup a with
        | none => s.refuse .notFound
        | some (_, e) => if e.kind = .pinned then s.refuse .state else s.flush fun x => x.address == a

/-! ## Status (R119) -/

/-- A port's service grant: the id, 0 when absent (R184), and its state, 0 when absent, with no presence byte (log 11). -/
def serviceBytes : Option (Nat × GrantState) → List Byte
  | none => byte 0 ++ byte 0
  | some (id, g) => byte id ++ byte (grantStateCode g)

/-- A port record with every field (R119). -/
def portBytes (s : State) (p : PortIx) : List Byte :=
  let x := s.port p
  let c := s.cfg.ports[p]
  byte (upDownCode x.link) ++ byte (policyCode c.policy) ++ yesNo x.blocked ++ be 4 x.errorCount ++ be 2 c.warn
    ++ be 2 c.alarm ++ byte (alarmStateCode x.errorState) ++ serviceBytes x.service

/-- SWITCH_STATUS (R119). -/
def execSwitchStatus (s : State) : Result :=
  taken .switchStatus s fun s =>
    let kinds := s.sws.stations.map fun e => e.kind
    s.replyOk (portIxs.flatMap (portBytes s) ++ yesNo (someBlocked s.sws) ++ yesNo (someAlarm s.sws)
      ++ byte s.sws.forgets.length ++ byte s.sws.queries.length
      ++ byte (kinds.filter (· == .pinned)).length ++ byte (kinds.filter (· == .learned)).length
      ++ (s.sws.drives.toList ++ s.sws.cameras.toList).flatMap (fun b => byte (upDownCode b)) ++ yesNo s.sws.firstDone
      ++ s.sws.counters.toList.flatMap (be 4))

/-- A forget list entry with the run time left to its expiry (R119). -/
def forgetReadBytes (now : RunTime) (f : Forget) : List Byte := forgetBytes f ++ be 8 (forgetEnd f - now)

/-- FORGET_READ (R119). -/
def execForgetRead (start : Nat) (s : State) : Result :=
  taken (.forgetRead start) s fun s =>
    s.require (start ≤ 31) .badValue fun s =>
      s.replyOk (listBytes (forgetReadBytes s.now) ((s.sws.forgets.drop start).take 8))

/-! ## Grants at the switch (R117) -/

/-- SWS_GRANT_OPENED (R117). -/
def execSwsGrantOpened (grant : Nat) (ports : PortSet) (s : State) : Result :=
  taken (.swsGrantOpened grant ports) s fun s =>
    (portMembers ports).foldl (fun s p => s.setPort p { s.port p with service := some (grant, .opened) }) s

/-- Every port whose service grant carries an id takes the service grant given. -/
def State.setService (s : State) (id : Nat) (x : Option (Nat × GrantState)) : State :=
  portIxs.foldl (fun s p =>
    if (s.port p).service.any fun g => g.1 == id then s.setPort p { s.port p with service := x } else s) s

/-- SWS_GRANT_CLOSING_START (R117); the terminals' forgets are sent in table order (log 34). -/
def execSwsGrantClosingStart (grant : Nat) (s : State) : Result :=
  taken (.swsGrantClosingStart grant) s fun s =>
    let s1 := (s.setService grant (some (grant, .closing))).overWays fun n w e s =>
      if e.terminalOf grant then (s.setWay n w (some { e with state := .flushing })).sendForget e .grantClose else s
    (s1.send (.closingReport (.closingForgets grant (s1.forgetsOf grant)))).reportTerminals grant

/-- SWS_GRANT_CLOSED (R117). -/
def execSwsGrantClosed (grant : Nat) (s : State) : Result :=
  taken (.swsGrantClosed grant) s fun s => s.setService grant none

end Sys2Proof.Machine
end

