-- ==== Sys2Proof/Machine/Store.lean ====
section
/-!
DEFINITION. Store.lean: the Settings Store (chapter 11): images, SAVE and the automatic account save with their completions, the
validity of a bank and the load.
-/

namespace Sys2Proof.Machine

open Sys2Proof

/-! ## Banks and images -/

/-- A bank of the store. -/
def Sst.bank (x : Sst) : BankName → Bank
  | .a => x.bankA
  | .b => x.bankB

/-- A bank of the store written. -/
def Sst.setBank (x : Sst) (n : BankName) (b : Bank) : Sst :=
  match n with
  | .a => { x with bankA := b }
  | .b => { x with bankB := b }

/-- The bank a save writes: the one not in use, or A when none is in use (R199, R201). -/
def Sst.target (x : Sst) : BankName :=
  match x.inUse with
  | some .a => .b
  | some .b => .a
  | none => .a

/-- The image in use with its sequence number (R199). -/
def Sst.imageInUse (x : Sst) : Option (BitVec 32 × Image) :=
  match x.inUse with
  | none => none
  | some n =>
    match x.bank n with
    | .broken => none
    | .whole _ sequence image => some (sequence, image)

/-- The sequence number of a save: one more than that of the image in use, or 1 (R199, R201). -/
def Sst.nextSequence (x : Sst) : BitVec 32 :=
  match x.imageInUse with
  | some (n, _) => n + 1
  | none => 1

/-- The pinned entries of the table, each with its way (R198). -/
def pinnedOf (x : Sws) : List PinnedStation :=
  allWays.filterMap fun p =>
    match x.table[p.1].ways[p.2] with
    | some e =>
      match e.kind with
      | .pinned => some ⟨e.address, p.2, e.port, e.role, e.state == .admitted⟩
      | .learned => none
    | none => none

/-- A copy of the whole working copy (R198, R199). -/
def workingImage (s : State) : Image := ⟨s.cfg, pinnedOf s.sws, s.tmu.accounts⟩

/-- A write begins: the bank being written fails its check until the completion (R199, R200). -/
def Sst.beginWrite (x : Sst) (kind : SaveKind) (image : Image) : Sst :=
  { x.setBank x.target .broken with saving := some kind, writing := some (x.target, x.nextSequence, image) }

/-- A write that reads back whole: the written bank is the image in use (R199, R200). -/
def Sst.keepWrite (x : Sst) (n : BankName) (sequence : BitVec 32) (image : Image) : Sst :=
  { x.setBank n (.whole 1 sequence image) with inUse := some n, saving := none, writing := none }

/-- A write that does not read back whole: the written bank is invalid (R199, R200). -/
def Sst.failWrite (x : Sst) (n : BankName) : Sst := { x.setBank n .broken with saving := none, writing := none }

/-- STORE_DONE is posted with the dirty flag, the bank in use and its sequence number as they stand (R199). -/
def State.postStoreDone (s : State) (kind : SaveKind) (ok : Bool) : State :=
  s.post (.storeDone kind ok s.sst.dirty s.sst.inUse
    ((s.sst.imageInUse.map fun i => i.1).getD Config.sequenceWhenNone))

/-! ## Saves -/

/-- The automatic account save (R200): the configuration of the image in use with the accounts as they stand. -/
def State.beginAccountSave (s : State) : State :=
  match s.sst.imageInUse with
  | some (_, image) => s.setSst (s.sst.beginWrite .accountSave { image with accounts := s.tmu.accounts })
  | none => s.postStoreDone .accountSave false

/-- SAVE (R199). -/
def execSave (s : State) : Result :=
  taken .save s fun s =>
    s.withLevel 2 fun s =>
      s.require s.sst.saving.isNone .busy fun s =>
        (s.setSst { s.sst.beginWrite .save (workingImage s) with changed := false }).replyAccepted
          (yesNo s.sst.dirty ++ byte (bankCode s.sst.target))

/-- STORE_FAILED is latched (R175, R199, R200). -/
def State.latchStoreFailed (s : State) : State := s.send (.eventSourceLatch .storeFailed)

/-- A deferred automatic account save is handed over at the completion of a SAVE (R171). -/
def State.takeDeferred (s : State) : State :=
  if s.tmu.saveDeferred then (s.setTmu { s.tmu with saveDeferred := false }).beginAccountSave else s

/-- The completion of a SAVE (R199). -/
def State.completeSave (s : State) (n : BankName) (sequence : BitVec 32) (image : Image) (whole : Bool) : State :=
  if whole then
    (s.setSst { s.sst.keepWrite n sequence image with dirty := s.sst.changed }).postStoreDone .save true
  else ((s.setSst { s.sst.failWrite n with dirty := true }).latchStoreFailed).postStoreDone .save false

/-- SAVE_COMPLETE (R199). -/
def execSaveComplete (whole : Bool) (s : State) : Result :=
  taken (.saveComplete whole) s fun s =>
    match s.sst.saving, s.sst.writing with
    | some .save, some (n, sequence, image) => (s.completeSave n sequence image whole).takeDeferred
    | _, _ => s

/-- The completion of an account save (R200). -/
def State.completeAccountSave (s : State) (n : BankName) (sequence : BitVec 32) (image : Image) (whole : Bool) : State :=
  if whole then (s.setSst (s.sst.keepWrite n sequence image)).postStoreDone .accountSave true
  else ((s.setSst (s.sst.failWrite n)).latchStoreFailed).postStoreDone .accountSave false

/-- ACCOUNT_SAVE_COMPLETE (R200). -/
def execAccountSaveComplete (whole : Bool) (s : State) : Result :=
  taken (.accountSaveComplete whole) s fun s =>
    match s.sst.saving, s.sst.writing with
    | some .accountSave, some (n, sequence, image) => s.completeAccountSave n sequence image whole
    | _, _ => s

/-! ## Loading (R201) -/

/-- The ranges of a recipe (R49). -/
def recipeInRange (r : Recipe) : Bool :=
  1 ≤ r.stroke && r.stroke ≤ 2000000 && profileInRange r.profile && 10 ≤ r.dwellBase && r.dwellBase ≤ 10000
    && 1 ≤ r.window && r.window ≤ 32 && !namesNoCamera r.cameras

/-- The ranges of a camera's configuration in an image: c within what some N allows, as a later LINE_GEOMETRY may lower N
below it (R75; log 14). -/
def storedCameraInRange (c : CameraSettings) (gateOffset : Nat) : Bool :=
  1 ≤ c.pitchOffset && c.pitchOffset < gateOffset && c.stepOffset < 4096 && 1 ≤ c.window && c.window ≤ 16

/-- The ranges of a source's configuration in an image: those of the forced sources are not checked (R180, R201). -/
def storedSourceInRange (src : FaultSource) (c : SourceSettings) : Bool :=
  isForced src || c.extension ≤ 600 && (!src.isEvent || c.mode == .latch)

/-- The length of a passcode (R127). -/
def passcodeOk (p : List Byte) : Bool := 4 ≤ p.length && p.length ≤ 16

/-- Every value of the settings lies in its range (R201). -/
def settingsInRange (c : Settings) : Bool :=
  geometryInRange c.geometry.gateOffset c.geometry.stepsPerPitch c.geometry.pulseMs
    && c.recipes.toList.all recipeInRange && (c.trims.toList.all fun t => -500 ≤ t && t ≤ 500) && c.pinnedIndex ≤ 31
    && (c.axes.toList.all fun a => axisSettingsInRange a c.geometry.gateOffset)
    && (c.cameras.toList.all fun a => storedCameraInRange a c.geometry.gateOffset)
    && (c.ports.toList.all fun p => p.warn ≤ 65535 && p.alarm ≤ 65535)
    && (sixteenNos.all fun n => storedSourceInRange (sourceOfNo n) c.sources[n])
    && c.passcode1.all passcodeOk && c.passcode2.all passcodeOk && offsetsFit c c.geometry.gateOffset

/-- A pinned entry that the table can hold (R101). -/
def pinnedOk (e : PinnedStation) : Bool :=
  !notAnAddress e.address &&
    match e.role with
    | .drive _ | .camera _ | .panel | .other => true
    | .unknown | .serviceTerminal => false

/-- Two pinned entries that may stand together: other addresses, other units, other ways of one set (R101). -/
def pinnedApart (e f : PinnedStation) : Bool :=
  e.address != f.address && !((roleUnit e.role).isSome && e.role == f.role)
    && !(setOf e.address == setOf f.address && e.way == f.way)

/-- Each entry of a list is apart from those after it. -/
def allApart : List PinnedStation → Bool
  | [] => true
  | e :: rest => rest.all (pinnedApart e) && allApart rest

/-- The ranges of an account (R165). -/
def accountInRange (a : AccountRecord) : Bool :=
  a.count ≤ Config.top32 && a.warn ≤ Config.top32 && a.alarm ≤ Config.top32 && a.lastReset.all fun t => t ≤ Config.top64

/-- A bank that is valid, with its sequence number and image (R201). -/
def validBank : Bank → Option (BitVec 32 × Image)
  | .broken => none
  | .whole format sequence image =>
    if format = 1 ∧ settingsInRange image.settings ∧ image.pinned.all pinnedOk ∧ allApart image.pinned
        ∧ image.accounts.toList.all accountInRange then
      some (sequence, image)
    else none

/-- The bank that is loaded and its image (R201); where neither sequence number follows the other, a free value (log 5). -/
def bankToLoad (x : Sst) : Option (BankName × Image) :=
  match validBank x.bankA, validBank x.bankB with
  | none, none => none
  | some (_, image), none => some (.a, image)
  | none, some (_, image) => some (.b, image)
  | some (m, imageA), some (n, imageB) =>
    let newer := if n = m + 1 then .b else if m = n + 1 then .a else Config.bankWhenNeitherFollows m n
    match newer with
    | .a => some (.a, imageA)
    | .b => some (.b, imageB)

/-- The forced values stand in place of what an image holds for the forced sources (R180, R182). -/
def forceSources (c : Settings) : Settings :=
  { c with sources := Vector.ofFn fun n => if isForced (sourceOfNo n) then .forced else c.sources[n] }

/-- A pinned entry as it returns at a reset: in its way and state, no stamps (R120). -/
def stationOf (e : PinnedStation) : Station :=
  { address := e.address, port := e.port, kind := .pinned, role := e.role
    state := if e.admitted then .admitted else .quarantined, grant := none, firstSeen := none, lastSeen := none }

/-- The station table rebuilt from the pinned entries of an image (R120). -/
def tableOf (pinned : List PinnedStation) : Vector StationSet 16 :=
  Vector.ofFn fun n =>
    { ways := Vector.ofFn fun w => (pinned.find? fun e => setOf e.address == n && e.way == w).map stationOf
      victim := 0 }

/-- The accounts with their states set from the counts and thresholds (R172). -/
def settledAccounts (accounts : Vector AccountRecord 15) : Vector AccountRecord 15 :=
  accounts.map fun a => { a with state := reachedState a.count a.warn a.alarm }

end Sys2Proof.Machine
end

