-- ==== Sys2Proof/Machine/Time.lean ====
section
/-!
DEFINITION. Time.lean: the Time Unit (chapter 8): run time and hall time in one microsecond, the discipline of the hall clock, the
runtime accounts and their requests.
-/

namespace Sys2Proof.Machine

open Sys2Proof

/-! ## The clocks (R156, R157) -/

/-- A number held to plus or minus a limit. -/
def held (limit n : Int) : Int := max (-limit) (min limit n)

/-- The rate correction in ppb (R157). -/
def Tmu.rate (x : Tmu) : Int := held Config.rateLimit (x.frequency + x.phaseTerm)

/-- Hall time set to whole microseconds. -/
def Tmu.setHall (x : Tmu) (t : Nat) : Tmu := { x with hallParts := some (t * hallUnit) }

/-- The phase term and its end cleared (R159 to R163). -/
def Tmu.endPhase (x : Tmu) : Tmu := { x with phaseTerm := 0, phaseEnd := none }

/-- One microsecond of hall time (R157); beyond 64 bits the manual gives no value and a free value stands (log 5). -/
def State.advanceHall (s : State) : State :=
  match s.tmu.clock, s.tmu.hallParts with
  | .unset, _ => s
  | _, none => s
  | _, some h =>
    let next := h + (hallUnit + s.tmu.rate).toNat
    if next / hallUnit ≤ Config.top64 then s.setTmu { s.tmu with hallParts := some next }
    else (s.setTmu (s.tmu.setHall (Config.hallPastTop s.draws).toNat)).setDraws (s.draws + 1)

/-- One microsecond of run time, and of hall time with it (R156, R157). -/
def State.advanceTime (s : State) : State :=
  let s1 := s.advanceHall
  s1.setTmu { s1.tmu with now := s1.tmu.now + 1 }

/-! ## Time marks and TIME_SET (R159 to R163) -/

/-- CLOCK_HOLDOVER's condition: the clock is in HOLDOVER (R163). -/
def inHoldover (x : Tmu) : Bool := x.clock == .holdover

/-- The TMU tells the PML what changed in CLOCK_HOLDOVER since an earlier state of the clock (R163, R174). -/
def State.reportHoldover (s : State) (before : Tmu) : State :=
  s.reportSource .clockHoldover (inHoldover before) (inHoldover s.tmu)

/-- TIME_SET (R159). -/
def State.setTime (s : State) (t : Nat) : State :=
  let old := s.tmu
  let s1 := s.setTmu { (old.setHall t).endPhase with clock := .free, holdoverDeadline := none }
  let s2 := match old.clock with
    | .free => s1.post (.clockStep false (t - (s.stamp.getD 0 : Nat)))
    | c => s1.post (.clockState c .free .timeSet none)
  s2.reportHoldover old

/-- TIME_SET (R159). -/
def execTimeSet (hall : Nat) (s : State) : Result :=
  taken (.timeSet hall) s fun s =>
    s.withLevel 1 fun s =>
      s.require (hall ≤ Config.top64) .badValue fun s =>
        s.require (s.tmu.clock != .locked) .state fun s => (s.setTime hall).replyOk []

/-- What every mark sets: the last offset, the last mark at, the marks taken, and the holdover deadline (R160, R161). -/
def Tmu.noteMark (x : Tmu) (offset : Option Int) : Tmu :=
  { x with
    lastOffset := offset
    lastMark := some x.now
    marks := saturate Config.top32 x.marks
    holdoverDeadline := some (x.now + Config.holdoverWait) }

/-- A mark taken in UNSET, FREE or HOLDOVER (R160). -/
def State.lockTo (s : State) (t : Nat) (offset : Option Int) : State :=
  let old := s.tmu
  let s1 := s.setTmu { ((old.noteMark offset).setHall t).endPhase with clock := .locked }
  (s1.post (.clockState old.clock .locked .mark offset)).reportHoldover old

/-- A mark in LOCKED that steps the clock (R161). -/
def State.stepTo (s : State) (t : Nat) (offset : Int) : State :=
  let x := ((s.tmu.noteMark (some offset)).setHall t).endPhase
  (s.setTmu { x with steps := saturate Config.top32 x.steps }).post (.clockStep true offset)

/-- A mark in LOCKED that slews the clock (R161). -/
def State.slewBy (s : State) (offset : Int) : State :=
  let x := s.tmu.noteMark (some offset)
  s.setTmu { x with
    frequency := held Config.rateLimit (x.frequency + 4 * offset)
    phaseTerm := 125 * offset
    phaseEnd := some (x.now + Config.phaseTermLength) }

/-- A time mark (R160, R161). -/
def State.takeMark (s : State) (t : Nat) : State :=
  match s.stamp with
  | none => s.lockTo t none
  | some h =>
    let offset : Int := (t : Int) - h
    match s.tmu.clock with
    | .locked => if offset < -Config.slewLimit ∨ Config.slewLimit < offset then s.stepTo t offset else s.slewBy offset
    | _ => s.lockTo t (some offset)

/-- TIME_MARK (R95, R160, R161). -/
def execTimeMark (hall : Nat) (s : State) : Result := takenOnSwitchLink (.timeMark hall) s fun s => s.takeMark hall

/-- PHASE_TERM_EXPIRY (R161). -/
def execPhaseTermExpiry (s : State) : Result :=
  taken .phaseTermExpiry s fun s =>
    match s.tmu.phaseEnd with
    | some t => if t ≤ s.now then s.setTmu s.tmu.endPhase else s
    | none => s

/-- The clock enters HOLDOVER (R163). -/
def State.enterHoldover (s : State) : State :=
  let old := s.tmu
  let s1 := s.setTmu { old.endPhase with
    clock := .holdover, holdoverDeadline := none, holdovers := saturate Config.top32 old.holdovers }
  (s1.post (.clockState old.clock .holdover .holdover none)).reportHoldover old

/-- HOLDOVER_EXPIRY (R163). -/
def execHoldoverExpiry (s : State) : Result :=
  taken .holdoverExpiry s fun s =>
    match s.tmu.clock, s.tmu.holdoverDeadline with
    | .locked, some t => if t ≤ s.now then s.enterHoldover else s
    | _, _ => s

/-- A last offset that may be absent. -/
def lastOffsetBytes : Option Int → List Byte
  | none => optional 8 none
  | some i => 1#8 :: offsetBytes i

/-- CLOCK_STATUS (R164). -/
def execClockStatus (s : State) : Result :=
  taken .clockStatus s fun s =>
    let x := s.tmu
    s.replyOk (byte (clockStateCode x.clock) ++ optional 8 s.stamp ++ be 8 x.now ++ beSigned 4 x.frequency
      ++ beSigned 4 x.phaseTerm ++ optional 8 (x.phaseEnd.map fun t => t - x.now) ++ beSigned 4 x.rate
      ++ lastOffsetBytes x.lastOffset ++ optional 8 (x.lastMark.map fun t => x.now - t)
      ++ optional 8 (x.holdoverDeadline.map fun t => t - x.now) ++ yesNo (inHoldover x) ++ be 4 x.marks ++ be 4 x.steps
      ++ be 4 x.holdovers)

/-! ## Runtime accounts (R165 to R171) -/

/-- The place of an account in the order of ACCOUNT_READ (R170). -/
def accountIx : Account → Fin 15
  | .axis k => ⟨k, by omega⟩
  | .camera k => ⟨8 + k, by omega⟩
  | .gate => 14

/-- CAMERA_OVERDUE's condition: some camera account is in ALARM (R167). -/
def camerasOverdue (x : Tmu) : Bool := cameraNos.any fun k => x.accounts[accountIx (.camera k)].state == .alarm

/-- GATE_OVERDUE's condition: the gate account is in ALARM (R167). -/
def gateOverdue (x : Tmu) : Bool := x.accounts[accountIx .gate].state == .alarm

/-- A change of an account's state is handed to the unit's owner (R167). -/
def State.handAccount (s : State) (a : Account) (before : Tmu) (old new : AlarmState) : State :=
  match a with
  | .axis k =>
    if new = .alarm then s.send (.accountAlarmEntry k)
    else if old = .alarm then s.send (.accountAlarmExit k) else s
  | .camera _ => s.reportSource .cameraOverdue (camerasOverdue before) (camerasOverdue s.tmu)
  | .gate => s.reportSource .gateOverdue (gateOverdue before) (gateOverdue s.tmu)

/-- An account is written with its state set anew; a change of state is posted and handed on (R165, R167). -/
def State.putAccount (s : State) (a : Account) (x : AccountRecord) (cause : AccountCause) : State :=
  let old := s.tmu.accounts[accountIx a]
  let new := { x with state := reachedState x.count x.warn x.alarm }
  let s1 := s.setTmu { s.tmu with accounts := s.tmu.accounts.set (accountIx a) new }
  if old.state = new.state then s1
  else (s1.post (.accountState a old.state new.state new.count cause)).handAccount a s.tmu old.state new.state

/-- An account. -/
def State.account (s : State) (a : Account) : AccountRecord := s.tmu.accounts[accountIx a]

/-- ACCOUNT_COUNT (R166). -/
def execAccountCount (account : Account) (s : State) : Result :=
  taken (.accountCount account) s fun s =>
    let x := s.account account
    s.putAccount account { x with count := saturate Config.top32 x.count } .count

/-- ACCOUNT_CONFIG (R168). -/
def execAccountConfig (account warn alarm : Nat) (s : State) : Result :=
  taken (.accountConfig account warn alarm) s fun s =>
    s.withLevel 2 fun s =>
      s.requireSome (accountOf account) .badValue fun a s =>
        s.require (thresholdsOk Config.top32 warn alarm) .badValue fun s =>
          let s1 := (s.putAccount a { s.account a with warn := warn, alarm := alarm } .config).markDirty
          s1.replyOk (byte (alarmStateCode (s1.account a).state))

/-- The reset of an account that the ACU has accepted (R169). -/
def State.resetAccount (s : State) (a : Account) : State :=
  (s.putAccount a { s.account a with count := 0, lastReset := s.stamp } .reset).markDirty

/-- An account in a status body. -/
def accountBytes (x : AccountRecord) : List Byte :=
  be 4 x.count ++ be 4 x.warn ++ be 4 x.alarm ++ byte (alarmStateCode x.state) ++ optional 8 x.lastReset

/-- ACCOUNT_READ (R170). -/
def execAccountRead (s : State) : Result :=
  taken .accountRead s fun s =>
    s.replyOk (s.tmu.accounts.toList.flatMap accountBytes ++ yesNo (camerasOverdue s.tmu) ++ yesNo (gateOverdue s.tmu)
      ++ be 8 (s.tmu.saveDeadline - s.now) ++ yesNo s.tmu.saveDeferred)

/-- The automatic account save at its expiry (R171): deferred during a SAVE; where an account save is being written no other
begins (log 14). -/
def State.accountSaveDue (s : State) : State :=
  match s.sst.saving with
  | some .save => s.setTmu { s.tmu with saveDeferred := true }
  | some .accountSave => s
  | none => s.beginAccountSave

/-- ACCOUNT_SAVE_EXPIRY (R171). -/
def execAccountSaveExpiry (s : State) : Result :=
  taken .accountSaveExpiry s fun s =>
    if s.tmu.saveDeadline ≤ s.now then
      (s.setTmu { s.tmu with saveDeadline := s.tmu.saveDeadline + Config.accountSaveInterval }).accountSaveDue
    else s

end Sys2Proof.Machine
end

