-- ==== Sys2Proof/Machine/Watches.lean ====
section
/-!
DEFINITION. Watches.lean: the watches of the Access Unit (chapter 7): setting and clearing, hits and their actions, the holder
table, AXIS_RESUME, acknowledgement and status.
-/

namespace Sys2Proof.Machine

open Sys2Proof

/-! ## Hits (R148) -/

/-- The serial that a subject names (R148). -/
def subjectSerial : WatchSubject → Option Nat
  | .serial s _ _ => some s
  | .axisPhase _ _ serial _ _ => serial
  | .cameraNg _ _ serial => some serial
  | .station _ _ _ => none

/-- The fields of a watch after a hit (R148). -/
def Watch.hit (x : Watch) (stamp : Option Nat) (subject : WatchSubject) : Watch :=
  { x with
    hitFlag := true
    hitCount := min (x.hitCount + 1) 65535
    firstHit := if x.hitCount = 0 then stamp else x.firstHit
    subject := some subject }

/-- The watch report of a hit whose subject names a serial (R11, R148). -/
def watchReports (w : WatchNo) (x : Watch) (subject : WatchSubject) : List Instr :=
  match subjectSerial subject with
  | some n => [.watchReport n w (x.action == .sample)]
  | none => []

/-- The latch of WATCH_STOP at a hit with action WITHDRAW (R150). -/
def withdrawReports (x : Watch) : List Instr :=
  match x.action with
  | .withdraw => [.eventSourceLatch .watchStop]
  | _ => []

/-- A watch takes a hit (R148, R150). -/
def State.takeHit (s : State) (w : WatchNo) (x : Watch) (subject : WatchSubject) : State :=
  let x1 := x.hit s.stamp subject
  ((s.setWatch w (some x1)).post (.watchHit w x.kind x.action x1.hitCount subject)).sendAll
    (watchReports w x subject ++ withdrawReports x)

/-- The subject with which a report other than a verdict meets a watch's condition, if it does (R144, R147, R151). -/
def hitSubject (w : WatchNo) (x : Watch) (r : Report) : Option WatchSubject :=
  match x.kind, r with
  | .serial n .infeed, .newRecord m => if n = m then some (.serial n .infeed none) else none
  | .serial n .fillStart, .fillStart _ m => if n = m then some (.serial n .fillStart none) else none
  | .serial n (.camera k), .lineStage m j => if n = m ∧ k = j then some (.serial n (.camera k) none) else none
  | .serial n .gate, .departure m how reason =>
    if n = m then some (.serial n .gate (some (how, reason))) else none
  | .axisPhase k (.fill p), .phaseEntry j q serial holder =>
    if k = j ∧ p = q then some (.axisPhase k (.fill p) (some serial) (holder == some w) none) else none
  | .axisPhase k (.fill p), .holdAfterRelease j q serial holder =>
    if k = j ∧ p = q ∧ holder = w ∧ !sameEntry x k p serial then
      some (.axisPhase k (.fill p) (some serial) true none)
    else none
  | .axisPhase k .halted, .halt j cause _ => if k = j then some (.axisPhase k .halted none false (some cause)) else none
  | .station a, .query b p admits => if a = b then some (.station a p admits) else none
  | _, _ => none
where
  /-- The watch's last subject is this axis, phase and serial (R151). -/
  sameEntry (x : Watch) (k : AxisNo) (p : FillPhase) (serial : Nat) : Bool :=
    match x.subject with
    | some (.axisPhase j q n _ _) => j == k && q == .fill p && n == some serial
    | _ => false

/-- A verdict report at a CAMERA_NG watch: the run count, and the hit that completes the run (R149). -/
def State.countNg (s : State) (w : WatchNo) (x : Watch) (n serial : Nat) (k : CameraNo) (v : Verdict) : State :=
  match v with
  | .ng =>
    if n ≤ x.run + 1 then s.takeHit w { x with run := 0 } (.cameraNg k n serial)
    else s.setWatch w (some { x with run := x.run + 1 })
  | _ => s.setWatch w (some { x with run := 0 })

/-- A report at one watch: a SET and enabled watch alone takes hits (R148, R149), and a disabled CAMERA_NG watch counts no
verdicts (log 38). -/
def State.atWatch (s : State) (r : Report) (w : WatchNo) : State :=
  match s.watch w with
  | none => s
  | some x =>
    if !x.enabled then s
    else match x.kind, r with
      | .cameraNg k n, .verdict serial j v => if k = j then s.countNg w x n serial k v else s
      | _, _ =>
        match hitSubject w x r with
        | some subject => s.takeHit w x subject
        | none => s

/-- The holder table after a report (R151). -/
def State.noteHolder (s : State) (r : Report) : State :=
  match r with
  | .phaseEntry k _ _ (some w) => s.setHolder k (some w)
  | .holdAfterRelease k _ _ w => s.setHolder k (some w)
  | .release k w => if s.holder k = some w then s.setHolder k none else s
  | _ => s

/-- ACU_REPORT (R147 to R151): the hits in ascending watch number, and the holder table. -/
def execAcuReport (report : Report) (s : State) : Result :=
  taken (.acuReport report) s fun s => (fourNos.foldl (fun s w => s.atWatch report w) s).noteHolder report

/-! ## Setting and clearing (R145, R146) -/

/-- The hold list entry of a watch: its axis and phase, when it is enabled with action HOLD (R63). -/
def holdOf (x : Watch) : Option (AxisNo × FillPhase) :=
  match x.enabled, x.action, x.kind with
  | true, .hold, .axisPhase k (.fill p) => some (k, p)
  | _, _, _ => none

/-- The report of the removal of an enabled HOLD watch to the FMU (R145). -/
def removalReports (w : WatchNo) (x : Watch) : List Instr :=
  match holdOf x with
  | some (k, _) => [.holdListRemove k w]
  | none => []

/-- The report of a new enabled HOLD watch to the FMU (R145). -/
def additionReports (w : WatchNo) (x : Watch) : List Instr :=
  match holdOf x with
  | some (k, p) => [.holdListAdd k w p]
  | none => []

/-- The holder table with a watch cleared from it (R145). -/
def State.clearHolder (s : State) (w : WatchNo) : State :=
  s.setAcu { s.acu with holders := s.acu.holders.map fun h => if h = some w then none else h }

/-- The old watch is dropped: its removal is reported and the holder it is clears (R145, R146). -/
def State.dropWatch (s : State) (w : WatchNo) : State :=
  match s.watch w with
  | none => s
  | some x => ((s.clearHolder w).sendAll (removalReports w x)).setWatch w none

/-- A watch disabled at its grant's closing start (R146). -/
def State.disableWatch (s : State) (id : Nat) (w : WatchNo) : State :=
  match s.watch w with
  | none => s
  | some x =>
    if x.scope = .localTo id ∧ x.enabled then
      ((s.clearHolder w).sendAll (removalReports w x)).setWatch w (some { x with enabled := false, run := 0 })
    else s

/-- The scope of a request on a watch, when its values are in range: GLOBAL with no grant id, or LOCAL with one (R145,
R146; log 11). -/
def scopeOf (scope grant : Nat) : Option WatchScope :=
  match scope with
  | 0 => if grant = 0 then some .global else none
  | 1 => if grantIdOk grant then some (.localTo grant) else none
  | _ => none

/-- The authority of a request on a watch: level 2 for GLOBAL, the grant for LOCAL, with the watched axis as its member when
there is one (R128, R145, R146). -/
def watchAuthority (s : State) (scope : WatchScope) (member : Option AxisNo) : Option Reason :=
  match scope with
  | .global => if s.acu.level < 2 then some .level else none
  | .localTo id => s.grantCheck id fun g => member.all fun k => g.axes.getLsbD k

/-- A SET watch that a LOCAL WATCH_SET may not write (R145). -/
def overwriteRefused (s : State) (scope : WatchScope) (old : Option Watch) : Bool :=
  match scope, old with
  | .localTo id, some x =>
    match x.scope with
    | .global => true
    | .localTo other => other != id && (s.grantOf other).isSome
  | _, _ => false

/-- The values of a WATCH_SET when every one is in range (R144, R145). -/
def watchOf (operands : WatchOperands) (action scope grant enable : Nat) : Option Watch :=
  match watchKindOf operands, watchActionOf action, scopeOf scope grant, yesNoOf enable with
  | some kind, some act, some sc, some en =>
    if actionAllowed kind act then some { kind := kind, action := act, scope := sc, enabled := en } else none
  | _, _, _, _ => none

/-- The member of a LOCAL WATCH_SET's grant check: the watched axis of a HOLD watch (R145). -/
def watchMember (x : Watch) : Option AxisNo :=
  match x.action, x.kind with
  | .hold, .axisPhase k _ => some k
  | _, _ => none

/-- An accepted WATCH_SET (R145). -/
def State.writeWatch (s : State) (w : WatchNo) (x : Watch) : State :=
  (((s.dropWatch w).setWatch w (some x)).sendAll (additionReports w x)).replyOk []

/-- WATCH_SET (R145); a kind, a scope or an enable choice of no list is checked with the first row of the table (log 12). -/
def execWatchSet (watch : Nat) (operands : WatchOperands) (action scope grant enable : Nat) (s : State) : Result :=
  taken (.watchSet watch operands action scope grant enable) s fun s =>
    s.requireSome (finOf 4 watch) .badValue fun w s =>
      s.requireSome (watchOf operands action scope grant enable) .badValue fun x s =>
        match watchAuthority s x.scope (watchMember x) with
        | some r => s.refuse r
        | none => if overwriteRefused s x.scope (s.watch w) then s.refuse .state else s.writeWatch w x

/-- Whether the scope named may clear a SET watch (R146). -/
def clearAllowed (s : State) (scope : WatchScope) (x : Watch) : Bool :=
  match scope, x.scope with
  | .global, .global => true
  | .global, .localTo id => (s.grantOf id).isNone
  | .localTo _, .global => false
  | .localTo id, .localTo other => id == other

/-- WATCH_CLEAR (R146). -/
def execWatchClear (watch scope grant : Nat) (s : State) : Result :=
  taken (.watchClear watch scope grant) s fun s =>
    s.requireSome (scopeOf scope grant) .badValue fun sc s =>
      match watchAuthority s sc none with
      | some r => s.refuse r
      | none =>
        s.requireSome (finOf 4 watch) .badValue fun w s =>
          match s.watch w with
          | none => s.refuse .notFound
          | some x => if clearAllowed s sc x then (s.dropWatch w).replyOk [] else s.refuse .state

/-! ## Resume, acknowledgement, status (R152, R154) -/

/-- One member of AXIS_RESUME (R152). -/
def resumeMember (k : AxisNo) (s : State) : State × MemberResult :=
  match s.holder k with
  | none => (s, .refused .state)
  | some w => ((s.setHolder k none).send (.holdRelease k w), .ok)

/-- AXIS_RESUME (R152). -/
def execAxisResume (axes : AxisSet) (s : State) : Result :=
  taken (.axisResume axes) s fun s => s.wholeSet (axes != 0) 1 true fun s => s.onAxes axes resumeMember

/-- WATCH_ACK (R154). -/
def execWatchAck (watch : Nat) (s : State) : Result :=
  taken (.watchAck watch) s fun s =>
    s.withLevel 1 fun s =>
      s.requireSome (finOf 4 watch) .badValue fun w s =>
        match s.watch w with
        | none => s.refuse .notFound
        | some x => (s.setWatch w (some { x with hitFlag := false })).replyOk []

/-- The operands of a kind (R144). -/
def operandBytes : WatchKind → List Byte
  | .serial n stage => be 4 n ++ byte (stageCode stage)
  | .axisPhase k p => byte k ++ byte (entryPhaseCode p)
  | .cameraNg k n => byte k ++ byte n
  | .station a => be 6 a.toNat

/-- A scope with its grant id and whether a slot still holds it (R154); for GLOBAL both are 0 (log 11). -/
def scopeBytes (s : State) : WatchScope → List Byte
  | .global => byte 0 ++ byte 0 ++ yesNo false
  | .localTo id => byte 1 ++ byte id ++ yesNo (s.grantOf id).isSome

/-- The fields of a last subject, in the order of R148's table, each that may be absent behind its flag (R148, R184; log 11). -/
def subjectFields : WatchSubject → List Byte
  | .serial s stage departure =>
    be 4 s ++ byte (stageCode stage) ++ optional 1 (departure.map fun d => departureCode d.1)
      ++ optional 1 (departure.bind fun d => d.2.map rejectReasonCode)
  | .axisPhase k phase serial holds cause =>
    byte k ++ byte (entryPhaseCode phase) ++ optional 4 serial ++ yesNo holds ++ optional 1 (cause.map haltCauseCode)
  | .cameraNg k n serial => byte k ++ byte n ++ be 4 serial
  | .station a port admits => be 6 a.toNat ++ byte (portNumber port) ++ byte (if admits then 0 else 1)

/-- The bytes that the subject of a watch of a kind takes, present or absent (R184). -/
def subjectWidth : WatchKind → Nat
  | .serial .. => 9
  | .axisPhase .. => 10
  | .cameraNg .. => 6
  | .station .. => 8

/-- The last subject of a watch: its flag, and the same number of bytes whether it is present or absent (R184). -/
def lastSubjectBytes (kind : WatchKind) : Option WatchSubject → List Byte
  | none => 0#8 :: List.replicate (subjectWidth kind) 0#8
  | some subject => 1#8 :: subjectFields subject

/-- A watch in a status body: FREE, or every field (R154; log 11). -/
def watchBytes (s : State) : Option Watch → List Byte
  | none => byte 0
  | some x =>
    byte 1 ++ byte (watchKindCode x.kind) ++ operandBytes x.kind ++ byte (watchActionCode x.action)
      ++ scopeBytes s x.scope ++ yesNo x.enabled ++ yesNo x.hitFlag ++ be 2 x.hitCount ++ optional 8 x.firstHit
      ++ lastSubjectBytes x.kind x.subject ++ byte x.run

/-- WATCH_READ (R154). -/
def execWatchRead (s : State) : Result :=
  taken .watchRead s fun s =>
    s.replyOk (fourNos.flatMap (fun w => watchBytes s (s.watch w))
      ++ axisNos.flatMap fun k => optional 1 ((s.holder k).map fun w => w.val))

end Sys2Proof.Machine
end

