-- ==== Sys2Proof/Machine/Access.lean ====
section
/-!
DEFINITION. Access.lean: the Access Unit (chapter 6): unlocking and the lockout, passcodes, the grant table, the closing of a grant
and the access requests.
-/

namespace Sys2Proof.Machine

open Sys2Proof

/-! ## Levels (R121 to R127) -/

/-- A level that a request may name (R123, R127, R130). -/
def levelOk (level : Nat) : Bool := level == 1 || level == 2

/-- The passcode of a level (R127). -/
def passcodeOf (c : Settings) (level : Nat) : Option (List Byte) := if level = 1 then c.passcode1 else c.passcode2

/-- A successful UNLOCK (R123, R125). -/
def State.unlockTo (s : State) (level : Nat) : State :=
  (s.setAcu { s.acu with level := level, failures := 0 }).replyOk []

/-- A wrong passcode: the third in a row begins a lockout (R123, R124). -/
def State.wrongPasscode (s : State) : State :=
  (if 2 ≤ s.acu.failures then
    s.setAcu { s.acu with failures := 0, lockoutEnd := some (s.now + Config.lockoutLength) }
  else s.setAcu { s.acu with failures := s.acu.failures + 1 }).refuse .level

/-- UNLOCK (R123 to R125). -/
def execUnlock (level : Nat) (passcode : List Byte) (s : State) : Result :=
  taken (.unlock level passcode) s fun s =>
    s.require (levelOk level && passcodeOk passcode) .badValue fun s =>
      s.require s.acu.lockoutEnd.isNone .lockedOut fun s =>
        match passcodeOf s.cfg level with
        | some code => if code = passcode then s.unlockTo level else s.wrongPasscode
        | none => if s.inputs.setup then s.unlockTo level else s.refuse .state

/-- LOCKOUT_EXPIRY (R124). -/
def execLockoutExpiry (s : State) : Result :=
  taken .lockoutExpiry s fun s =>
    match s.acu.lockoutEnd with
    | some t => if t ≤ s.now then s.setAcu { s.acu with lockoutEnd := none } else s
    | none => s

/-- LOCK (R126). -/
def execLock (s : State) : Result :=
  taken .lock s fun s => (s.setAcu { s.acu with level := 0 }).replyOk []

/-- IDLE_DEADLINE_EXPIRY (R122): a level of 1 or 2 drops to 0, with a notice. -/
def execIdleDeadlineExpiry (s : State) : Result :=
  taken .idleDeadlineExpiry s fun s =>
    if s.acu.idleDeadline ≤ s.now ∧ 0 < s.acu.level then
      (s.setAcu { s.acu with level := 0 }).post (.levelDropped s.acu.level)
    else s

/-- A passcode replaced (R127). -/
def withPasscode (c : Settings) (level : Nat) (code : Option (List Byte)) : Settings :=
  if level = 1 then { c with passcode1 := code } else { c with passcode2 := code }

/-- PASSCODE_SET (R127). -/
def execPasscodeSet (level : Nat) (passcode : Option (List Byte)) (s : State) : Result :=
  taken (.passcodeSet level passcode) s fun s =>
    s.withLevel 2 fun s =>
      s.require (levelOk level && passcode.all passcodeOk) .badValue fun s =>
        (s.configure (withPasscode s.cfg level passcode)).replyOk []

/-! ## Opening and extending (R130 to R133) -/

/-- The id after one (R131). -/
def idAfter (id : Nat) : Nat := if 255 ≤ id then 1 else id + 1

/-- The next id that no slot holds, looking at as many ids as the fuel allows: with four slots five are enough (R131). -/
def State.freeId (s : State) : Nat → Nat → Nat
  | 0, id => idAfter id
  | fuel + 1, id => if (s.slotOf (idAfter id)).isSome then s.freeId fuel (idAfter id) else idAfter id

/-- The lowest free slot (R130). -/
def State.freeSlot (s : State) : Option (Fin 4) := fourNos.find? fun i => (s.grant i).isNone

/-- The grants that are OPEN or CLOSING. -/
def State.grants (s : State) : List Grant := fourNos.filterMap s.grant

/-- Two scopes share a unit, a port or the gate flag (R129, R130). -/
def Grant.overlaps (g : Grant) (axes : AxisSet) (cameras : CameraSet) (ports : PortSet) (gate : Bool) : Bool :=
  g.axes &&& axes != 0 || g.cameras &&& cameras != 0 || g.ports &&& ports != 0 || (g.gate && gate)

/-- A duration of a grant in minutes (R130, R132). -/
def minutesOk (m : Nat) : Bool := 1 ≤ m && m ≤ 480

/-- The value checks of GRANT_OPEN (R130). -/
def grantValuesOk (level : Nat) (axes : AxisSet) (cameras : CameraSet) (ports : PortSet) (gate : Bool) (minutes : Nat) :
    Bool :=
  levelOk level && minutesOk minutes && !namesNoCamera cameras && (axes != 0 || cameras != 0 || ports != 0 || gate)

/-- A grant as GRANT_OPEN fills its slot (R129, R130). -/
def newGrant (id level : Nat) (axes : AxisSet) (cameras : CameraSet) (ports : PortSet) (gate : Bool)
    (openedAt expiresAt : RunTime) : Grant :=
  { id := id, level := level, axes := axes, cameras := cameras, ports := ports, gate := gate, openedAt := openedAt
    expiresAt := expiresAt, state := .opened, terminals := 0, closeCause := none, closeResult := .clean
    forgetsExpired := 0, forgetsOutstanding := none, axesInMotion := none }

/-- An accepted GRANT_OPEN (R130, R131). -/
def State.openGrant (s : State) (slot : Fin 4) (level : Nat) (axes : AxisSet) (cameras : CameraSet) (ports : PortSet)
    (gate : Bool) (minutes : Nat) : State :=
  let id := s.freeId 4 s.acu.grantCounter
  let expires := s.now + minutes * Config.minute
  let s1 := s.setGrant slot (some (newGrant id level axes cameras ports gate s.now expires))
  ((s1.setAcu { s1.acu with grantCounter := id }).send (.swsGrantOpened id ports)).replyOk
    (byte slot ++ byte id ++ be 8 expires)

/-- GRANT_OPEN (R130); a gate flag that is neither yes nor no is checked with the first row of the table (log 12). -/
def execGrantOpen (level : Nat) (axes : AxisSet) (cameras : CameraSet) (ports : PortSet) (gate minutes : Nat)
    (s : State) : Result :=
  taken (.grantOpen level axes cameras ports gate minutes) s fun s =>
    s.requireSome (yesNoOf gate) .badValue fun g s =>
      s.require (grantValuesOk level axes cameras ports g minutes) .badValue fun s =>
        s.withLevel level fun s =>
          s.requireSome s.freeSlot .full fun slot s =>
            s.require (!s.grants.any fun x => x.overlaps axes cameras ports g) .busy fun s =>
              s.require ((portMembers ports).all fun p => s.cfg.ports[p].policy == .service) .state fun s =>
                s.openGrant slot level axes cameras ports g minutes

/-- GRANT_EXTEND (R132). -/
def execGrantExtend (grant minutes : Nat) (s : State) : Result :=
  taken (.grantExtend grant minutes) s fun s =>
    s.require (grantIdOk grant && minutesOk minutes) .badValue fun s =>
      match s.slotOf grant, s.grantOf grant with
      | some slot, some g =>
        s.withLevel g.level fun s =>
          s.require (g.state == .opened) .state fun s =>
            let expires := g.expiresAt + minutes * Config.minute
            s.require (expires ≤ g.openedAt + 480 * Config.minute) .badValue fun s =>
              (s.setGrant slot (some { g with expiresAt := expires })).replyOk (be 8 expires)
      | _, _ => s.refuse .notFound

/-! ## Closing (R134, R136 to R139) -/

/-- The closing start of a grant (R136): its state, its LOCAL watches in ascending number, and the hand-over to the FMU, the
CTU and the SWS, in that order (log 37). -/
def State.startClosing (s : State) (slot : Fin 4) (g : Grant) (cause : CloseCause) : State :=
  let s1 := s.setGrant slot (some { g with
    state := .closing, closeCause := some cause, forgetsOutstanding := none, axesInMotion := none })
  (fourNos.foldl (fun s w => s.disableWatch g.id w) s1).sendAll
    [.fmuGrantClosingStart g.id g.axes, .ctuGrantClosingStart g.id, .swsGrantClosingStart g.id]

/-- GRANT_EXPIRY (R133): an OPEN grant at the run time of its expires at. -/
def execGrantExpiry (slot : Fin 4) (s : State) : Result :=
  taken (.grantExpiry slot) s fun s =>
    match s.grant slot with
    | some g => if g.state = .opened ∧ g.expiresAt ≤ s.now then s.startClosing slot g .expiry else s
    | none => s

/-- GRANT_CLOSE (R134). -/
def execGrantClose (grant : Nat) (s : State) : Result :=
  taken (.grantClose grant) s fun s =>
    s.require (grantIdOk grant) .badValue fun s =>
      match s.slotOf grant, s.grantOf grant with
      | some slot, some g =>
        match g.state with
        | .opened => (s.startClosing slot g .request).replyAccepted []
        | .closing => s.replyOk []
      | _, _ => s.refuse .notFound

/-- A waiting field that a report moves: an unknown one stays unknown (R138). -/
def known {α : Type} (field : Option α) (value : α) : Option α := field.map fun _ => value

/-- The effect of a report on the grant it names (R129, R138). -/
def Grant.report (g : Grant) (r : GrantReport) : Grant :=
  match r with
  | .axesInMotion _ axes => if g.state = .closing then { g with axesInMotion := some axes } else g
  | .homingStarted k => { g with axesInMotion := g.axesInMotion.map fun a => withMember a k }
  | .atRest k _ => { g with axesInMotion := g.axesInMotion.map fun a => withoutMember a k }
  | .closingForgets _ n =>
    if g.state = .closing then { g with forgetsOutstanding := some n, terminals := 0 } else g
  | .resolvedDone _ n => { g with forgetsOutstanding := known g.forgetsOutstanding n }
  | .resolvedExpired _ n =>
    { g with
      forgetsOutstanding := known g.forgetsOutstanding n
      closeResult := .unconfirmed
      forgetsExpired := g.forgetsExpired + 1 }
  | .terminals _ n => { g with terminals := n }

/-- Whether a report concerns a grant: it names its id, or an axis in the set of a CLOSING grant (R137, R138). -/
def Grant.concerned (g : Grant) (r : GrantReport) : Bool :=
  match r with
  | .axesInMotion id _ | .closingForgets id _ | .resolvedDone id _ | .resolvedExpired id _ | .terminals id _ => g.id == id
  | .homingStarted k | .atRest k _ => g.state == .closing && g.axes.getLsbD k

/-- The closing of a grant is over: both waiting fields known, no axis in motion, no forget outstanding (R139). -/
def Grant.closingOver (g : Grant) : Bool :=
  g.state == .closing && g.axesInMotion == some 0 && g.forgetsOutstanding == some 0

/-- The completion of a closing (R139): the FMU and the SWS are told, GRANT_CLOSED is posted, and the slot is free. -/
def State.completeClosing (s : State) (slot : Fin 4) (g : Grant) : State :=
  (((s.send (.fmuGrantCompletion g.axes)).send (.swsGrantClosed g.id)).post
    (.grantClosed g.id g.level (g.closeCause.getD .request) g.closeResult g.forgetsExpired g.openedAt)).setGrant slot none

/-- A report at one slot, with the check for the completion after it (R138, R139). -/
def State.grantReport (s : State) (r : GrantReport) (slot : Fin 4) : State :=
  match s.grant slot with
  | none => s
  | some g =>
    if g.concerned r then
      let g1 := g.report r
      let s1 := s.setGrant slot (some g1)
      if g1.closingOver then s1.completeClosing slot g1 else s1
    else s

/-- CLOSING_REPORT (R138, R139), at the slots in ascending number (log 37); a report for an id that no slot holds is
discarded (R129). -/
def execClosingReport (report : GrantReport) (s : State) : Result :=
  taken (.closingReport report) s fun s => fourNos.foldl (fun s i => s.grantReport report i) s

/-! ## Account resets (R141) -/

/-- A grant covers the unit of an account (R128, R141). -/
def Grant.coversAccount (g : Grant) : Account → Bool
  | .axis k => g.axes.getLsbD k
  | .camera k => g.cameras.getLsbD k
  | .gate => g.gate

/-- ACCOUNT_RESET (R141). -/
def execAccountReset (grant account : Nat) (s : State) : Result :=
  taken (.accountReset grant account) s fun s =>
    s.require (grantIdOk grant) .badValue fun s =>
      s.requireSome (accountOf account) .badValue fun a s =>
        match s.grantCheck grant fun g => g.coversAccount a with
        | some r => s.refuse r
        | none =>
          if (s.grantOf grant).any fun g => g.level == 2 then (s.resetAccount a).replyOk [] else s.refuse .noGrant

/-! ## Status (R142) -/

/-- ACCESS_STATUS (R142): whether a lockout runs is the byte before its time left, and SETUP is 1 when active (log 11). -/
def execAccessStatus (s : State) : Result :=
  taken .accessStatus s fun s =>
    s.replyOk (byte s.acu.level ++ be 8 (s.acu.idleDeadline - s.now) ++ byte s.acu.failures
      ++ optional 8 (s.acu.lockoutEnd.map fun t => t - s.now) ++ yesNo s.cfg.passcode1.isSome
      ++ yesNo s.cfg.passcode2.isSome ++ yesNo s.inputs.setup ++ byte s.acu.grantCounter)

/-- A slot of the grant table in a status body: CLOSED, or every field of R129 (R142; log 11). -/
def grantBytes (now : RunTime) : Option Grant → List Byte
  | none => byte 0
  | some g =>
    byte 1 ++ byte g.id ++ byte g.level ++ byte g.axes.toNat ++ byte g.cameras.toNat ++ byte g.ports.toNat
      ++ yesNo g.gate ++ be 8 g.openedAt ++ be 8 (g.expiresAt - now) ++ byte (grantStateCode g.state)
      ++ byte g.terminals ++ optional 1 (g.closeCause.map closeCauseCode) ++ byte (closeResultCode g.closeResult)
      ++ byte g.forgetsExpired ++ optional 1 g.forgetsOutstanding ++ optional 1 (g.axesInMotion.map fun a => a.toNat)

/-- GRANT_READ (R142). -/
def execGrantRead (s : State) : Result :=
  taken .grantRead s fun s => s.replyOk (fourNos.flatMap fun i => grantBytes s.now (s.grant i))

end Sys2Proof.Machine
end

