-- ==== Sys2Proof/Machine/Permit.lean ====
section
/-!
DEFINITION. Permit.lean: the Permit Logic (chapter 9): reports of sources, the extension, acknowledgement, configuration and status.
-/

namespace Sys2Proof.Machine

open Sys2Proof

/-! ## Reports and the extension (R174 to R176) -/

/-- SOURCE_ACTIVATION (R174). -/
def execSourceActivation (source : FaultSource) (s : State) : Result :=
  taken (.sourceActivation source) s fun s => s.activateSource source

/-- SOURCE_DEACTIVATION (R174). -/
def execSourceDeactivation (source : FaultSource) (s : State) : Result :=
  taken (.sourceDeactivation source) s fun s => s.deactivateSource source

/-- EVENT_SOURCE_LATCH (R175). -/
def execEventSourceLatch (source : FaultSource) (s : State) : Result :=
  taken (.eventSourceLatch source) s fun s => s.latchSource source

/-- An extension that has run out: the source is active, enabled and LIVE, not yet in effect, and its time has come (R176). -/
def extensionDue (s : State) (n : Fin 16) : Bool :=
  let c := s.sourceSettings n
  c.enable && c.mode == .live && !(s.source n).inEffect && inEffectNow c (s.source n) s.now

/-- EXTENSION_EXPIRY (R176). -/
def execExtensionExpiry (source : FaultSource) (s : State) : Result :=
  taken (.extensionExpiry source) s fun s =>
    let n := sourceNo source
    if extensionDue s n then (s.weigh n).settlePermit source .expiry else s

/-! ## Acknowledgement (R179) -/

/-- A list that FAULT_ACK may carry: one to sixteen sources, each 0 to 15 and none twice (R179). -/
def ackListOk (sources : List Nat) : Bool :=
  !sources.isEmpty && sources.length ≤ 16 && (sources.all fun n => n < 16) && decide sources.Nodup

/-- The sources of a list in ascending number (R179). -/
def ackMembers (sources : List Nat) : List (Fin 16) := sixteenNos.filter fun n => sources.contains n.val

/-- One source of FAULT_ACK (R179). -/
def ackMember (n : Fin 16) (s : State) : State × MemberResult :=
  let x := s.source n
  if x.active then (s, .refused .state)
  else if x.latched then ((s.setSource n { x with latched := false }).weigh n, .ok)
  else (s, .ok)

/-- The lowest-numbered source that FAULT_ACK changes (R177). -/
def ackChanged (s : State) (members : List (Fin 16)) : Option (Fin 16) :=
  members.find? fun n => !(s.source n).active && (s.source n).latched

/-- FAULT_ACK (R179). -/
def execFaultAck (sources : List Nat) (s : State) : Result :=
  taken (.faultAck sources) s fun s =>
    s.withLevel 1 fun s =>
      s.require (ackListOk sources) .badValue fun s =>
        let members := ackMembers sources
        let r := runMembers members (fun n => n.val) ackMember s
        match ackChanged s members with
        | some n => (r.1.settlePermit (sourceOfNo n) .ack).replyOk r.2
        | none => r.1.replyOk r.2

/-! ## Configuration (R180) -/

/-- A source's configuration replaced, and the source weighed anew (R180). -/
def State.configureSource (s : State) (n : Fin 16) (c : SourceSettings) : State :=
  ((s.configure { s.cfg with sources := s.cfg.sources.set n c }).weigh n).settlePermit (sourceOfNo n) .config

/-- PERMIT_CONFIG (R180); an enable that is neither yes nor no is checked with the first row of the table (log 12). -/
def execPermitConfig (source enable mode extension : Nat) (s : State) : Result :=
  taken (.permitConfig source enable mode extension) s fun s =>
    s.withLevel 2 fun s =>
      s.requireSome (finOf 16 source) .badValue fun n s =>
        s.requireSome (yesNoOf enable) .badValue fun e s =>
          s.requireSome (latchModeOf mode) .badValue fun m s =>
            s.require (extension ≤ 600) .badValue fun s =>
              s.require (!isForced (sourceOfNo n)) .state fun s =>
                s.require (!((sourceOfNo n).isEvent && m == .live)) .badValue fun s =>
                  let s1 := s.configureSource n ⟨e, m, extension⟩
                  s1.replyOk (yesNo (s1.source n).inEffect)

/-! ## Status (R181) -/

/-- The run time left to the expiry of a LIVE source that is active and not yet in effect (R181), 0 once it has passed
(log 32). -/
def timeToEffect (c : SourceSettings) (x : Source) (now : RunTime) : Option Nat :=
  match c.mode, x.active && !x.inEffect, x.since with
  | .live, true, some t => some (extensionEnd t c - now)
  | _, _, _ => none

/-- The fields of one source in the order R181 names them. -/
def sourceBytes (s : State) (n : Fin 16) : List Byte :=
  let c := s.sourceSettings n
  let x := s.source n
  byte (if (sourceOfNo n).isEvent then 1 else 0) ++ yesNo x.active ++ yesNo x.latched ++ yesNo c.enable
    ++ byte (latchModeCode c.mode) ++ be 2 c.extension ++ yesNo x.inEffect
    ++ optional 8 (x.since.map fun t => s.now - t) ++ optional 8 (timeToEffect c x s.now)

/-- PERMIT_STATUS (R181): the level of PERMIT is 1 for HIGH and 0 for LOW (log 11). -/
def execPermitStatus (s : State) : Result :=
  taken .permitStatus s fun s => s.replyOk (yesNo s.pml.permit ++ sixteenNos.flatMap (sourceBytes s))

end Sys2Proof.Machine
end

