-- ==== Sys2Proof/Machine/Link.lean ====
section
/-!
DEFINITION. Link.lean: the Link Controller (chapter 10): the receive state, request frames and the input queue, the taking of a
request, notices and the identity.
-/

namespace Sys2Proof.Machine

open Sys2Proof

/-! ## Receiving (R183 to R185) -/

/-- The LNK returns to HUNTING. -/
def State.hunt (s : State) : State := s.setLnk { s.lnk with receive := .hunting }

/-- SYNC_FOUND (R183): in HUNTING, the sync of a frame. -/
def execSyncFound (s : State) : Result :=
  taken .syncFound s fun s =>
    match s.lnk.receive with
    | .hunting => s.setLnk { s.lnk with receive := .inFrame }
    | .inFrame => s

/-- A frame in progress is abandoned (R183). -/
def State.abandonFrame (s : State) : State :=
  match s.lnk.receive with
  | .hunting => s
  | .inFrame => (s.countLink .framingErrors).hunt

/-- FRAME_ABANDONED_FOR_LENGTH (R183): a length from 241 to 255 cannot begin a frame. -/
def execFrameAbandonedForLength (length : Byte) (s : State) : Result :=
  taken (.frameAbandonedForLength length) s fun s => if 241 ≤ length.toNat then s.abandonFrame else s

/-- FRAME_GAP_TIMEOUT (R183). -/
def execFrameGapTimeout (s : State) : Result := taken .frameGapTimeout s State.abandonFrame

/-- A request frame offered to the input queue (R185). -/
def State.offer (s : State) (f : RequestFrame) : State :=
  if s.lnk.queue.length < Config.inputCapacity then s.setLnk { s.lnk with queue := s.lnk.queue ++ [f] }
  else
    let s1 := s.countLink .overrunDrops
    s1.setLnk { s1.lnk with drops := min (s.lnk.drops + 1) 255 }

/-- A complete frame (R183): its check, its class, and the input queue. -/
def State.takeFrame (s : State) (f : FrameParts) : State :=
  if !f.checkPasses then s.countLink .badCheck
  else if f.cls ≠ classRequest then s.countLink .badClass
  else s.offer ⟨f.tag, f.message, f.payload⟩

/-- REQUEST_FRAME (R183, R185): the frame whose sync has been found is complete. -/
def execRequestFrame (bytes : List Byte) (s : State) : Result :=
  taken (.requestFrame bytes) s fun s =>
    match s.lnk.receive, frameParts bytes with
    | .inFrame, some f => (s.takeFrame f).hunt
    | _, _ => s

/-! ## Requests (R186) -/

/-- A request goes to its owner, or is refused by the LNK (R186). -/
def State.handRequest (s : State) (f : RequestFrame) : State :=
  match parseRequest f.message f.payload with
  | .unknownMessage => s.refuse .unknownMessage
  | .badLength => s.refuse .badLength
  | .request c => s.send c

/-- A request is in hand: it is counted and the ACU moves the idle deadline (R122, R186, R192). -/
def State.takeInHand (s : State) (f : RequestFrame) (rest : List RequestFrame) : State :=
  let s1 := s.setLnk { s.lnk with queue := rest, inHand := some ⟨f.tag, f.message⟩ }
  (s1.countLink .requestsTaken).setAcu { s1.acu with idleDeadline := s.now + Config.idleWait }

/-- REQUEST_TAKEN (R186): the oldest request, when none is in hand. -/
def execRequestTaken (s : State) : Result :=
  taken .requestTaken s fun s =>
    match s.lnk.inHand, s.lnk.queue with
    | none, f :: rest => (s.takeInHand f rest).handRequest f
    | _, _ => s

/-! ## Notices and identity (R191, R192) -/

/-- The body of a FETCH_NOTICES reply (R191, R197). -/
def noticesBody (taken : List PostedNotice) (remaining : Nat) : List Byte :=
  byte taken.length ++ byte remaining ++ taken.flatMap noticeBytes

/-- The oldest notices leave the queue and ATTN follows (R190, R191). -/
def State.fetch (s : State) (n : Nat) : State :=
  let rest := s.lnk.notices.drop n
  (s.setLnk { s.lnk with notices := rest, attn := !rest.isEmpty }).replyOk
    (noticesBody (s.lnk.notices.take n) rest.length)

/-- FETCH_NOTICES (R191). -/
def execFetchNotices (largest : Nat) (s : State) : Result :=
  taken (.fetchNotices largest) s fun s =>
    s.require (1 ≤ largest && largest ≤ 8) .badValue fun s => s.fetch largest

/-- The identity and the capacities of the part (R192). -/
def identityBytes : List Byte :=
  be 2 0x4E31 ++ be 2 0x0032 ++ be 2 3206 ++ byte 1 ++ byte 1
    ++ [128, 8, 6, 8, 64, 32, 32, 4].flatMap byte

/-- IDENTITY (R192). -/
def execIdentity (s : State) : Result :=
  taken .identity s fun s =>
    s.replyOk (identityBytes ++ be 8 s.now ++ s.lnk.counters.toList.flatMap (be 4))

end Sys2Proof.Machine
end

