-- ==== Sys2Proof/Machine/Startup.lean ====
section
/-!
DEFINITION. Startup.lean: resets and start-up (11.5, 11.6): the reset values of every block, the load, PIN_RESET, RESET_RELEASE,
START_UP_COMPLETE, SOFT_RESET and the end of a reply.
-/

namespace Sys2Proof.Machine

open Sys2Proof

/-! ## Reset values -/

/-- The image loaded at a reset: that of the bank to load, or the defaults (R201). -/
def imageLoaded (x : Sst) : Image :=
  match bankToLoad x with
  | some (_, image) => image
  | none => ⟨Settings.defaults, [], Vector.replicate 15 {}⟩

/-- The axes after a reset: RETIRED where the loaded account is in ALARM (R48). -/
def resetAxes (accounts : Vector AccountRecord 15) : Vector Axis 8 :=
  Vector.ofFn fun k =>
    { retire := if accounts[accountIx (.axis k)].state = .alarm then .retired else .inService }

/-- The store after a load (R201, R203): the banks are kept. -/
def Sst.reload (x : Sst) : Sst :=
  let loaded := bankToLoad x
  { bankA := x.bankA, bankB := x.bankB, inUse := loaded.map fun b => b.1, dirty := loaded.isNone, saving := none
    changed := false, writing := none, loadFailed := loaded.isNone }

/-- The hall clock after a pin reset (R172). -/
def clockAfterPin : Tmu := {}

/-- The hall clock after a SOFT_RESET: it keeps its value and its frequency term, FREE unless it was UNSET (R172). -/
def clockAfterSoft (x : Tmu) : Tmu :=
  { clock := if x.clock = .unset then .unset else .free, hallParts := x.hallParts, frequency := x.frequency }

/-- Every block takes its reset values and its stored configuration (R25, R48, R71, R94, R120, R143, R155, R172, R182, R193,
R201). The inputs, the memory and what the outside will do are kept. -/
def State.reboot (s : State) (clock : Tmu) (phase : Phase) : State :=
  let image := imageLoaded s.sst
  let accounts := settledAccounts image.accounts
  let cfg := forceSources image.settings
  { phase := phase
    pending := s.pending
    inputs := s.inputs
    feed := s.feed
    draws := s.draws
    cfg := cfg
    ltr := {}
    fmu := { axes := resetAxes accounts }
    ctu := { activeSet := cfg.recipes[(0 : Fin 16)].cameras }
    sws := { table := tableOf image.pinned }
    acu := {}
    tmu := { clock with accounts := accounts }
    pml := {}
    sst := s.sst.reload
    lnk := {} }

/-- Start-up begins: the load, and FORGET_ALL on STX (R118, R203). -/
def State.beginStartUp (s : State) (clock : Tmu) : State := (s.reboot clock .starting).sendSwitch .forgetAll

/-! ## Resets -/

/-- PIN_RESET (R203): RESET_N goes low and holds the part. -/
def execPinReset (s : State) : Result := .next (s.reboot clockAfterPin .held)

/-- RESET_RELEASE (R203): RESET_N rises and start-up begins. -/
def execResetRelease (s : State) : Result :=
  if s.phase = .held then .next (s.beginStartUp clockAfterPin) else .next s

/-- A SOFT_RESET takes effect (R202). -/
def State.softResetNow (s : State) : State := s.beginStartUp (clockAfterSoft s.tmu)

/-- SOFT_RESET (R202): the reset follows the last byte of its reply; where no request is in hand there is no reply to send
and it follows at once (log 8). -/
def execSoftReset (s : State) : Result :=
  taken .softReset s fun s =>
    s.withLevel 2 fun s =>
      s.require s.sst.saving.isNone .busy fun s =>
        if s.lnk.inHand.isSome then
          let s1 := s.replyOk []
          s1.setLnk { s1.lnk with softReset := true }
        else s.softResetNow

/-- REPLY_SENT (R186, R192, R202): the last byte of the reply is sent and no request is in hand. -/
def execReplySent (s : State) : Result :=
  taken .replySent s fun s =>
    match s.lnk.reply with
    | none => s
    | some _ =>
      if s.lnk.softReset then s.softResetNow
      else
        let s1 := s.countLink .repliesSent
        s1.setLnk { s1.lnk with inHand := none, reply := none }

/-! ## The completion of start-up (R203) -/

/-- The deadlines that begin at the completion of start-up (R67, R110, R143, R172). -/
def State.startDeadlines (s : State) : State :=
  let s1 := s.setFmu { s.fmu with temperatureDeadline := s.now + Config.temperatureWait }
  let s2 := s1.setAcu { s1.acu with idleDeadline := s.now + Config.idleWait }
  let s3 := s2.setTmu { s2.tmu with saveDeadline := s.now + Config.accountSaveInterval }
  s3.setSws { s3.sws with forgetAllAt := some s.now, reported := 0 }

/-- A condition present at the completion is raised (R182). -/
def State.raiseIf (s : State) (present : Bool) (src : FaultSource) : State :=
  if present then s.activateSource src else s

/-- STORE_FAILED is latched after a failed load (R182, R203). -/
def State.latchFailedLoad (s : State) : State := if s.sst.loadFailed then s.latchSource .storeFailed else s

/-- The PML at the completion: RESTARTED, STORE_FAILED after a failed load, then the conditions present (R182, R203), in the
order R182 names them (log 37). -/
def State.raiseAtStart (s : State) : State :=
  ((((s.latchSource .restarted).latchFailedLoad).raiseIf (someOffline s.ctu) .cameraOffline).raiseIf
    (camerasOverdue s.tmu) .cameraOverdue).raiseIf (gateOverdue s.tmu) .gateOverdue

/-- START_UP_COMPLETE (R203). -/
def execStartUpComplete (encA encB : Bool) (s : State) : Result :=
  if s.phase = .starting then
    .next (((s.setPhase .running).setLtr { s.ltr with refA := encA, refB := encB }).startDeadlines.raiseAtStart)
  else .next s

end Sys2Proof.Machine
end

