-- ==== Sys2Proof/Machine/Idle.lean ====
section
/-!
DEFINITION. Idle.lean: what the part does when nothing waits (log 2): the event that is due, and the microsecond that passes when
none is.
-/

namespace Sys2Proof.Machine

open Sys2Proof

/-! ## The event that is due -/

/-- A command when its event is due. -/
def dueIf (due : Bool) (c : Instr) : List Instr := if due then [c] else []

/-- A deadline that may be absent has come. -/
def reached (deadline : Option RunTime) (now : RunTime) : Bool := deadline.any fun t => t ≤ now

/-- A pulse is due: the pulse period has run (R29; log 7). -/
def Axis.pulseDue (a : Axis) : Bool := a.inMotion && 1000000000 ≤ a.pulsePart

/-- The events of one axis that are due: its inputs, the end of a move, a pulse, the dwell and a valve test (R29, R30, R34,
R35, R46, R59). -/
def axisDue (s : State) (k : AxisNo) : List Instr :=
  let a := s.axis k
  let ended := a.inMotion && a.remaining == some 0
  dueIf (a.inMotion && s.limitActive k) (.limitActive k)
    ++ dueIf (a.motion == .homing && s.homeActive k) (.homeFound k)
    ++ dueIf (ended && a.motion == .homing) (.homingTravelExhausted k)
    ++ dueIf (ended && a.motion != .homing) (.moveComplete k)
    ++ dueIf (!ended && a.pulseDue) (.stepPulse k)
    ++ dueIf (reached a.dwellEnd s.now) (.dwellExpiry k)
    ++ dueIf (reached a.valveTestEnd s.now) (.valveTestExpiry k)

/-- The event of one camera that is due (R72). -/
def cameraDue (s : State) (k : CameraNo) : List Instr :=
  dueIf (reached (s.camera k).trigEnd s.now) (.triggerPulseEnd k)

/-- The expiry of one grant slot that is due (R133). -/
def grantDue (s : State) (slot : Fin 4) : List Instr :=
  dueIf ((s.grant slot).any fun g => g.state == .opened && g.expiresAt ≤ s.now) (.grantExpiry slot)

/-- The expiry of one source's extension that is due (R176). -/
def sourceDue (s : State) (n : Fin 16) : List Instr := dueIf (extensionDue s n) (.extensionExpiry (sourceOfNo n))

/-- The expiry of the oldest forget, when it is due (R115). -/
def forgetDue (s : State) : List Instr :=
  match s.sws.forgets with
  | f :: _ => dueIf (forgetEnd f ≤ s.now) (.forgetExpiry f.address)
  | [] => []

/-- A request waits and none is in hand (R186). -/
def requestDue (s : State) : Bool := s.lnk.inHand.isNone && !s.lnk.queue.isEmpty

/-- The events that are due, in the order in which the model takes them (log 2). -/
def dueCommands (s : State) : List Instr :=
  axisNos.flatMap (axisDue s) ++ dueIf (reached s.ltr.gateEnd s.now) .gatePulseExpiry ++ cameraNos.flatMap (cameraDue s)
    ++ dueIf (!s.fmu.tempStale && s.fmu.temperatureDeadline ≤ s.now) .tempDeadlineExpiry ++ forgetDue s
    ++ dueIf (firstSettingDue s) .firstSetting ++ dueIf (reached s.acu.lockoutEnd s.now) .lockoutExpiry
    ++ dueIf (0 < s.acu.level && s.acu.idleDeadline ≤ s.now) .idleDeadlineExpiry ++ fourNos.flatMap (grantDue s)
    ++ dueIf (reached s.tmu.phaseEnd s.now) .phaseTermExpiry
    ++ dueIf (s.tmu.clock == .locked && reached s.tmu.holdoverDeadline s.now) .holdoverExpiry
    ++ dueIf (s.tmu.saveDeadline ≤ s.now) .accountSaveExpiry ++ sixteenNos.flatMap (sourceDue s)
    ++ dueIf (!s.sws.queries.isEmpty) .answer ++ dueIf (requestDue s) .requestTaken

/-- The event that the model takes next, when one is due. -/
def dueCommand (s : State) : Option Instr := (dueCommands s).head?

/-! ## A microsecond passes -/

/-- The ramps of the eight axes (R29). -/
def State.rampAxes (s : State) : State := s.setFmu { s.fmu with axes := s.fmu.axes.map Axis.ramped }

/-- The levels the outside holds next (log 3). -/
def State.takeFeed (s : State) : State :=
  match s.feed with
  | [] => s
  | levels :: rest => (s.setInputs levels).setFeed rest

/-- One microsecond (R29, R156, R157): run time and hall time go on and the axes ramp, unless RESET_N holds the part, and the
inputs take the levels that the outside holds next. -/
def tick (s : State) : State :=
  if s.phase = .held then s.takeFeed else (s.advanceTime.rampAxes).takeFeed

/-- The report or event that an idle part takes before time passes (log 1, log 2): the oldest report in flight, else an event
that is due. None is taken before start-up completes (R203). -/
def idleCommand (s : State) : Option Instr :=
  if s.phase = .running then
    match s.reports with
    | r :: _ => some r
    | [] => dueCommand s
  else none

end Sys2Proof.Machine
end

