-- ==== Sys2Proof/Machine/Dispatch.lean ====
section
/-! DEFINITION. Dispatch.lean: one arm for each command, a direct call of its meaning. -/

namespace Sys2Proof.Machine

open Sys2Proof

/-- The effect of a command on everything but the queue. -/
def exec (i : Instr) (s : State) : Host.Outcome State Fault Refusal :=
  match i with
  | .pinReset => Sys2Proof.Machine.execPinReset s
  | .resetRelease => Sys2Proof.Machine.execResetRelease s
  | .startUpComplete encA encB => Sys2Proof.Machine.execStartUpComplete encA encB s
  | .stepEvent input => Sys2Proof.Machine.execStepEvent input s
  | .encoderError => Sys2Proof.Machine.execEncoderError s
  | .gatePulseExpiry => Sys2Proof.Machine.execGatePulseExpiry s
  | .fillReport serial item => Sys2Proof.Machine.execFillReport serial item s
  | .verdictReport serial camera verdict => Sys2Proof.Machine.execVerdictReport serial camera verdict s
  | .watchReport serial watch sample => Sys2Proof.Machine.execWatchReport serial watch sample s
  | .lineGeometry gateOffset stepsPerPitch pulseMs direction => Sys2Proof.Machine.execLineGeometry gateOffset stepsPerPitch pulseMs direction s
  | .lineClear => Sys2Proof.Machine.execLineClear s
  | .lineStatus => Sys2Proof.Machine.execLineStatus s
  | .trackRead serial => Sys2Proof.Machine.execTrackRead serial s
  | .rejectLogRead start => Sys2Proof.Machine.execRejectLogRead start s
  | .assignmentArbiter serial recipe infeedPitch => Sys2Proof.Machine.execAssignmentArbiter serial recipe infeedPitch s
  | .fmuPitchEvent pitch records => Sys2Proof.Machine.execFmuPitchEvent pitch records s
  | .fillWindowExpiry axis pitch => Sys2Proof.Machine.execFillWindowExpiry axis pitch s
  | .dwellExpiry axis => Sys2Proof.Machine.execDwellExpiry axis s
  | .stepPulse axis => Sys2Proof.Machine.execStepPulse axis s
  | .moveComplete axis => Sys2Proof.Machine.execMoveComplete axis s
  | .homingTravelExhausted axis => Sys2Proof.Machine.execHomingTravelExhausted axis s
  | .homeFound axis => Sys2Proof.Machine.execHomeFound axis s
  | .limitActive axis => Sys2Proof.Machine.execLimitActive axis s
  | .driveBindingChange axis binding => Sys2Proof.Machine.execDriveBindingChange axis binding s
  | .valveTestExpiry axis => Sys2Proof.Machine.execValveTestExpiry axis s
  | .axisHome axes => Sys2Proof.Machine.execAxisHome axes s
  | .clearHalt axes => Sys2Proof.Machine.execClearHalt axes s
  | .axisStop axes mode notify => Sys2Proof.Machine.execAxisStop axes mode notify s
  | .axisStatus axes => Sys2Proof.Machine.execAxisStatus axes s
  | .axisConfig axis startOffset startSpeed topSpeed acceleration homingLimit => Sys2Proof.Machine.execAxisConfig axis startOffset startSpeed topSpeed acceleration homingLimit s
  | .axisDuty axes grant duty => Sys2Proof.Machine.execAxisDuty axes grant duty s
  | .axisMove axes grant targets => Sys2Proof.Machine.execAxisMove axes grant targets s
  | .axisJog axes grant direction => Sys2Proof.Machine.execAxisJog axes grant direction s
  | .valveTest axes grant durationMs => Sys2Proof.Machine.execValveTest axes grant durationMs s
  | .fmuDeparture serial => Sys2Proof.Machine.execFmuDeparture serial s
  | .fmuLineClear => Sys2Proof.Machine.execFmuLineClear s
  | .holdListAdd axis watch phase => Sys2Proof.Machine.execHoldListAdd axis watch phase s
  | .holdListRemove axis watch => Sys2Proof.Machine.execHoldListRemove axis watch s
  | .holdRelease axis watch => Sys2Proof.Machine.execHoldRelease axis watch s
  | .accountAlarmEntry axis => Sys2Proof.Machine.execAccountAlarmEntry axis s
  | .accountAlarmExit axis => Sys2Proof.Machine.execAccountAlarmExit axis s
  | .fmuGrantClosingStart grant axes => Sys2Proof.Machine.execFmuGrantClosingStart grant axes s
  | .fmuGrantCompletion axes => Sys2Proof.Machine.execFmuGrantCompletion axes s
  | .recipeWrite number values => Sys2Proof.Machine.execRecipeWrite number values s
  | .recipeSelect number => Sys2Proof.Machine.execRecipeSelect number s
  | .recipeRead number => Sys2Proof.Machine.execRecipeRead number s
  | .trimWrite first trims => Sys2Proof.Machine.execTrimWrite first trims s
  | .trimMode mode index => Sys2Proof.Machine.execTrimMode mode index s
  | .trimRead => Sys2Proof.Machine.execTrimRead s
  | .productTemp temperature => Sys2Proof.Machine.execProductTemp temperature s
  | .tempDeadlineExpiry => Sys2Proof.Machine.execTempDeadlineExpiry s
  | .fillStatus => Sys2Proof.Machine.execFillStatus s
  | .ctuPitchEvent pitch records => Sys2Proof.Machine.execCtuPitchEvent pitch records s
  | .verdictWindowExpiry camera pitch => Sys2Proof.Machine.execVerdictWindowExpiry camera pitch s
  | .lineTrigger count => Sys2Proof.Machine.execLineTrigger count s
  | .triggerPulseEnd camera => Sys2Proof.Machine.execTriggerPulseEnd camera s
  | .verdictArrival camera ng tag => Sys2Proof.Machine.execVerdictArrival camera ng tag s
  | .cameraBindingChange camera binding => Sys2Proof.Machine.execCameraBindingChange camera binding s
  | .ctuDeparture serial => Sys2Proof.Machine.execCtuDeparture serial s
  | .ctuLineClear => Sys2Proof.Machine.execCtuLineClear s
  | .activeCameraSetReport cameras => Sys2Proof.Machine.execActiveCameraSetReport cameras s
  | .ctuGrantClosingStart grant => Sys2Proof.Machine.execCtuGrantClosingStart grant s
  | .cameraConfig camera pitchOffset stepOffset window => Sys2Proof.Machine.execCameraConfig camera pitchOffset stepOffset window s
  | .cameraRearm cameras => Sys2Proof.Machine.execCameraRearm cameras s
  | .cameraTest cameras grant switch => Sys2Proof.Machine.execCameraTest cameras grant switch s
  | .testTrigger cameras grant => Sys2Proof.Machine.execTestTrigger cameras grant s
  | .cameraStatus cameras => Sys2Proof.Machine.execCameraStatus cameras s
  | .switchBadFrame frame => Sys2Proof.Machine.execSwitchBadFrame frame s
  | .query address port tag => Sys2Proof.Machine.execQuery address port tag s
  | .answer => Sys2Proof.Machine.execAnswer s
  | .linkReport port link => Sys2Proof.Machine.execLinkReport port link s
  | .errorReport port count => Sys2Proof.Machine.execErrorReport port count s
  | .forgetDone address => Sys2Proof.Machine.execForgetDone address s
  | .forgetExpiry address => Sys2Proof.Machine.execForgetExpiry address s
  | .firstSetting => Sys2Proof.Machine.execFirstSetting s
  | .portConfig port policy warn alarm => Sys2Proof.Machine.execPortConfig port policy warn alarm s
  | .stationPin address port role unitNo => Sys2Proof.Machine.execStationPin address port role unitNo s
  | .stationUnpin address => Sys2Proof.Machine.execStationUnpin address s
  | .stationQuarantine address => Sys2Proof.Machine.execStationQuarantine address s
  | .stationRelease address => Sys2Proof.Machine.execStationRelease address s
  | .stationLookup address => Sys2Proof.Machine.execStationLookup address s
  | .stationRead set => Sys2Proof.Machine.execStationRead set s
  | .stationFlush scope => Sys2Proof.Machine.execStationFlush scope s
  | .portUnblock port => Sys2Proof.Machine.execPortUnblock port s
  | .switchStatus => Sys2Proof.Machine.execSwitchStatus s
  | .forgetRead start => Sys2Proof.Machine.execForgetRead start s
  | .swsGrantOpened grant ports => Sys2Proof.Machine.execSwsGrantOpened grant ports s
  | .swsGrantClosingStart grant => Sys2Proof.Machine.execSwsGrantClosingStart grant s
  | .swsGrantClosed grant => Sys2Proof.Machine.execSwsGrantClosed grant s
  | .unlock level passcode => Sys2Proof.Machine.execUnlock level passcode s
  | .lockoutExpiry => Sys2Proof.Machine.execLockoutExpiry s
  | .lock => Sys2Proof.Machine.execLock s
  | .idleDeadlineExpiry => Sys2Proof.Machine.execIdleDeadlineExpiry s
  | .passcodeSet level passcode => Sys2Proof.Machine.execPasscodeSet level passcode s
  | .grantOpen level axes cameras ports gate minutes => Sys2Proof.Machine.execGrantOpen level axes cameras ports gate minutes s
  | .grantExtend grant minutes => Sys2Proof.Machine.execGrantExtend grant minutes s
  | .grantExpiry slot => Sys2Proof.Machine.execGrantExpiry slot s
  | .grantClose grant => Sys2Proof.Machine.execGrantClose grant s
  | .closingReport report => Sys2Proof.Machine.execClosingReport report s
  | .accountReset grant account => Sys2Proof.Machine.execAccountReset grant account s
  | .accessStatus => Sys2Proof.Machine.execAccessStatus s
  | .grantRead => Sys2Proof.Machine.execGrantRead s
  | .watchSet watch operands action scope grant enable => Sys2Proof.Machine.execWatchSet watch operands action scope grant enable s
  | .watchClear watch scope grant => Sys2Proof.Machine.execWatchClear watch scope grant s
  | .acuReport report => Sys2Proof.Machine.execAcuReport report s
  | .axisResume axes => Sys2Proof.Machine.execAxisResume axes s
  | .watchAck watch => Sys2Proof.Machine.execWatchAck watch s
  | .watchRead => Sys2Proof.Machine.execWatchRead s
  | .timeSet hall => Sys2Proof.Machine.execTimeSet hall s
  | .timeMark hall => Sys2Proof.Machine.execTimeMark hall s
  | .phaseTermExpiry => Sys2Proof.Machine.execPhaseTermExpiry s
  | .holdoverExpiry => Sys2Proof.Machine.execHoldoverExpiry s
  | .clockStatus => Sys2Proof.Machine.execClockStatus s
  | .accountCount account => Sys2Proof.Machine.execAccountCount account s
  | .accountConfig account warn alarm => Sys2Proof.Machine.execAccountConfig account warn alarm s
  | .accountRead => Sys2Proof.Machine.execAccountRead s
  | .accountSaveExpiry => Sys2Proof.Machine.execAccountSaveExpiry s
  | .accountSaveComplete whole => Sys2Proof.Machine.execAccountSaveComplete whole s
  | .sourceActivation source => Sys2Proof.Machine.execSourceActivation source s
  | .sourceDeactivation source => Sys2Proof.Machine.execSourceDeactivation source s
  | .eventSourceLatch source => Sys2Proof.Machine.execEventSourceLatch source s
  | .extensionExpiry source => Sys2Proof.Machine.execExtensionExpiry source s
  | .faultAck sources => Sys2Proof.Machine.execFaultAck sources s
  | .permitConfig source enable mode extension => Sys2Proof.Machine.execPermitConfig source enable mode extension s
  | .permitStatus => Sys2Proof.Machine.execPermitStatus s
  | .requestFrame bytes => Sys2Proof.Machine.execRequestFrame bytes s
  | .frameGapTimeout => Sys2Proof.Machine.execFrameGapTimeout s
  | .requestTaken => Sys2Proof.Machine.execRequestTaken s
  | .replySent => Sys2Proof.Machine.execReplySent s
  | .fetchNotices largest => Sys2Proof.Machine.execFetchNotices largest s
  | .identity => Sys2Proof.Machine.execIdentity s
  | .save => Sys2Proof.Machine.execSave s
  | .saveComplete whole => Sys2Proof.Machine.execSaveComplete whole s
  | .softReset => Sys2Proof.Machine.execSoftReset s
  | .syncFound => Sys2Proof.Machine.execSyncFound s
  | .frameAbandonedForLength length => Sys2Proof.Machine.execFrameAbandonedForLength length s

end Sys2Proof.Machine
end

