-- ==== Sys2Proof/Safety.lean ====
section
/-!
DEFINITION. Safety.lean: what the manual promises of the part in every state: the output levels before start-up completes, PERMIT
against the fault sources, ATTN against the notice queue, VALVE against the motion state, the sizes of its queues; and what a
frame says of two states.
-/

namespace Sys2Proof.Safety

open Sys2Proof Sys2Proof.Machine

/-- The output levels of R203: PERMIT, GATE, ATTN, VALVE, STEP, DIR, TRIG and the tag lines low, CTX and STX idle, high. -/
def outputsAtReset (s : State) : Prop := ∀ o, s.level o = some (resetLevel o)

/-- The outputs hold the levels of R203 until start-up completes. -/
def quietUntilComplete (s : State) : Prop := s.phase ≠ .running → outputsAtReset s

/-- PERMIT is high exactly while no source is in effect, once start-up is complete (R177). -/
def permitFollowsSources (s : State) : Prop :=
  s.phase = .running → (s.pml.permit = true ↔ ∀ n : Fin 16, (s.source n).inEffect = false)

/-- ATTN is high exactly while the notice queue holds a notice, once start-up is complete (R190). -/
def attnFollowsQueue (s : State) : Prop :=
  s.phase = .running → (s.lnk.attn = true ↔ s.lnk.notices ≠ [])

/-- VALVE is high only in FILLING and while a valve test runs (R26). -/
def valveFollowsMotion (s : State) : Prop :=
  ∀ k : AxisNo, (s.axis k).valve = true → (s.axis k).motion = .filling ∨ (s.axis k).valveTestEnd.isSome = true

/-- The forced sources hold enable yes, latch mode LATCH and extension 0 (R177, R180). -/
def forcedSourcesForced (s : State) : Prop :=
  ∀ n : Fin 16, isForced (sourceOfNo n) = true → s.sourceSettings n = SourceSettings.forced

/-- The lists of the part stay within their sizes (R5, R15, R96, R185, R189). -/
def listsFit (s : State) : Prop :=
  s.ltr.track.length ≤ 128 ∧ s.ltr.log.length ≤ 16 ∧ s.sws.queries.length ≤ 8 ∧ s.lnk.queue.length ≤ 4
    ∧ s.lnk.notices.length ≤ 32

/-! ## Frames -/

/-- The parts of the state that a frame names. The part notices is what a posting changes in the LNK: the queue, ATTN and two
counters; the part lnk is the rest of it. -/
inductive Part where
  | phase | pending | reports | inputs | feed | draws | cfg | ltr | fmu | ctu | sws | acu | tmu | pml | sst | lnk | notices
deriving DecidableEq, Repr

/-- The LNK with what a posting changes overwritten, so that it tells no two states apart. -/
def sansNotices (l : Lnk) : Lnk := { l with notices := [], attn := false, counters := (l.counters.set 6 0).set 7 0 }

/-- A part is the same in two states. -/
def same (s t : State) : Part → Prop
  | .phase => t.phase = s.phase
  | .pending => t.pending = s.pending
  | .reports => t.reports = s.reports
  | .inputs => t.inputs = s.inputs
  | .feed => t.feed = s.feed
  | .draws => t.draws = s.draws
  | .cfg => t.cfg = s.cfg
  | .ltr => t.ltr = s.ltr
  | .fmu => t.fmu = s.fmu
  | .ctu => t.ctu = s.ctu
  | .sws => t.sws = s.sws
  | .acu => t.acu = s.acu
  | .tmu => t.tmu = s.tmu
  | .pml => t.pml = s.pml
  | .sst => t.sst = s.sst
  | .lnk => sansNotices t.lnk = sansNotices s.lnk
  | .notices => t.lnk.notices = s.lnk.notices ∧ t.lnk.attn = s.lnk.attn ∧ t.lnk.counters[6] = s.lnk.counters[6]
    ∧ t.lnk.counters[7] = s.lnk.counters[7]

/-- Nothing but the parts named differs between two states. -/
def onlyChanged (parts : List Part) (s t : State) : Prop := ∀ p, p ∉ parts → same s t p

end Sys2Proof.Safety
end

