-- ==== Sys2Proof/Certificates/Slice0/Obligations.lean ====
section
/-!
DEFINITION. Obligations.lean: the statements for the provers. A command that a running part takes leaves the reports in flight (log
1), so a next state is written from s.received c; State.replyOk, State.replyAccepted and State.refuse stand for the owner's
outcome, of which OutcomesMakeTheReply says what they write. An equation of a next state with a state of which some fields are
given anew is the frame too: everything else is as before.
-/

open Sys2Proof Sys2Proof.Machine Sys2Proof.Safety

/-- Start-up is complete. -/
def Sys2Proof.Claims.running (s : State) : Prop := s.phase = .running

/-- What a block tells the PML of a condition: a change, and nothing else (R174). -/
def Sys2Proof.Claims.change (src : FaultSource) (before after : Bool) : List Instr :=
  match before, after with
  | false, true => [.sourceActivation src]
  | true, false => [.sourceDeactivation src]
  | _, _ => []

/-- The state with reports sent. -/
def Sys2Proof.Claims.sending (s : State) (cs : List Instr) : State := { s with reports := s.reports ++ cs }

/-- The state with the LTR's state given. -/
def Sys2Proof.Claims.withLtr (s : State) (l : Ltr) : State := { s with ltr := l }

/-- The state with the record of one axis given. -/
def Sys2Proof.Claims.withAxis (s : State) (k : AxisNo) (a : Axis) : State := { s with fmu := { s.fmu with axes := s.fmu.axes.set k a } }

/-- The state with the channel record of one camera given. -/
def Sys2Proof.Claims.withCamera (s : State) (k : CameraNo) (c : Camera) : State :=
  { s with ctu := { s.ctu with cameras := s.ctu.cameras.set k c } }

/-- The state with a new working copy: the dirty flag is set, and during a SAVE the change is marked (R198). -/
def Sys2Proof.Claims.withSettings (s : State) (c : Settings) : State :=
  { s with cfg := c, sst := { s.sst with dirty := true, changed := s.sst.changed || s.sst.saving == some .save } }

open Sys2Proof.Claims

/-! ## The bottle track (chapter 1) -/

/-- A step is forward by the levels of ENC_A and ENC_B after it (R1). -/
def Sys2Proof.Claims.forwardSense (d : CountDirection) (input : EncoderInput) (a b : Bool) : Bool :=
  match d, input with
  | .aLeads, .a => a != b
  | .aLeads, .b => a == b
  | .bLeads, .a => a == b
  | .bLeads, .b => a != b

/-- The LTR after the change of one encoder input. -/
def Sys2Proof.Claims.afterChange (l : Ltr) : EncoderInput → Ltr
  | .a => { l with refA := !l.refA }
  | .b => { l with refB := !l.refB }

/-- A change of one encoder input is taken as a step, forward with A_LEADS when ENC_A comes to differ from ENC_B or ENC_B to
equal ENC_A, and with B_LEADS the other way round; the sense of a change that makes the two equal is the model's (log 16). A change
of both takes the new levels as the reference, adds one to the
encoder errors counter, and changes nothing else. Before start-up completes neither is taken, and the levels present at the
completion are the first reference. -/
def Obligations.EncoderChangesAreStepsOrErrors : Prop :=
  (∀ (input : EncoderInput) (s : State), running s →
    let c := Instr.stepEvent input
    let l := afterChange s.ltr input
    exec c s = .next (
      if forwardSense s.cfg.geometry.direction input l.refA l.refB then forwardStep (withLtr (s.received c) l)
      else backwardStep (withLtr (s.received c) l)))
  ∧ (∀ s : State, running s → s.ltr.counters[10] < 18446744073709551615 →
    exec .encoderError s = .next (withLtr (s.received .encoderError) { s.ltr with
      refA := !s.ltr.refA, refB := !s.ltr.refB, counters := s.ltr.counters.set 10 (s.ltr.counters[10] + 1) }))
  ∧ (∀ s : State, ¬ running s → exec .encoderError s = .next s ∧ ∀ input, exec (.stepEvent input) s = .next s)
  ∧ ∀ (a b : Bool) (s : State), s.phase = .starting →
    ∃ t, exec (.startUpComplete a b) s = .next t ∧ t.ltr = { s.ltr with refA := a, refB := b }

/-- The LTR with a new reverse debt, and TRACK_REVERSE active exactly while the debt is N or more (R2). -/
def Sys2Proof.Claims.withDebt (s : State) (debt : Nat) : State :=
  let active := decide (s.cfg.geometry.stepsPerPitch ≤ debt)
  sending (withLtr s { s.ltr with debt := debt, trackReverse := active }) (change .trackReverse s.ltr.trackReverse active)

/-- A forward step with no debt adds one to the step-in-pitch count and hands the new count to the CTU; at N the count is 0 and the
step is a pitch event. A forward step with a debt repays one, a backward step adds one, up to 65,535, and neither touches the
count; TRACK_REVERSE is active exactly while the debt is N or more, and its change is told to the PML. -/
def Sys2Proof.Claims.StepsMoveTheCountOrTheDebt : Prop :=
  ∀ s : State,
    (s.ltr.debt = 0 → s.ltr.step + 1 < s.cfg.geometry.stepsPerPitch →
      forwardStep s = sending (withLtr s { s.ltr with step := s.ltr.step + 1 }) [.lineTrigger (s.ltr.step + 1)])
    ∧ (s.ltr.debt = 0 → s.cfg.geometry.stepsPerPitch ≤ s.ltr.step + 1 →
      forwardStep s = pitchEvent (sending (withLtr s { s.ltr with step := 0 }) [.lineTrigger 0]))
    ∧ (0 < s.ltr.debt → forwardStep s = withDebt s (s.ltr.debt - 1))
    ∧ backwardStep s = withDebt s (min (s.ltr.debt + 1) 65535)

/-- A pitch event adds one to the pitch count, wrapping, runs verify, gate and infeed in that order, and then announces to the FMU
and the CTU the new count with the serial, position and recipe of every record as they stand after the infeed step. The count's
return to 0 and the announcement of a new record are handed over before it. -/
def Sys2Proof.Claims.PitchEventRunsVerifyGateInfeed : Prop :=
  ∀ s : State,
    let t := infeedStep (gateStep (verifyStep (withLtr s { s.ltr with pitch := s.ltr.pitch + 1 })))
    let records := t.ltr.track.map fun b => Announced.mk b.serial (t.ltr.pitch - b.infeedPitch).toNat b.recipe
    pitchEvent s = sending t [.fmuPitchEvent t.ltr.pitch records, .ctuPitchEvent t.ltr.pitch records]
      ∧ t.ltr.pitch = s.ltr.pitch + 1 ∧ s.reports <+: t.reports

/-- Steps move the count or the debt, and a pitch event runs verify, gate, infeed and the announcements: all of
StepsMoveTheCountOrTheDebt and PitchEventRunsVerifyGateInfeed. -/
def Obligations.StepsLeadToPitchEvents : Prop :=
  StepsMoveTheCountOrTheDebt ∧ PitchEventRunsVerifyGateInfeed

/-- The verify step samples GATE_VFY only with a reject in the slot. Active, it sets the failed mark of the newest log entry, adds
one to the rejects failed counter and latches REJECT_FAILED; inactive, or with the slot empty, nothing is recorded. -/
def Sys2Proof.Claims.VerifyMarksAFailedReject : Prop :=
  ∀ s : State,
    ((s.ltr.verify = none ∨ s.inputs.gateVfy = false) → verifyStep s = s)
    ∧ ∀ v older e, s.ltr.verify = some v → s.inputs.gateVfy = true → s.ltr.log = older ++ [e] →
      s.ltr.counters[9] < 18446744073709551615 →
      verifyStep s = sending (withLtr s { s.ltr with
        log := older ++ [{ e with failed := true }], counters := s.ltr.counters.set 9 (s.ltr.counters[9] + 1) })
        [.eventSourceLatch .rejectFailed]

/-- The record at the gate: the oldest, at position L (R12). -/
def Sys2Proof.Claims.atGate (s : State) (b : Bottle) (rest : List Bottle) : Prop :=
  s.ltr.track = b :: rest ∧ (s.ltr.pitch - b.infeedPitch).toNat = s.cfg.geometry.gateOffset

/-- A record that meets the three conditions of a pass (R13). -/
def Sys2Proof.Claims.fitToPass (b : Bottle) : Prop :=
  b.fill = .ok ∧ (∀ v ∈ b.verdicts, v.2 = .ok) ∧ b.sample = none

/-- The primary reason of a reject, with the place of its counter: the first of FILL, CAMERA k with k the lowest camera whose
entry is not OK, and SAMPLE (R13). -/
def Sys2Proof.Claims.rejectedFor (b : Bottle) (reason : RejectReason) (counter : Fin 11) : Prop :=
  (b.fill ≠ .ok ∧ reason = .fill ∧ counter = 2)
  ∨ (b.fill = .ok ∧ counter = 3 ∧ ∃ before k v after, b.verdicts = before ++ (k, v) :: after ∧ (∀ x ∈ before, x.2 = .ok)
      ∧ v ≠ .ok ∧ reason = .camera k)
  ∨ (b.fill = .ok ∧ (∀ v ∈ b.verdicts, v.2 = .ok) ∧ b.sample ≠ none ∧ reason = .sample ∧ counter = 4)

/-- The announcement of a departure (R20). -/
def Sys2Proof.Claims.leaving (serial : Nat) (how : Departure) (reason : Option RejectReason) : List Instr :=
  [.fmuDeparture serial, .ctuDeparture serial, .acuReport (.departure serial how reason)]

/-- One more on a line counter. -/
def Sys2Proof.Claims.plusOne (s : State) (i : Fin 11) : Vector Nat 11 := s.ltr.counters.set i (s.ltr.counters[i] + 1)

/-- A line counter below its top, past which the manual gives no count (R22). -/
def Sys2Proof.Claims.counts (s : State) (i : Fin 11) : Prop := s.ltr.counters[i] < 18446744073709551615

/-- The LTR after a reject: GATE high with its pulse started or restarted, the entry at the newest end of a log of at most 16, the
reject in the slot, one more on its counter (R13 to R16). -/
def Sys2Proof.Claims.afterReject (s : State) (e : RejectEntry) (counter : Fin 11) : Ltr :=
  { s.ltr with
    gate := true
    gateEnd := some (s.tmu.now + s.cfg.geometry.pulseMs * 1000)
    log := (if s.ltr.log.length < 16 then s.ltr.log else s.ltr.log.drop 1) ++ [e]
    verify := some ⟨e.serial⟩
    counters := plusOne s counter }

/-- The gate step, by its four cases. A record at position L with GATE_PRES active passes when its fill result is OK, every
verdict is OK and it has no sample mark, and is rejected for its primary reason otherwise; with GATE_PRES inactive it is LOST; a
container with no record is rejected as UNTRACKED; with neither the verify slot is emptied. -/
def Obligations.GateDecidesTheRecordAtL : Prop :=
  ∀ s : State,
    (∀ b rest, atGate s b rest → s.inputs.gatePres = true → fitToPass b → counts s 1 →
      gateStep s = sending (withLtr s { s.ltr with verify := none, track := rest, counters := plusOne s 1 })
        (leaving b.serial .passed none))
    ∧ (∀ b rest reason counter failing, atGate s b rest → s.inputs.gatePres = true → rejectedFor b reason counter →
      counts s counter → (∀ k : CameraNo, BitVec.getLsbD failing k = b.verdicts.any fun v => v.1 == k && v.2 != .ok) →
      failing < (64#8 : CameraSet) →
      gateStep s = sending (withLtr s { afterReject s ⟨some b.serial, reason, failing, some b.fill, s.stamp, false⟩ counter with
        track := rest }) (.accountCount .gate :: leaving b.serial .rejected (some reason)))
    ∧ (∀ b rest, atGate s b rest → s.inputs.gatePres = false → counts s 5 →
      gateStep s = sending (withLtr s { s.ltr with verify := none, track := rest, counters := plusOne s 5 })
        (leaving b.serial .lost none))
    ∧ ((¬ ∃ b rest, atGate s b rest) → s.inputs.gatePres = true → counts s 8 →
      gateStep s = sending (withLtr s (afterReject s ⟨none, .untracked, 0, none, s.stamp, false⟩ 8)) [.accountCount .gate])
    ∧ ((¬ ∃ b rest, atGate s b rest) → s.inputs.gatePres = false →
      gateStep s = withLtr s { s.ltr with verify := none })

/-- The record that a serial makes at infeed (R5). -/
def Sys2Proof.Claims.fresh (s : State) (serial : Nat) : Bottle :=
  { serial := serial, infeedPitch := s.ltr.pitch, stamp := s.stamp, recipe := s.fmu.active, fillAxis := none
    fill := .pending
    verdicts := (cameraMembers s.cfg.recipes[s.fmu.active].cameras).map fun k => (k, .pending)
    sample := none, hits := 0 }

/-- The serial of a new record and the next one: the next serial, EXHAUSTED after the last; from EXHAUSTED, 1 on an empty
track (R6). -/
def Sys2Proof.Claims.serialTaken (l : Ltr) (serial : Nat) (next : Option Nat) : Prop :=
  (l.nextSerial = some serial ∧ next = if serial = 4294967295 then none else some (serial + 1))
  ∨ (l.nextSerial = none ∧ l.track = [] ∧ serial = 1 ∧ next = some 2)

/-- The infeed step. With INFEED active, room in the track and a serial, a record joins the newest end with the fields of R5, is
counted, clears TRACK_FULL, and is announced to the FMU and the ACU. With no room or no serial it is counted as untracked at
infeed, and a full track makes TRACK_FULL active. With INFEED inactive nothing is done. -/
def Obligations.InfeedMakesARecordOrCountsAMiss : Prop :=
  ∀ s : State,
    (s.inputs.infeed = false → infeedStep s = s)
    ∧ (∀ serial next, s.inputs.infeed = true → s.ltr.track.length < 128 → serialTaken s.ltr serial next → counts s 0 →
      infeedStep s = sending (withLtr s { s.ltr with
        track := s.ltr.track ++ [fresh s serial], nextSerial := next, counters := plusOne s 0, trackFull := false })
        (change .trackFull s.ltr.trackFull false
          ++ [.assignmentArbiter serial s.fmu.active s.ltr.pitch, .acuReport (.newRecord serial)]))
    ∧ (s.inputs.infeed = true → 128 ≤ s.ltr.track.length → counts s 7 →
      infeedStep s = sending (withLtr s { s.ltr with counters := plusOne s 7, trackFull := true })
        (change .trackFull s.ltr.trackFull true))
    ∧ (s.inputs.infeed = true → s.ltr.track.length < 128 → s.ltr.track ≠ [] → s.ltr.nextSerial = none → counts s 7 →
      infeedStep s = withLtr s { s.ltr with counters := plusOne s 7 })

/-- The track with a change of the record with a serial. -/
def Sys2Proof.Claims.recordChanged (s : State) (serial : Nat) (f : Bottle → Bottle) : State :=
  withLtr s { s.ltr with track := s.ltr.track.map fun b => if b.serial = serial then f b else b }

/-- A fill report writes the axis of the record with its serial when that is absent, or the fill result when that is PENDING; it is
discarded otherwise, and when no record has the serial. -/
def Sys2Proof.Claims.FillReportFillsAnOpenField : Prop :=
  ∀ (serial : Nat) (s : State), running s →
    (∀ k : AxisNo,
      let c := Instr.fillReport serial (.axis k)
      exec c s = .next (recordChanged (s.received c) serial fun b =>
        if b.fillAxis = none then { b with fillAxis := some k } else b))
    ∧ ∀ r : FillResult,
      let c := Instr.fillReport serial (.result r)
      exec c s = .next (recordChanged (s.received c) serial fun b => if b.fill = .pending then { b with fill := r } else b)

/-- A verdict report writes its verdict into the record's entry for its camera when the entry exists and holds PENDING; it is
discarded otherwise. -/
def Sys2Proof.Claims.VerdictReportFillsAPendingEntry : Prop :=
  ∀ (serial : Nat) (k : CameraNo) (v : Verdict) (s : State), running s →
    let c := Instr.verdictReport serial k v
    exec c s = .next (recordChanged (s.received c) serial fun b =>
      { b with verdicts := b.verdicts.map fun e => if e = (k, .pending) then (k, v) else e })

/-- A watch report adds its watch to the record's watch hits, and sets the sample mark when it asks for one and none is there;
it is discarded when no record has the serial. -/
def Sys2Proof.Claims.WatchReportAddsTheHit : Prop :=
  ∀ (serial : Nat) (w : WatchNo) (sample : Bool) (s : State), running s →
    let c := Instr.watchReport serial w sample
    exec c s = .next (recordChanged (s.received c) serial fun b =>
      { b with hits := b.hits ||| (1#4 <<< w.val), sample := if sample && b.sample = none then some w else b.sample })

/-- Fill, verdict and watch reports fill the record with their serial: all of FillReportFillsAnOpenField,
VerdictReportFillsAPendingEntry and WatchReportAddsTheHit. -/
def Obligations.ReportsFillTheRecord : Prop :=
  FillReportFillsAnOpenField ∧ VerdictReportFillsAPendingEntry ∧ WatchReportAddsTheHit

/-- GATE_PULSE_EXPIRY sets GATE low and the pulse idle at its end time; before it (the model's choice, log 2), and with no pulse,
nothing changes. -/
def Sys2Proof.Claims.GatePulseEndsAtItsTime : Prop :=
  ∀ s : State, running s →
    (∀ t, s.ltr.gateEnd = some t → t ≤ s.tmu.now →
      exec .gatePulseExpiry s = .next (withLtr (s.received .gatePulseExpiry) { s.ltr with gate := false, gateEnd := none }))
    ∧ ((s.ltr.gateEnd = none ∨ ∃ t, s.ltr.gateEnd = some t ∧ s.tmu.now < t) →
      exec .gatePulseExpiry s = .next (s.received .gatePulseExpiry))

/-- The verify step marks a failed reject, and the gate pulse ends at its time: all of VerifyMarksAFailedReject and
GatePulseEndsAtItsTime. -/
def Obligations.VerifyAndTheEndOfTheGatePulse : Prop :=
  VerifyMarksAFailedReject ∧ GatePulseEndsAtItsTime

/-- The values LINE_GEOMETRY may set: each in its range, L above every S and every C + V (R4). -/
def Sys2Proof.Claims.geometryFits (s : State) (l n t d : Nat) : Prop :=
  3 ≤ l ∧ l ≤ 1000 ∧ 16 ≤ n ∧ n ≤ 4096 ∧ 5 ≤ t ∧ t ≤ 200 ∧ d ≤ 1 ∧ (∀ k : AxisNo, s.cfg.axes[k].startOffset < l)
    ∧ ∀ k : CameraNo, s.cfg.cameras[k].pitchOffset + s.cfg.cameras[k].window < l

/-- LINE_GEOMETRY at level 2 is refused BAD_VALUE for a value out of range or an L that does not exceed every S and every C + V,
and BUSY while the track holds a record or the verify slot a reject. Accepted, it replaces the geometry and marks the store
dirty, sets the step-in-pitch count to 0 when N changes and hands a count that this changes to the CTU, makes TRACK_REVERSE
active exactly when the kept debt is N or more, and is answered OK. -/
def Sys2Proof.Claims.LineGeometryReplacesTheGeometry : Prop :=
  ∀ (l n t d : Nat) (s : State), running s → 2 ≤ s.acu.level →
    let c := Instr.lineGeometry l n t d
    let r := s.received c
    let idle := s.ltr.track = [] ∧ s.ltr.verify = none
    (¬ geometryFits s l n t d → exec c s = .next (r.refuse .badValue))
    ∧ (geometryFits s l n t d → ¬ idle → exec c s = .next (r.refuse .busy))
    ∧ (geometryFits s l n t d → idle →
      let g : Geometry := ⟨l, n, t, if d = 0 then .aLeads else .bLeads⟩
      let changed := n ≠ s.cfg.geometry.stepsPerPitch
      let r1 := withSettings r { s.cfg with geometry := g }
      let r2 := sending (withLtr r1 { s.ltr with step := if changed then 0 else s.ltr.step })
        (if changed ∧ s.ltr.step ≠ 0 then [.lineTrigger 0] else [])
      exec c s = .next ((withDebt r2 s.ltr.debt).replyOk []))

/-- LINE_CLEAR at level 1 is refused BUSY, with nothing changed, while an axis that holds an assignment is in LOWERING, FILLING or
RAISING. Taken, it removes every record, adds their number to the cleared counter, announces the clear to the FMU and the CTU,
keeps everything else, and is answered OK with the number. -/
def Sys2Proof.Claims.LineClearEmptiesTheTrack : Prop :=
  ∀ s : State, running s → 1 ≤ s.acu.level →
    let r := s.received .lineClear
    let filling := ∃ k : AxisNo, (s.axis k).assignments ≠ [] ∧
      ((s.axis k).motion = .lowering ∨ (s.axis k).motion = .filling ∨ (s.axis k).motion = .raising)
    (filling → exec .lineClear s = .next (r.refuse .busy))
    ∧ (¬ filling → s.ltr.counters[6] + s.ltr.track.length ≤ 18446744073709551615 →
      exec .lineClear s = .next ((sending (withLtr r { s.ltr with
        track := [], counters := s.ltr.counters.set 6 (s.ltr.counters[6] + s.ltr.track.length) })
        [.fmuLineClear, .ctuLineClear]).replyOk [BitVec.ofNat 8 s.ltr.track.length]))

/-! ## Filler axes and motion (chapter 2) -/

/-- The pulses that suffice to slow from a speed, in thousandths of a p/s, to the start speed of a profile: the squares of the
speeds in p/s differ by at most 2,000 times the acceleration times that number (R29). -/
def Sys2Proof.Claims.enoughToSlow (p : Profile) (speed pulses : Nat) : Prop :=
  speed * speed ≤ (p.startSpeed * 1000) * (p.startSpeed * 1000) + 2000 * p.acceleration * 1000000 * pulses

/-- The ramp-down condition: the remaining count is not greater than the least number of pulses that suffices (R29). -/
def Sys2Proof.Claims.rampDown (p : Profile) (speed remaining : Nat) : Prop :=
  ∀ n, n < remaining → ¬ enoughToSlow p speed n

/-- A pulse of a move takes one from the remaining count, moves a valid position by one, down with DIR high and up with DIR low,
and enters DECEL exactly when the ramp-down condition holds after it, from ACCEL or CRUISE; nothing but the axis changes. With
no move in progress, or no pulse left, nothing changes. The speed in thousandths of a p/s, the pulse part and its 1,000,000,000,
the wait for the first pulse and the count of pulses are the model's (log 7). -/
def Sys2Proof.Claims.PulseMovesTheAxisByOne : Prop :=
  ∀ (k : AxisNo) (s : State), running s →
    let c := Instr.stepPulse k
    let a := s.axis k
    (∀ p, a.profile = some p → a.remaining ≠ some 0 → 1 ≤ p.acceleration →
      ∃ a' : Axis, exec c s = .next (withAxis (s.received c) k a')
        ∧ a' = { a with
          position := a.position.map fun x => if a.dir then x + 1 else x - 1
          remaining := a.remaining.map fun n => n - 1
          pulsePart := a.pulsePart - 1000000000
          lead := 0
          pulses := a.pulses + 1
          ramp := a'.ramp }
        ∧ (a.ramp = some .decel → a'.ramp = some .decel)
        ∧ (a.ramp ≠ some .decel → ∀ n, a.remaining = some (n + 1) →
          (rampDown p a.speed n → a'.ramp = some .decel) ∧ (¬ rampDown p a.speed n → a'.ramp = a.ramp))
        ∧ (a.remaining = none → a'.ramp = a.ramp))
    ∧ ((a.profile = none ∨ a.remaining = some 0) → exec c s = .next (s.received c))

/-- The axis at rest in a motion state (R27). -/
def Sys2Proof.Claims.atRestIn (a : Axis) (m : Motion) : Axis :=
  { a with speed := 0, ramp := none, remaining := none, profile := none, pulsePart := 0, lead := 0, motion := m }

/-- The axis record written, with AXIS_AT_REST posted, and the flag cleared, when the notify-on-rest flag is set (R47). -/
def Sys2Proof.Claims.notifying (s : State) (k : AxisNo) (a : Axis) (cause : EndCause) : State :=
  if a.notify then (withAxis s k { a with notify := false }).post (.axisAtRest k a.motion cause a.position)
  else withAxis s k a

/-- An at-rest event: the at-rest values, the report to the ACU in MANUAL duty, and the notice (R27, R47). -/
def Sys2Proof.Claims.comesToRest (s : State) (k : AxisNo) (a : Axis) (m : Motion) (cause : EndCause) : State :=
  notifying (sending s (if a.duty = .manual then [.closingReport (.atRest k m)] else [])) k (atRestIn a m) cause

/-- The state that a decelerate stop leaves the axis in: STOPPED with a valid position, UNHOMED without one (R31). -/
def Sys2Proof.Claims.stoppedIn (a : Axis) : Motion := if a.position = none then .unhomed else .stopped

/-- The reports of assignments dropped: the first ABORTED, a second NOT_FILLED (R36, R40). -/
def Sys2Proof.Claims.droppedAll : List Assignment → List Instr
  | [] => []
  | x :: rest => .fillReport x.serial (.result .aborted) :: rest.map fun y => .fillReport y.serial (.result .notFilled)

/-- The report of a hold that is released. -/
def Sys2Proof.Claims.releasing (k : AxisNo) (held : Option WatchNo) : List Instr :=
  held.toList.map fun w => .acuReport (.release k w)

/-- The axis with its assignments, hold, fill and dwell dropped; a DRAINING axis is then RETIRED (R36, R40, R68). -/
def Sys2Proof.Claims.emptied (a : Axis) : Axis :=
  { a with
    assignments := [], held := none, fill := none, dwellEnd := none
    retire := if a.retire = .draining then .retired else a.retire }

/-- The state after a halt (R36), its reports in the order R36 names them, but for the at-rest
report before AXIS_HALTED (log 37). -/
def Sys2Proof.Claims.halts (s : State) (k : AxisNo) (cause : HaltCause) : State :=
  let a := s.axis k
  let a' := { atRestIn (emptied a) .halted with
    position := none, haltCause := some cause, valve := false, valveTestEnd := none, notify := false }
  sending ((withAxis s k a').post (.axisHalted k cause a.motion))
    (droppedAll a.assignments ++ releasing k a.held ++ [.acuReport (.halt k cause a.motion)]
      ++ (if a.profile ≠ none ∧ a.duty = .manual then [.closingReport (.atRest k .halted)] else [])
      ++ (if ∃ j : AxisNo, (s.axis j).motion = .halted then [] else [.sourceActivation .axisHalted]))

/-- A halt ends motion, valve and valve test, loses the position, sets the cause, drops the assignments (the first ABORTED, a
second NOT_FILLED), the hold and the fill, keeps duty and retire state but for a DRAINING axis, which is RETIRED, tells the ACU
and the PML, and posts AXIS_HALTED. An axis that is HALTED does not halt again. LIMIT halts an axis in motion alone, a binding
loss halts any axis, and a homing travel that is exhausted halts a homing axis. -/
def Obligations.HaltsAndTheirCauses : Prop :=
  (∀ (k : AxisNo) (cause : HaltCause) (s : State),
    ((s.axis k).motion = .halted → s.haltAxis k cause = s)
    ∧ ((s.axis k).motion ≠ .halted → s.haltAxis k cause = halts s k cause))
  ∧ (∀ (k : AxisNo) (s : State), running s →
    let c := Instr.limitActive k
    let r := { s.received c with inputs := { s.inputs with limit := s.inputs.limit ||| (1#8 <<< k.val) } }
    ((s.axis k).profile = none → exec c s = .next r)
    ∧ ((s.axis k).profile ≠ none → (s.axis k).motion ≠ .halted → exec c s = .next (halts r k .limit)))
  ∧ (∀ (k : AxisNo) (s : State), running s → (s.axis k).motion = .homing → (s.axis k).remaining = some 0 →
    let c := Instr.homingTravelExhausted k
    exec c s = .next (halts (s.received c) k .homeNotFound))
  ∧ (∀ (k : AxisNo) (s : State), running s →
    let c := Instr.driveBindingChange k .down
    let r := withAxis (s.received c) k { s.axis k with binding := .down }
    ((s.axis k).binding = .up → (s.axis k).motion ≠ .halted → exec c s = .next (halts r k .driveOffline))
    ∧ ((s.axis k).binding = .down ∨ (s.axis k).motion = .halted → exec c s = .next r))
  ∧ ∀ (k : AxisNo) (s : State), running s →
    let c := Instr.driveBindingChange k .up
    exec c s = .next (withAxis (s.received c) k { s.axis k with binding := .up })

/-- A move whose remaining count is 0 completes: a manual move or jog is IDLE, a decelerate stop STOPPED or UNHOMED by its
position, each with its at-rest event; homing halts with HOME_NOT_FOUND. MOVE_COMPLETE of an axis with pulses left or at rest,
and HOMING_TRAVEL_EXHAUSTED of one with pulses left or not homing, change nothing (the model's choice, log 2). HOME found in
homing leaves position 0, IDLE, at rest, with HOME_DONE posted and the notify-on-rest flag clear; in any other motion state HOME
changes nothing but the input. -/
def Sys2Proof.Claims.MovesCompleteByTheirKind : Prop :=
  (∀ (k : AxisNo) (s : State), running s → (s.axis k).profile ≠ none → (s.axis k).remaining = some 0 →
    let c := Instr.moveComplete k
    let r := s.received c
    ((s.axis k).motion = .moving → exec c s = .next (comesToRest r k (s.axis k) .idle .complete))
    ∧ ((s.axis k).motion = .stopping →
      exec c s = .next (comesToRest r k (s.axis k) (stoppedIn (s.axis k)) .stopped))
    ∧ ((s.axis k).motion = .homing → exec c s = .next (halts r k .homeNotFound)))
  ∧ (∀ (k : AxisNo) (s : State), running s →
    ((s.axis k).profile = none ∨ (s.axis k).remaining ≠ some 0 →
      exec (.moveComplete k) s = .next (s.received (.moveComplete k)))
    ∧ ((s.axis k).motion ≠ .homing ∨ (s.axis k).remaining ≠ some 0 →
      exec (.homingTravelExhausted k) s = .next (s.received (.homingTravelExhausted k))))
  ∧ ∀ (k : AxisNo) (s : State), running s →
    let c := Instr.homeFound k
    let r := { s.received c with inputs := { s.inputs with home := s.inputs.home ||| (1#8 <<< k.val) } }
    ((s.axis k).motion ≠ .homing → exec c s = .next r)
    ∧ ((s.axis k).motion = .homing →
      exec c s = .next ((sending (withAxis r k { atRestIn (s.axis k) .idle with position := some 0, notify := false })
        (if (s.axis k).duty = .manual then [.closingReport (.atRest k .idle)] else [])).post (.homeDone k)))

/-- A member's place in the reply: its number, its result and its detail byte (R187). -/
def Sys2Proof.Claims.resultBytes (number : Nat) (r : MemberResult) (detail : Nat) : List Byte :=
  [BitVec.ofNat 8 number, BitVec.ofNat 8 (memberResultCode r), BitVec.ofNat 8 detail]

/-- The members taken one after another, each on the state that those before it left, with their results in that order
(R39). -/
def Sys2Proof.Claims.inTurn {n : Nat} (f : Fin n → State → State × MemberResult × Nat) :
    List (Fin n) → State → State × List Byte
  | [], s => (s, [])
  | m :: rest, s =>
    let r := f m s
    let t := inTurn f rest r.1
    (t.1, resultBytes m r.2.1 r.2.2 ++ t.2)

/-- The answer to a set request: OK with the results (R39). -/
def Sys2Proof.Claims.answeredInTurn {n : Nat} (f : Fin n → State → State × MemberResult × Nat) (members : List (Fin n))
    (s : State) : State :=
  (inTurn f members s).1.replyOk (inTurn f members s).2

/-- A member function with a detail byte of 0. -/
def Sys2Proof.Claims.plain {n : Nat} (f : Fin n → State → State × MemberResult) (k : Fin n) (s : State) :
    State × MemberResult × Nat :=
  ((f k s).1, (f k s).2, 0)

/-- A set request on axes without a grant, its level, and its member function with its common values in range (R33, R37, R40,
R152). -/
def Sys2Proof.Claims.axisRequest (axes : AxisSet) : Instr → (AxisNo → State → State × MemberResult) → Prop
  | c, f =>
    (c = .axisHome axes ∧ f = homeMember) ∨ (c = .clearHalt axes ∧ f = clearHaltMember)
    ∨ (c = .axisResume axes ∧ f = resumeMember)
    ∨ (c = .axisStop axes 0 0 ∧ f = stopMember .decelerate false) ∨ (c = .axisStop axes 0 1 ∧ f = stopMember .decelerate true)
    ∨ (c = .axisStop axes 1 0 ∧ f = stopMember .immediate false) ∨ (c = .axisStop axes 1 1 ∧ f = stopMember .immediate true)

/-- AXIS_HOME, CLEAR_HALT, AXIS_STOP and AXIS_RESUME are refused BAD_VALUE for an empty set, else LEVEL below level 1, and are
otherwise answered OK with one result a member, each checked and acted on in ascending axis number. A refused request changes
nothing. AXIS_STOP is also refused BAD_VALUE for a mode or a notify choice in no list. The notify choice is 1 for yes (log 11). -/
def Sys2Proof.Claims.AxisSetRequestsRunTheirMembers : Prop :=
  (∀ (axes : AxisSet) (c : Instr) (f : AxisNo → State → State × MemberResult) (s : State), running s → axisRequest axes c f →
    let r := s.received c
    (axes = 0 → exec c s = .next (r.refuse .badValue))
    ∧ (axes ≠ 0 → s.acu.level = 0 → exec c s = .next (r.refuse .level))
    ∧ (axes ≠ 0 → 1 ≤ s.acu.level → exec c s = .next (answeredInTurn (plain f) (axisMembers axes) r)))
  ∧ ∀ (axes : AxisSet) (mode notify : Nat) (s : State), running s → axes ≠ 0 → 1 ≤ s.acu.level → 2 ≤ mode ∨ 2 ≤ notify →
    let c := Instr.axisStop axes mode notify
    exec c s = .next ((s.received c).refuse .badValue)

/-- The axis with a move begun (R28): its first pulse is due 10 microseconds later (R26; log 7). -/
def Sys2Proof.Claims.begun (a : Axis) (down : Bool) (count : Option Nat) (p : Profile) (flat : Bool) : Axis :=
  { a with
    profile := some p, dir := down, remaining := count, speed := p.startSpeed * 1000
    ramp := if flat ∨ p.startSpeed = p.topSpeed then some .cruise else some .accel
    pulsePart := 0, lead := 10 }

/-- A move begins with its count, its profile and the start speed, and its first pulse goes out at the start speed: for nine
microseconds nothing of the axis changes but the wait, and with the tenth the pulse is due (the 10 microseconds: R26 and log 7),
the speed and the ramp phase as they were at the beginning. -/
def Sys2Proof.Claims.TheFirstPulseGoesOutAtTheStartSpeed : Prop :=
  ∀ (a : Axis) (down : Bool) (count : Option Nat) (p : Profile) (flat : Bool),
    let b := begun a down count p flat
    a.startMove down count p flat = b
    ∧ (∀ n, n < 10 → Nat.iterate Axis.ramped n b = { b with lead := 10 - n } ∧ (Nat.iterate Axis.ramped n b).pulseDue = false)
    ∧ Nat.iterate Axis.ramped 10 b = { b with lead := 0, pulsePart := 1000000000 }
    ∧ (Nat.iterate Axis.ramped 10 b).pulseDue = true ∧ (Nat.iterate Axis.ramped 10 b).pulse.speed = p.startSpeed * 1000

/-- A move that is due to begin: with LIMIT active the axis halts before the first pulse (R35). -/
def Sys2Proof.Claims.unlessLimit (s : State) (k : AxisNo) : State :=
  if s.inputs.limit.getLsbD k then halts s k .limit else s

/-- One member of AXIS_HOME and of CLEAR_HALT, by the tables of their rules. -/
def Sys2Proof.Claims.HomeAndClearHaltMembers : Prop :=
  ∀ (k : AxisNo) (s : State),
    let a := s.axis k
    let free := a.motion = .unhomed ∨ a.motion = .idle ∨ a.motion = .stopped
    (a.binding = .down ∨ a.motion = .halted → homeMember k s = (s, .refused .state))
    ∧ (a.binding = .up → ¬ free → a.motion ≠ .halted → homeMember k s = (s, .refused .busy))
    ∧ (a.binding = .up → free → a.valveTestEnd ≠ none → homeMember k s = (s, .refused .busy))
    ∧ (a.binding = .up → free → a.valveTestEnd = none → s.inputs.home.getLsbD k = true →
      homeMember k s = ((withAxis s k { a with position := some 0, motion := .idle }).post (.homeDone k), .ok))
    ∧ (a.binding = .up → free → a.valveTestEnd = none → s.inputs.home.getLsbD k = false →
      let x := s.cfg.axes[k]
      let a' := begun { a with motion := .homing, position := none, notify := true } false (some x.homingLimit) x.manual true
      homeMember k s = (unlessLimit (sending (withAxis s k a')
        (if a.duty = .manual then [.closingReport (.homingStarted k)] else [])) k, .accepted))
    ∧ (a.motion ≠ .halted ∨ s.inputs.limit.getLsbD k = true ∨ a.binding = .down →
      clearHaltMember k s = (s, .refused .state))
    ∧ (a.motion = .halted → s.inputs.limit.getLsbD k = false → a.binding = .up →
      clearHaltMember k s = (sending (withAxis s k { a with motion := .unhomed, haltCause := none })
        (if ∃ j : AxisNo, j ≠ k ∧ (s.axis j).motion = .halted then [] else [.sourceDeactivation .axisHalted]), .ok))

/-- The axis with the notify choice of an AXIS_STOP taken and a valve test ended (R40). -/
def Sys2Proof.Claims.stopAsked (a : Axis) (notify : Bool) : Axis :=
  { a with
    notify := a.notify || notify, valve := if a.valveTestEnd = none then a.valve else false, valveTestEnd := none }

/-- The axis with the pulses of a decelerate stop left (R31). -/
def Sys2Proof.Claims.slowing (a : Axis) : Axis :=
  { a with
    motion := .stopping, ramp := some .decel
    remaining := some (match a.remaining with
      | some n => min n a.needed
      | none => a.needed) }

/-- One member of AXIS_STOP, by the table of R40: at rest it stays or becomes STOPPED, with its assignments dropped; in a fill
segment or a manual move it slows into STOPPING (a fill segment that needs no pulse for it is at rest at once and is still
answered ACCEPTED: log 23), or stops at once with its position lost; a stop already running continues. A member at rest posts
AXIS_AT_REST when its notify-on-rest flag is set. -/
def Sys2Proof.Claims.AxisStopMembers : Prop :=
  ∀ (k : AxisNo) (mode : StopMode) (notify : Bool) (s : State),
    let a := s.axis k
    let b := stopAsked a notify
    let dropping := sending s (droppedAll a.assignments ++ releasing k a.held)
    let moving := a.profile ≠ none
    let segment := a.motion = .lowering ∨ a.motion = .raising
    let closing := a.motion = .lowering ∧ ∃ f, a.fill = some f ∧ f.closing = true
    let manual := a.motion = .homing ∨ a.motion = .moving
    (a.motion = .unhomed ∨ a.motion = .stopped ∨ a.motion = .halted → ¬ moving →
      stopMember mode notify k s = (notifying s k b .stopped, .ok))
    ∧ (a.motion = .idle → ¬ moving → stopMember mode notify k s = (notifying s k { b with motion := .stopped } .stopped, .ok))
    ∧ (a.motion = .armed ∨ segment → ¬ moving →
      stopMember mode notify k s = (notifying dropping k { emptied b with motion := .stopped } .stopped, .ok))
    ∧ (a.motion = .filling → ¬ moving → stopMember mode notify k s =
      (notifying dropping k { emptied b with motion := .stopped, valve := false } .stopped, .ok))
    ∧ (segment → moving → ¬ closing → 0 < a.needed → stopMember .decelerate notify k s =
      (unlessLimit (withAxis dropping k (slowing (emptied b))) k, .accepted))
    ∧ (segment → moving → ¬ closing → a.needed = 0 → stopMember .decelerate notify k s =
      (comesToRest dropping k (emptied b) (stoppedIn a) .stopped, .accepted))
    ∧ (closing → moving → stopMember .decelerate notify k s =
      (withAxis dropping k { emptied b with motion := .stopping }, .accepted))
    ∧ (segment → moving → stopMember .immediate notify k s =
      (comesToRest dropping k { emptied b with position := none } .unhomed .stopped, .ok))
    ∧ (manual → moving → 0 < a.needed → stopMember .decelerate notify k s =
      (unlessLimit (withAxis s k (slowing b)) k, .accepted))
    ∧ (manual → moving → a.needed = 0 → stopMember .decelerate notify k s =
      (comesToRest s k b (stoppedIn a) .stopped, .ok))
    ∧ (manual ∨ a.motion = .stopping → stopMember .immediate notify k s =
      (comesToRest s k { b with position := none } .unhomed .stopped, .ok))
    ∧ (a.motion = .stopping → moving → stopMember .decelerate notify k s = (withAxis s k b, .accepted))

/-- One member of AXIS_HOME, CLEAR_HALT and AXIS_STOP: all of HomeAndClearHaltMembers and AxisStopMembers. -/
def Obligations.HomeClearHaltAndStopMembers : Prop :=
  HomeAndClearHaltMembers ∧ AxisStopMembers

/-- What keeps a member from manual motion after its grant check: the first of AUTO duty, a binding DOWN, HALTED or (where it is
not allowed) UNHOMED, which give STATE, and being in motion or under a valve test, which give BUSY (R44 to R46). -/
def Sys2Proof.Claims.manualBar (a : Axis) (unhomedAllowed : Bool) (r : Option Reason) : Prop :=
  let state := a.duty = .auto ∨ a.binding = .down ∨ a.motion = .halted ∨ (a.motion = .unhomed ∧ unhomedAllowed = false)
  let busy := a.motion ∉ [Motion.unhomed, .idle, .stopped, .halted] ∨ a.valveTestEnd ≠ none
  (state ∧ r = some .state) ∨ (¬ state ∧ busy ∧ r = some .busy) ∨ (¬ state ∧ ¬ busy ∧ r = none)

/-- One member of AXIS_MOVE, AXIS_JOG, VALVE_TEST and AXIS_DUTY once its grant check has passed, by the rules' tables: a target
out of the position range is BAD_VALUE first; a move at its target posts AXIS_AT_REST at once; a jog runs at the start speed to
the end of the range; a valve test opens VALVE for its duration; an axis enters MANUAL at rest with no assignment, and returns
to AUTO at rest without its position. -/
def Obligations.ManualMembers : Prop :=
  ∀ (k : AxisNo) (s : State),
    let a := s.axis k
    let p := s.cfg.axes[k].manual
    let going := { a with motion := .moving, notify := true }
    (∀ target : Int, target < -8388608 ∨ 8388607 < target → moveMember target k s = (s, .refused .badValue))
    ∧ (∀ (target : Int) (r : Reason), -8388608 ≤ target → target ≤ 8388607 → manualBar a false (some r) →
      moveMember target k s = (s, .refused r))
    ∧ (∀ target : Int, -8388608 ≤ target → target ≤ 8388607 → manualBar a false none → a.position = some target →
      moveMember target k s = (notifying s k { a with notify := true } .complete, .ok))
    ∧ (∀ target x : Int, -8388608 ≤ target → target ≤ 8388607 → manualBar a false none → a.position = some x → x ≠ target →
      moveMember target k s =
        (unlessLimit (withAxis s k (begun going (decide (x < target)) (some (target - x).natAbs) p false)) k, .accepted))
    ∧ (∀ (down : Bool) (r : Reason), manualBar a true (some r) → jogMember down k s = (s, .refused r))
    ∧ (∀ (down : Bool) (x : Int), manualBar a true none → a.position = some x → -8388608 ≤ x → x ≤ 8388607 →
      x = (if down then 8388607 else -8388608) → jogMember down k s = (s, .refused .state))
    ∧ (∀ (down : Bool) (x : Int), manualBar a true none → a.position = some x → -8388608 ≤ x → x ≤ 8388607 →
      x ≠ (if down then 8388607 else -8388608) →
      jogMember down k s = (unlessLimit (withAxis s k (begun going down
        (some (if down then 8388607 - x else x + 8388608).toNat) p true)) k, .accepted))
    ∧ (∀ down : Bool, manualBar a true none → a.position = none →
      jogMember down k s = (unlessLimit (withAxis s k (begun going down none p true)) k, .accepted))
    ∧ (∀ (ms : Nat) (r : Reason), manualBar a true (some r) → valveMember ms k s = (s, .refused r))
    ∧ (∀ ms : Nat, manualBar a true none → valveMember ms k s =
      (withAxis s k { a with valve := true, valveTestEnd := some (s.tmu.now + ms * 1000), notify := true }, .accepted))
    ∧ (∀ d : Duty, a.duty = d → dutyMember d k s = (s, .ok))
    ∧ (a.duty = .auto → a.assignments = [] → a.profile = none → a.motion ≠ .filling →
      dutyMember .manual k s = (withAxis s k { a with duty := .manual }, .ok))
    ∧ (a.duty = .auto → a.assignments ≠ [] ∨ a.profile ≠ none ∨ a.motion = .filling →
      dutyMember .manual k s = (s, .refused .state))
    ∧ (a.duty = .manual → a.profile ≠ none ∨ a.valveTestEnd ≠ none → dutyMember .auto k s = (s, .refused .busy))
    ∧ (a.duty = .manual → a.profile = none → a.valveTestEnd = none →
      dutyMember .auto k s = (withAxis s k { a with
        duty := .auto, position := none, motion := if a.motion = .halted then .halted else .unhomed, valve := false }, .ok))

/-- A member function behind its grant check: a failed check gives its reason (R128). -/
def Sys2Proof.Claims.underGrant {n : Nat} (check : Fin n → State → Option Reason) (f : Fin n → State → State × MemberResult)
    (k : Fin n) (s : State) : State × MemberResult × Nat :=
  match check k s with
  | some r => (s, .refused r, 0)
  | none => ((f k s).1, (f k s).2, 0)

/-- A set request on axes under a grant with its common values in range, and its member function (R43 to R46). -/
def Sys2Proof.Claims.grantRequest (axes : AxisSet) (grant : Nat) (c : Instr)
    (f : AxisNo → State → State × MemberResult) : Prop :=
  (c = .axisDuty axes grant 0 ∧ f = dutyMember .auto) ∨ (c = .axisDuty axes grant 1 ∧ f = dutyMember .manual)
  ∨ (c = .axisJog axes grant 0 ∧ f = jogMember false) ∨ (c = .axisJog axes grant 1 ∧ f = jogMember true)
  ∨ (∃ ms, 1 ≤ ms ∧ ms ≤ 5000 ∧ c = .valveTest axes grant ms ∧ f = valveMember ms)
  ∨ ∃ targets : List Int, c = .axisMove axes grant targets
      ∧ f = fun k => moveMember (targets.getD ((axisMembers axes).filter fun j => j < k).length 0) k

/-- AXIS_DUTY, AXIS_MOVE, AXIS_JOG and VALVE_TEST are refused BAD_VALUE for an empty set, a grant id outside 1 to 255 or a
common value out of range, and are otherwise answered OK with one result a member: the reason of its grant check, or what the
request does to it. Targets go to the members in ascending order. AXIS_DUTY carries AUTO 0 and MANUAL 1, AXIS_JOG UP 0 and DOWN
1 (10.1; log 11). -/
def Sys2Proof.Claims.GrantRequestsRunTheirMembers : Prop :=
  (∀ (axes : AxisSet) (grant : Nat) (c : Instr) (f : AxisNo → State → State × MemberResult) (s : State),
    running s → grantRequest axes grant c f →
    let r := s.received c
    (axes = 0 ∨ grant = 0 ∨ 256 ≤ grant → exec c s = .next (r.refuse .badValue))
    ∧ (axes ≠ 0 → 1 ≤ grant → grant ≤ 255 → exec c s = .next (answeredInTurn
      (underGrant (fun k s => s.grantCheckAxis grant k) f) (axisMembers axes) r)))
  ∧ ∀ (axes : AxisSet) (grant x : Nat) (s : State), running s → axes ≠ 0 → 1 ≤ grant → grant ≤ 255 →
    (2 ≤ x → exec (.axisDuty axes grant x) s = .next ((s.received (.axisDuty axes grant x)).refuse .badValue)
      ∧ exec (.axisJog axes grant x) s = .next ((s.received (.axisJog axes grant x)).refuse .badValue))
    ∧ (x = 0 ∨ 5000 < x → exec (.valveTest axes grant x) s =
      .next ((s.received (.valveTest axes grant x)).refuse .badValue))

/-- Requests on axis sets, by level and by grant, run their members in turn: all of AxisSetRequestsRunTheirMembers and
GrantRequestsRunTheirMembers. -/
def Obligations.SetRequestsRunTheirMembers : Prop :=
  AxisSetRequestsRunTheirMembers ∧ GrantRequestsRunTheirMembers

/-- VALVE_TEST_EXPIRY at the end of a valve test sets VALVE low, counts one valve test on the axis's account and posts AXIS_AT_REST
with cause COMPLETE when the flag is set; before that time (log 2), and with no test, nothing changes. -/
def Sys2Proof.Claims.ValveTestEndsAtItsTime : Prop :=
  ∀ (k : AxisNo) (s : State), running s →
    let c := Instr.valveTestExpiry k
    let a := s.axis k
    (∀ t, a.valveTestEnd = some t → t ≤ s.tmu.now → exec c s = .next (notifying
      (sending (s.received c) [.accountCount (.axis k)]) k { a with valve := false, valveTestEnd := none } .complete))
    ∧ ((a.valveTestEnd = none ∨ ∃ t, a.valveTestEnd = some t ∧ s.tmu.now < t) → exec c s = .next (s.received c))

/-- A move's first pulse is at the start speed, a pulse moves the axis by one, a move completes by its kind: all of
TheFirstPulseGoesOutAtTheStartSpeed, PulseMovesTheAxisByOne, MovesCompleteByTheirKind and ValveTestEndsAtItsTime. -/
def Obligations.MovesRunPulseByPulseToTheirEnd : Prop :=
  TheFirstPulseGoesOutAtTheStartSpeed ∧ PulseMovesTheAxisByOne ∧ MovesCompleteByTheirKind ∧ ValveTestEndsAtItsTime

/-! ## Fill cycles and recipes (chapter 3) -/

/-- An axis eligible to take a new record (R52). -/
def Sys2Proof.Claims.mayTake (a : Axis) : Prop :=
  a.duty = .auto ∧ a.retire = .inService ∧ a.motion ∈ [Motion.idle, .armed, .lowering, .filling, .raising]
    ∧ a.assignments.length < 2 ∧ a.binding = .up

/-- A new record goes to the first eligible axis from the assignment pointer on, in ascending number and from 7 to 0: the
assignment joins its list with start pitch infeed pitch plus S, an IDLE axis becomes ARMED, the pointer goes to the axis after
it, and the fill axis is reported. With no eligible axis the pointer stays and NOT_FILLED is reported. Nothing else changes. -/
def Obligations.ArbiterGivesTheRecordInRotation : Prop :=
  ∀ (serial : Nat) (recipe : RecipeNo) (infeed : Pitch) (s : State), running s →
    let c := Instr.assignmentArbiter serial recipe infeed
    let r := s.received c
    (∀ i : AxisNo, let k := s.fmu.pointer + i
      let a := s.axis k
      mayTake a → (∀ j : AxisNo, j < i → ¬ mayTake (s.axis (s.fmu.pointer + j))) →
      let a' := { a with
        assignments := a.assignments ++ [⟨serial, infeed + BitVec.ofNat 32 s.cfg.axes[k].startOffset, recipe⟩]
        motion := if a.motion = .idle then .armed else a.motion }
      exec c s = .next (sending { r with fmu := { s.fmu with axes := s.fmu.axes.set k a', pointer := k + 1 } }
        [.fillReport serial (.axis k)]))
    ∧ ((∀ k : AxisNo, ¬ mayTake (s.axis k)) → exec c s = .next (sending r [.fillReport serial (.result .notFilled)]))

/-- The trim index in use: the pinned index in PINNED mode; in AUTO mode the temperature divided by 20, rounded down and held to
0 to 31, and 0 while it is absent (R65). -/
def Sys2Proof.Claims.indexInUse (c : Settings) (temperature : Option Int) (i : Nat) : Prop :=
  (c.trimMode = .pinned ∧ i = c.pinnedIndex)
  ∨ (c.trimMode = .auto ∧ temperature = none ∧ i = 0)
  ∨ (∃ t, c.trimMode = .auto ∧ temperature = some t
      ∧ ((t < 0 ∧ i = 0) ∨ (0 ≤ t ∧ t < 640 ∧ (i : Int) * 20 ≤ t ∧ t < (i + 1) * 20) ∨ (640 ≤ t ∧ i = 31)))

/-- The effective dwell: the dwell base, with the trim at the index in use when the recipe's trim enable is on, raised to 10 ms
(R65). -/
def Sys2Proof.Claims.dwellOf (c : Settings) (temperature : Option Int) (r : Recipe) (d : Nat) : Prop :=
  ∃ i : Nat, ∃ h : i < 32, indexInUse c temperature i
    ∧ (d : Int) = max 10 ((r.dwellBase : Int) + if r.trimEnable then c.trims[i] else 0)

/-- FILLING begins with VALVE high and a dwell end of the current run time plus the effective dwell: the dwell base plus, with trim
enable on, the trim at the index in use, raised to 10 ms. -/
def Sys2Proof.Claims.FillingRunsTheEffectiveDwell : Prop :=
  ∀ (k : AxisNo) (s : State) (f : Fill) (d : Nat), (s.axis k).fill = some f →
    dwellOf s.cfg s.fmu.temperature s.cfg.recipes[f.recipe] d →
    s.beginSegment k .filling
      = withAxis s k { s.axis k with valve := true, dwellEnd := some (s.tmu.now + d * 1000) }

/-- The hold list has an entry of a watch for a phase. -/
def Sys2Proof.Claims.holdsAt (a : Axis) (w : WatchNo) (phase : FillPhase) : Prop := ⟨w, phase⟩ ∈ a.holdList

/-- The axis as it enters a phase: the segment's motion state, no excluded watches, and what holds it (R57). -/
def Sys2Proof.Claims.entered (a : Axis) (phase : FillPhase) (held : Option WatchNo) : Axis :=
  { a with motion := segmentMotion phase, excluded := 0, held := held }

/-- The axis at the end of its fill: the fill ends, its assignment leaves when the closing mark is clear, the axis is ARMED with an
assignment left and IDLE without, and a DRAINING axis with an empty list is RETIRED (R61). -/
def Sys2Proof.Claims.fillEnded (a : Axis) (f : Fill) : Axis :=
  let rest := if f.closing then a.assignments else a.assignments.filter fun x => x.serial != f.serial
  { atRestIn a (if rest = [] then .idle else .armed) with
    assignments := rest, fill := none, retire := if rest = [] ∧ a.retire = .draining then .retired else a.retire }

/-- The state after a raise completes: OK is reported when the closing mark is clear, and one fill cycle is counted (R61). -/
def Sys2Proof.Claims.raised (s : State) (k : AxisNo) (f : Fill) : State :=
  let a := s.axis k
  sending (withAxis s k (fillEnded a f))
    ((if f.closing then [] else [.fillReport f.serial (.result .ok)]) ++ [.accountCount (.axis k)]
      ++ (if a.duty = .manual then [.closingReport (.atRest k (fillEnded a f).motion)] else []))

/-- At a phase entry the axis takes the segment's motion state and empties the excluded watches. The lowest watch in the hold
list for the phase holds it and no segment begins; with none, and at a closing RAISING entry whatever the list holds, the
segment begins: LOWERING by the stroke, RAISING by the position, and at once complete when that is 0. Either way the entry is
reported to the ACU with the holder, before what the segment reports (log 37). -/
def Sys2Proof.Claims.PhaseEntriesHoldOrBegin : Prop :=
  ∀ (k : AxisNo) (phase : FillPhase) (s : State) (f : Fill), (s.axis k).fill = some f →
    let a := s.axis k
    let recipe := s.cfg.recipes[f.recipe]
    let closingRaise := f.closing = true ∧ phase = .raising
    let free := sending (withAxis s k (entered a phase none)) [.acuReport (.phaseEntry k phase f.serial none)]
    (∀ w : WatchNo, ¬ closingRaise → holdsAt a w phase → (∀ v : WatchNo, v < w → ¬ holdsAt a v phase) →
      s.phaseEntry k phase
        = sending (withAxis s k (entered a phase (some w))) [.acuReport (.phaseEntry k phase f.serial (some w))])
    ∧ (closingRaise ∨ (∀ w : WatchNo, ¬ holdsAt a w phase) → s.phaseEntry k phase = free.beginSegment k phase)
    ∧ (a.motion = .lowering →
      s.beginSegment k .lowering = unlessLimit (withAxis s k (begun a true (some recipe.stroke) recipe.profile false)) k)
    ∧ (∀ x : Int, a.motion = .raising → a.position = some x → x ≠ 0 →
      s.beginSegment k .raising = unlessLimit (withAxis s k (begun a false (some x.natAbs) recipe.profile false)) k)
    ∧ (a.position = some 0 → s.beginSegment k .raising = raised s k f)

/-- Phase entries hold the axis or begin the segment, and FILLING runs the effective dwell: all of FillingRunsTheEffectiveDwell
and PhaseEntriesHoldOrBegin. -/
def Obligations.PhaseEntriesBeginTheSegments : Prop :=
  FillingRunsTheEffectiveDwell ∧ PhaseEntriesHoldOrBegin

/-- The dwell's end closes the valve and makes the phase entry into RAISING; the end of LOWERING, at rest, makes the phase entry
into FILLING, or into RAISING when the fill is closing; the end of RAISING ends the fill. Before the dwell end (log 2), and with
none, nothing changes. -/
def Sys2Proof.Claims.FillSegmentsFollowOneAnother : Prop :=
  ∀ (k : AxisNo) (s : State), running s →
    let a := s.axis k
    let r := s.received (.dwellExpiry k)
    let m := s.received (.moveComplete k)
    (∀ t, a.dwellEnd = some t → t ≤ s.tmu.now →
      exec (.dwellExpiry k) s = .next ((withAxis r k { a with valve := false, dwellEnd := none }).phaseEntry k .raising))
    ∧ ((a.dwellEnd = none ∨ ∃ t, a.dwellEnd = some t ∧ s.tmu.now < t) → exec (.dwellExpiry k) s = .next r)
    ∧ (∀ f, a.profile ≠ none → a.remaining = some 0 → a.motion = .lowering → a.fill = some f → a.duty = .auto →
      exec (.moveComplete k) s = .next ((withAxis m k (atRestIn a .lowering)).phaseEntry k
        (if f.closing then .raising else .filling)))
    ∧ (∀ f, a.profile ≠ none → a.remaining = some 0 → a.motion = .raising → a.fill = some f →
      exec (.moveComplete k) s = .next (raised m k f))

/-- The axis with the closing mark set, the hold released and the excluded watches emptied (R62, R64). -/
def Sys2Proof.Claims.closed (a : Axis) (f : Fill) : Axis :=
  { a with fill := some { f with closing := true }, held := none, excluded := 0 }

/-- The handling of the motion state at the early end of a fill, by the table of R62. -/
def Sys2Proof.Claims.closes (s : State) (k : AxisNo) (f : Fill) (t : State) : Prop :=
  let a := s.axis k
  let s1 := sending (withAxis s k (closed a f)) (releasing k a.held)
  let moving := a.profile ≠ none
  (a.motion = .lowering ∧ moving ∧ 0 < a.needed
    ∧ t = unlessLimit (withAxis s1 k { slowing (closed a f) with motion := .lowering }) k)
  ∨ (a.motion = .lowering ∧ moving ∧ a.needed = 0 ∧ a.duty = .auto
    ∧ t = (withAxis s1 k (atRestIn (closed a f) .lowering)).phaseEntry k .raising)
  ∨ (a.motion = .lowering ∧ ¬ moving ∧ t = s1.phaseEntry k .raising)
  ∨ (a.motion = .filling
    ∧ t = (withAxis s1 k { closed a f with valve := false, dwellEnd := none }).phaseEntry k .raising)
  ∨ (a.motion = .raising ∧ moving ∧ t = s1)
  ∨ (a.motion = .raising ∧ ¬ moving ∧ t = s1.beginSegment k .raising)

/-- An axis without an assignment, which leaves a DRAINING axis with an empty list RETIRED (R54, R68). -/
def Sys2Proof.Claims.without (a : Axis) (serial : Nat) : Axis :=
  let rest := a.assignments.filter fun x => x.serial != serial
  { a with assignments := rest, retire := if rest = [] ∧ a.retire = .draining then .retired else a.retire }

/-- A window expiry, of the current fill with its closing mark clear at the start pitch plus W, reports LATE, removes the
assignment and ends the fill by the table of motion states; at any other pitch, and with no such fill, nothing changes. -/
def Sys2Proof.Claims.WindowExpiryEndsTheFillLate : Prop :=
  ∀ (k : AxisNo) (pitch : Pitch) (s : State), running s →
    let a := s.axis k
    let c := Instr.fillWindowExpiry k pitch
    (∀ f x t, a.fill = some f → f.closing = false → x ∈ a.assignments → x.serial = f.serial →
      (∀ y ∈ a.assignments, y.serial = f.serial → y = x) →
      x.startPitch + BitVec.ofNat 32 s.cfg.recipes[f.recipe].window = pitch →
      closes (sending (withAxis (s.received c) k (without a f.serial)) [.fillReport f.serial (.result .late)]) k f t →
      exec c s = .next t)
    ∧ ((a.fill = none ∨ (∃ f, a.fill = some f ∧ (f.closing = true ∨ (∀ x ∈ a.assignments, x.serial ≠ f.serial)))) →
      exec c s = .next (s.received c))
    ∧ (∀ f x, a.fill = some f → a.assignments.find? (fun y => y.serial == f.serial) = some x →
      x.startPitch + BitVec.ofNat 32 s.cfg.recipes[f.recipe].window ≠ pitch → exec c s = .next (s.received c))

/-- Fill segments follow one another, and a window expiry ends the fill LATE: all of FillSegmentsFollowOneAnother and
WindowExpiryEndsTheFillLate. -/
def Obligations.FillsRunTheirSegmentsOrEndLate : Prop :=
  FillSegmentsFollowOneAnother ∧ WindowExpiryEndsTheFillLate

/-- The FMU takes a pitch event on each axis by itself in ascending number (log 37), the window expiry first and the start
second. At its start pitch the first assignment of an ARMED axis at rest without a fill begins its fill, reported to the ACU,
with a phase entry into LOWERING after that report (log 37); any other assignment due is MISSED and leaves. One axis's part
changes no other axis, and nothing outside the FMU but the reports sent and the notices posted. -/
def Obligations.PitchEventTakesEachAxisAlone : Prop :=
  (∀ (pitch : Pitch) (records : List Announced) (s : State), running s →
    let c := Instr.fmuPitchEvent pitch records
    exec c s = .next ([(0 : AxisNo), 1, 2, 3, 4, 5, 6, 7].foldl (fun t k => t.axisPitch pitch k) (s.received c)))
  ∧ ∀ (k : AxisNo) (pitch : Pitch) (s : State),
    s.axisPitch pitch k = (s.windowExpiry k pitch).startDue k pitch
    ∧ ((∀ x ∈ (s.axis k).assignments, x.startPitch ≠ pitch) → s.startDue k pitch = s)
    ∧ (∀ x rest, (s.axis k).assignments = x :: rest → x.startPitch = pitch → (s.axis k).motion = .armed →
      (s.axis k).profile = none → (s.axis k).fill = none →
      s.startDue k pitch = (sending (withAxis s k { s.axis k with fill := some ⟨x.serial, false, x.recipe⟩ })
        [.acuReport (.fillStart k x.serial)]).phaseEntry k .lowering)
    ∧ (∀ before x after, (s.axis k).assignments = before ++ x :: after → x.startPitch = pitch →
      (∀ y ∈ before, y.startPitch ≠ pitch) →
      before ≠ [] ∨ (s.axis k).motion ≠ .armed ∨ (s.axis k).profile ≠ none ∨ (s.axis k).fill ≠ none →
      s.startDue k pitch
        = sending (withAxis s k (without (s.axis k) x.serial)) [.fillReport x.serial (.result .missed)])
    ∧ (∀ j : AxisNo, j ≠ k → (s.axisPitch pitch k).axis j = s.axis j)
    ∧ onlyChanged [.fmu, .reports, .notices] s (s.axisPitch pitch k)
    ∧ (s.axisPitch pitch k).fmu = { s.fmu with axes := (s.axisPitch pitch k).fmu.axes }

/-- What follows a release: the lowest watch of the hold list for the phase that is not excluded holds the axis, reported to the
ACU as a hold, or the segment begins (R63). -/
def Sys2Proof.Claims.consults (s : State) (k : AxisNo) (phase : FillPhase) (f : Fill) (t : State) : Prop :=
  let a := s.axis k
  let bars (w : WatchNo) : Prop := holdsAt a w phase ∧ a.excluded.getLsbD w = false
  (∃ w, bars w ∧ (∀ v, v < w → ¬ bars v)
    ∧ t = sending (withAxis s k { a with held := some w }) [.acuReport (.holdAfterRelease k phase f.serial w)])
  ∨ ((∀ w, ¬ bars w) ∧ t = (withAxis s k { a with held := none }).beginSegment k phase)

/-- The hold list of an axis gains one entry for a watch, at its end (log 11), and loses it. When the watch that loses its entry
holds the axis, and when a HOLD_RELEASE names the watch that holds it, which then joins the excluded watches, the hold list is
consulted again: another watch holds, or the segment begins. A HOLD_RELEASE of any other watch is discarded. -/
def Obligations.HoldListChangesAndReleases : Prop :=
  ∀ (k : AxisNo) (w : WatchNo) (s : State), running s →
    let a := s.axis k
    let rest := a.holdList.filter fun e => e.watch != w
    (∀ phase, exec (.holdListAdd k w phase) s
      = .next (withAxis (s.received (.holdListAdd k w phase)) k { a with holdList := rest ++ [⟨w, phase⟩] }))
    ∧ (a.held ≠ some w →
      exec (.holdListRemove k w) s = .next (withAxis (s.received (.holdListRemove k w)) k { a with holdList := rest })
      ∧ exec (.holdRelease k w) s = .next (s.received (.holdRelease k w)))
    ∧ ∀ phase f t, a.held = some w → a.motion = segmentMotion phase → a.fill = some f →
      (consults (withAxis (s.received (.holdListRemove k w)) k { a with holdList := rest }) k phase f t →
        exec (.holdListRemove k w) s = .next t)
      ∧ (consults (withAxis (s.received (.holdRelease k w)) k { a with excluded := a.excluded ||| (1#4 <<< w.val) }) k phase
          f t → exec (.holdRelease k w) s = .next t)

/-- One axis at a departure: a queued assignment leaves; the assignment of the current fill leaves and the fill ends early; an
ARMED axis left with no assignment and no fill is IDLE, and a DRAINING one RETIRED (R64). -/
def Sys2Proof.Claims.departs (s : State) (serial : Nat) (k : AxisNo) (t : State) : Prop :=
  let a := s.axis k
  let a1 := without a serial
  ((∀ x ∈ a.assignments, x.serial ≠ serial) ∧ t = s)
  ∨ ((∃ x ∈ a.assignments, x.serial = serial) ∧ (∀ f, a.fill = some f → f.serial ≠ serial)
    ∧ t = withAxis s k { a1 with
      motion := if a1.assignments = [] ∧ a.motion = .armed ∧ a.fill = none then .idle else a.motion })
  ∨ (∃ f, (∃ x ∈ a.assignments, x.serial = serial) ∧ a.fill = some f ∧ f.serial = serial
    ∧ closes (withAxis s k a1) k f t)

/-- One axis at a line clear: every assignment leaves without a report, an ARMED axis is IDLE, a DRAINING one RETIRED, and a
fill whose closing mark is clear ends early (R64). -/
def Sys2Proof.Claims.clears (s : State) (k : AxisNo) (t : State) : Prop :=
  let a := s.axis k
  let a1 := { a with
    assignments := [], retire := if a.retire = .draining then .retired else a.retire
    motion := if a.motion = .armed ∧ a.fill = none then .idle else a.motion }
  ((∀ f, a.fill = some f → f.closing = true) ∧ t = withAxis s k a1)
  ∨ ∃ f, a.fill = some f ∧ f.closing = false ∧ closes (withAxis s k a1) k f t

/-- A departure and a line clear reach each axis in ascending number (log 37), with the effect of the rules on each. -/
def Sys2Proof.Claims.DeparturesAndClearsReachEveryAxis : Prop :=
  (∀ (serial : Nat) (s : State), running s → exec (.fmuDeparture serial) s =
    .next ([(0 : AxisNo), 1, 2, 3, 4, 5, 6, 7].foldl (fun t k => t.departAxis serial k) (s.received (.fmuDeparture serial))))
  ∧ (∀ s : State, running s → exec .fmuLineClear s =
    .next ([(0 : AxisNo), 1, 2, 3, 4, 5, 6, 7].foldl State.clearAxis (s.received .fmuLineClear)))
  ∧ ∀ (k : AxisNo) (s t : State),
    (∀ serial, departs s serial k t → s.departAxis serial k = t) ∧ (clears s k t → s.clearAxis k = t)

/-- ACCOUNT_ALARM_ENTRY makes an IN_SERVICE axis DRAINING, or RETIRED when its list is empty, and changes no other axis;
ACCOUNT_ALARM_EXIT makes the axis IN_SERVICE; both change nothing else. -/
def Sys2Proof.Claims.AccountAlarmsDrainAndReturnAnAxis : Prop :=
  ∀ (k : AxisNo) (s : State), running s →
    let a := s.axis k
    let r := s.received (.accountAlarmEntry k)
    (a.retire = .inService → exec (.accountAlarmEntry k) s
      = .next (withAxis r k { a with retire := if a.assignments = [] then .retired else .draining }))
    ∧ (a.retire ≠ .inService → exec (.accountAlarmEntry k) s = .next r)
    ∧ exec (.accountAlarmExit k) s = .next (withAxis (s.received (.accountAlarmExit k)) k { a with retire := .inService })

/-- Departures, line clears and account alarms reach the axes: all of DeparturesAndClearsReachEveryAxis and
AccountAlarmsDrainAndReturnAnAxis. -/
def Obligations.DeparturesClearsAndAccountsReachTheAxes : Prop :=
  DeparturesAndClearsReachEveryAxis ∧ AccountAlarmsDrainAndReturnAnAxis

/-- The values RECIPE_WRITE may set (R49, R50). -/
def Sys2Proof.Claims.recipeFits (v : RecipeValues) : Prop :=
  1 ≤ v.stroke ∧ v.stroke ≤ 2000000 ∧ 10 ≤ v.startSpeed ∧ v.startSpeed ≤ 10000 ∧ v.startSpeed ≤ v.topSpeed
    ∧ v.topSpeed ≤ 100000 ∧ 1 ≤ v.acceleration ∧ v.acceleration ≤ 10000 ∧ 10 ≤ v.dwellBase ∧ v.dwellBase ≤ 10000
    ∧ v.trimEnable ≤ 1 ∧ 1 ≤ v.window ∧ v.window ≤ 32 ∧ v.cameras < (64#8 : CameraSet)

/-- RECIPE_WRITE at level 2 is refused BAD_VALUE for a number above 15 or a value out of range and BUSY while a record in the
track carries the recipe (trim enable is 1 for on and 0 for off: log 11); accepted, it replaces the recipe, marks the store
dirty, reports the camera set of the active recipe to the CTU, and is answered OK. RECIPE_SELECT at level 1 makes a recipe from
0 to 15 active, reports its camera set, sets no dirty flag, and is answered OK. -/
def Sys2Proof.Claims.RecipesAreWrittenAndSelected : Prop :=
  (∀ (number : Nat) (v : RecipeValues) (s : State), running s → 2 ≤ s.acu.level →
    let c := Instr.recipeWrite number v
    let r := s.received c
    (16 ≤ number ∨ ¬ recipeFits v → exec c s = .next (r.refuse .badValue))
    ∧ ∀ h : number < 16, recipeFits v →
      let n : RecipeNo := ⟨number, h⟩
      ((∃ b ∈ s.ltr.track, b.recipe = n) → exec c s = .next (r.refuse .busy))
      ∧ ((∀ b ∈ s.ltr.track, b.recipe ≠ n) →
        let recipe : Recipe :=
          ⟨v.stroke, ⟨v.startSpeed, v.topSpeed, v.acceleration⟩, v.dwellBase, v.trimEnable == 1, v.window, v.cameras⟩
        exec c s = .next ((sending (withSettings r { s.cfg with recipes := s.cfg.recipes.set n recipe })
          (if n = s.fmu.active then [.activeCameraSetReport v.cameras] else [])).replyOk [])))
  ∧ ∀ (number : Nat) (s : State), running s → 1 ≤ s.acu.level →
    let c := Instr.recipeSelect number
    let r := s.received c
    (16 ≤ number → exec c s = .next (r.refuse .badValue))
    ∧ ∀ h : number < 16, exec c s = .next ((sending { r with fmu := { s.fmu with active := ⟨number, h⟩ } }
        [.activeCameraSetReport s.cfg.recipes[number].cameras]).replyOk [])

/-- PRODUCT_TEMP at level 1 takes a temperature from -200 to +1,000, moves the deadline to 60 s from now and makes TEMP_STALE
inactive, and is refused BAD_VALUE, with nothing changed, outside that range. At the deadline TEMP_STALE becomes active; before
it (log 2) nothing changes. -/
def Sys2Proof.Claims.ProductTemperatureAndItsDeadline : Prop :=
  (∀ (x : Int) (s : State), running s → 1 ≤ s.acu.level →
    let c := Instr.productTemp x
    let r := s.received c
    (x < -200 ∨ 1000 < x → exec c s = .next (r.refuse .badValue))
    ∧ (-200 ≤ x → x ≤ 1000 → exec c s = .next ((sending
      { r with fmu := { s.fmu with temperature := some x, temperatureDeadline := s.tmu.now + 60000000, tempStale := false } }
      (change .tempStale s.fmu.tempStale false)).replyOk [])))
  ∧ ∀ s : State, running s →
    let r := s.received .tempDeadlineExpiry
    (s.fmu.temperatureDeadline ≤ s.tmu.now → exec .tempDeadlineExpiry s
      = .next (sending { r with fmu := { s.fmu with tempStale := true } } (change .tempStale s.fmu.tempStale true)))
    ∧ (s.tmu.now < s.fmu.temperatureDeadline → exec .tempDeadlineExpiry s = .next r)

/-- TRIM_WRITE at level 2 writes its trims from its first index on, and is refused BAD_VALUE, writing nothing, when there is
none, when they run past index 31 or when one is outside -500 to +500 ms. TRIM_MODE at level 2 sets AUTO, keeping the pinned
index, or PINNED with an index from 0 to 31; AUTO with an index in range leaves the index unused, and PINNED without one is
refused BAD_VALUE (log 11). Accepted, both mark the store dirty and are answered OK. -/
def Sys2Proof.Claims.TrimsAreWrittenWhole : Prop :=
  (∀ (first : Nat) (trims : List Int) (s : State), running s → 2 ≤ s.acu.level →
    let c := Instr.trimWrite first trims
    let r := s.received c
    let fits := 1 ≤ trims.length ∧ first + trims.length ≤ 32 ∧ ∀ t ∈ trims, -500 ≤ t ∧ t ≤ 500
    (¬ fits → exec c s = .next (r.refuse .badValue))
    ∧ (fits → ∃ table : Vector Int 32,
      exec c s = .next ((withSettings r { s.cfg with trims := table }).replyOk [])
      ∧ ∀ i : Fin 32, table[i] = if first ≤ i.val ∧ i.val < first + trims.length then trims.getD (i.val - first) 0
        else s.cfg.trims[i]))
  ∧ ∀ (mode : Nat) (index : Option Nat) (s : State), running s → 2 ≤ s.acu.level →
    let c := Instr.trimMode mode index
    let r := s.received c
    (2 ≤ mode ∨ (∃ i, index = some i ∧ 32 ≤ i) ∨ (mode = 1 ∧ index = none) → exec c s = .next (r.refuse .badValue))
    ∧ (mode = 0 → (∀ i, index = some i → i ≤ 31) → exec c s = .next ((withSettings r { s.cfg with trimMode := .auto }).replyOk []))
    ∧ (∀ i, mode = 1 → index = some i → i ≤ 31 →
      exec c s = .next ((withSettings r { s.cfg with trimMode := .pinned, pinnedIndex := i }).replyOk []))

/-- Recipes, trims and the product temperature are written by their requests: all of RecipesAreWrittenAndSelected,
ProductTemperatureAndItsDeadline and TrimsAreWrittenWhole. -/
def Obligations.RecipesTrimsAndTemperature : Prop :=
  RecipesAreWrittenAndSelected ∧ ProductTemperatureAndItsDeadline ∧ TrimsAreWrittenWhole

/-! ## Inspection cameras (chapter 4) -/

/-- A verdict as the CTU reports it, to the LTR and to the ACU (R78). -/
def Sys2Proof.Claims.verdictSent (serial : Nat) (k : CameraNo) (v : Verdict) : List Instr :=
  [.verdictReport serial k v, .acuReport (.verdict serial k v)]

/-- A camera counter gone up by a number of counts: it stays at 4,294,967,295 (R92). The counters are in the order of R92:
triggers, OK, NG, TIMEOUT, OVERRUN, FAULT, LATE, STRAY. -/
def Sys2Proof.Claims.counted (c : Camera) (i : Fin 8) (n : Nat) : Vector Nat 8 :=
  if n = 0 then c.counters else c.counters.set i (min (c.counters[i] + n) 4294967295)

/-- A counter below its top. -/
def Sys2Proof.Claims.inRange (c : Camera) (i : Fin 8) : Prop := c.counters[i] ≤ 4294967295

/-- CAMERA_OFFLINE's condition (R74). -/
def Sys2Proof.Claims.anyOffline (x : Ctu) : Bool :=
  decide (∃ k : CameraNo, x.activeSet.getLsbD k = true ∧ x.cameras[k].state = .offline)

/-- CAMERA_FAULTED's condition (R74). -/
def Sys2Proof.Claims.anyFaulted (x : Ctu) : Bool := decide (∃ k : CameraNo, x.cameras[k].state = .faulted)

/-- The changes of the two camera sources between two states of the CTU (R74). -/
def Sys2Proof.Claims.cameraChanges (before after : Ctu) : List Instr :=
  change .cameraOffline (anyOffline before) (anyOffline after) ++ change .cameraFaulted (anyFaulted before) (anyFaulted after)

/-- A change of a camera's state to another, on a channel record given: it is posted with its cause, and the two fault sources
follow in the order R74 names them (log 37). -/
def Sys2Proof.Claims.becomes (s : State) (k : CameraNo) (c : Camera) (new : CameraState) (cause : CameraCause) : State :=
  let t := (withCamera s k { c with state := new }).post (.cameraState k c.state new cause)
  sending t (cameraChanges s.ctu t.ctu)

/-- The entries of the pending list that are resolved with a verdict: each one that names a serial is reported, oldest first. -/
def Sys2Proof.Claims.resolvedReports (k : CameraNo) (v : Verdict) (entries : List PendingEntry) : List Instr :=
  entries.flatMap fun e => match e.serial with
    | some n => verdictSent n k v
    | none => []

/-- How many entries name a serial. -/
def Sys2Proof.Claims.named (entries : List PendingEntry) : Nat := (entries.filter fun e => e.serial.isSome).length

/-- The stale tag set with the tags of entries added (R79, R84 to R86). -/
def Sys2Proof.Claims.staleWith (c : Camera) (entries : List PendingEntry) (stale : TagSet) : Prop :=
  ∀ t : Tag, stale.getLsbD t = (c.stale.getLsbD t || entries.any fun e => e.tag == t)

/-- The next tag is free: neither pending nor stale (R80). -/
def Sys2Proof.Claims.tagFree (c : Camera) : Prop :=
  c.stale.getLsbD c.nextTag = false ∧ ∀ e ∈ c.pending, e.tag ≠ c.nextTag

/-- A pulse with the next tag: the tag lines, TRIG for 20 us, the triggers counter, the entry at the newest end, the next tag,
and one trigger on the camera's account (R72, R80, R90; while TRIG is high from the pulse before: log 33). -/
def Sys2Proof.Claims.pulses (s : State) (k : CameraNo) (c : Camera) (serial : Option Nat) (pitch : Pitch)
    (expiry : Option Pitch) : State :=
  sending (withCamera s k { c with
    tagLines := c.nextTag, trig := true, trigEnd := some (s.tmu.now + 20), counters := counted c 0 1
    pending := c.pending ++ [⟨serial, c.nextTag, pitch, expiry, s.stamp⟩], nextTag := c.nextTag + 1 })
    [.accountCount (.camera k)]

/-- A line trigger makes the scheduled trigger absent and reports the stage to the ACU; then OFFLINE gives verdict OFFLINE, TEST
gives TESTING, FAULTED gives FAULT and counts it, an active CFLT faults the camera with FAULT for the record and every pending
entry, a next tag that is pending or stale gives OVERRUN and counts it, and otherwise a pulse is issued and an entry made, also
while TRIG is high from the pulse before (log 33). -/
def Obligations.LineTriggerTakesTheFirstCase : Prop :=
  ∀ (k : CameraNo) (s : State) (sc : Scheduled), (s.camera k).scheduled = some sc →
    let c := { s.camera k with scheduled := none }
    let r := sending (withCamera s k c) [.acuReport (.lineStage sc.serial k)]
    let gives (v : Verdict) : State := sending r (verdictSent sc.serial k v)
    (c.state = .offline → s.takeTrigger k = gives .offline)
    ∧ (c.state = .test → s.takeTrigger k = gives .testing)
    ∧ (c.state = .faulted →
      s.takeTrigger k = withCamera (gives .fault) k { c with counters := counted c 5 1 })
    ∧ (∀ stale, c.state = .ready → s.inputs.cflt.getLsbD k = true → staleWith c c.pending stale → inRange c 5 →
      s.takeTrigger k = withCamera
        (sending (becomes r k c .faulted .cflt)
          (verdictSent sc.serial k .fault ++ resolvedReports k .fault c.pending)) k
        { c with
          state := .faulted, pending := [], stale := stale, counters := counted c 5 (1 + named c.pending) })
    ∧ (c.state = .ready → s.inputs.cflt.getLsbD k = false → ¬ tagFree c →
      s.takeTrigger k = withCamera (gives .overrun) k { c with counters := counted c 4 1 })
    ∧ (c.state = .ready → s.inputs.cflt.getLsbD k = false → tagFree c → s.takeTrigger k
      = pulses r k c (some sc.serial) sc.pitch (some (sc.pitch + BitVec.ofNat 32 s.cfg.cameras[k].window)))

/-- The effective step offset: c, or N - 1 while c is N or more (R75). -/
def Sys2Proof.Claims.stepOffset (s : State) (k : CameraNo) : Nat :=
  if s.cfg.cameras[k].stepOffset < s.cfg.geometry.stepsPerPitch then s.cfg.cameras[k].stepOffset
  else s.cfg.geometry.stepsPerPitch - 1

/-- A pitch event expires, schedules and, with effective step offset 0, triggers on each camera by itself, in ascending number
(log 37); a change of the step-in-pitch count triggers each camera whose effective step offset is that count, and a change to 0
none. A window expiry reports TIMEOUT for each entry whose expiry pitch has come, oldest first, counts it, and makes its tag
stale. Without a scheduled trigger none is taken; with no record standing at C one scheduled earlier stays (log 28). -/
def Obligations.PitchEventExpiresSchedulesTriggers : Prop :=
  (∀ (pitch : Pitch) (records : List Announced) (s : State), running s →
    exec (.ctuPitchEvent pitch records) s = .next ([(0 : CameraNo), 1, 2, 3, 4, 5].foldl
      (fun t k => t.cameraPitch pitch records k) (s.received (.ctuPitchEvent pitch records))))
  ∧ (∀ (n : Nat) (s : State), running s → exec (.lineTrigger n) s
    = .next (if n = 0 then s.received (.lineTrigger n) else [(0 : CameraNo), 1, 2, 3, 4, 5].foldl
      (fun t k => if stepOffset t k = n then t.takeTrigger k else t) (s.received (.lineTrigger n))))
  ∧ ∀ (k : CameraNo) (pitch : Pitch) (s : State),
    let c := s.camera k
    let due := c.pending.filter fun e => e.expiryPitch == some pitch
    (running s → exec (.verdictWindowExpiry k pitch) s
      = .next ((s.received (.verdictWindowExpiry k pitch)).expireWindows k pitch))
    ∧ (∀ stale, due ≠ [] → staleWith c due stale → inRange c 3 →
      s.expireWindows k pitch = withCamera (sending s (resolvedReports k .timeout due)) k { c with
        pending := c.pending.filter fun e => e.expiryPitch != some pitch
        stale := stale, counters := counted c 3 due.length })
    ∧ (due = [] → s.expireWindows k pitch = s)
    ∧ (c.scheduled = none → s.takeTrigger k = s)
    ∧ (∀ records : List Announced,
      let stands (a : Announced) : Prop :=
        a.position = s.cfg.cameras[k].pitchOffset ∧ s.cfg.recipes[a.recipe].cameras.getLsbD k = true
      let t := s.expireWindows k pitch
      let finish (x : State) : State := if stepOffset s k = 0 then x.takeTrigger k else x
      (∀ before a after, records = before ++ a :: after → stands a → (∀ b ∈ before, ¬ stands b) →
        s.cameraPitch pitch records k
          = finish (withCamera t k { t.camera k with scheduled := some ⟨a.serial, pitch⟩ }))
      ∧ ((∀ a ∈ records, ¬ stands a) → s.cameraPitch pitch records k = finish t))

/-- A verdict arrival is resolved by its tag in every camera state: bound to the pending entry with it, which leaves and is
reported and counted as OK or NG, or posted as TEST_VERDICT for a test entry; LATE for a stale tag, which is freed and counted;
STRAY otherwise, counted and posted. The pulse's end sets TRIG low at its time, with no effect before it (log 2), and keeps the
tag lines. -/
def Obligations.VerdictArrivalsResolveByTag : Prop :=
  (∀ (k : CameraNo) (ng : Bool) (tag : Tag) (s : State), running s →
    let m := Instr.verdictArrival k ng tag
    let r := s.received m
    let c := s.camera k
    let v : Verdict := if ng then .ng else .ok
    (∀ before e after n, c.pending = before ++ e :: after → e.tag = tag → (∀ x ∈ before ++ after, x.tag ≠ tag) →
      e.serial = some n → exec m s = .next (withCamera (sending r (verdictSent n k v)) k { c with
        pending := before ++ after, counters := counted c (if ng then 2 else 1) 1 }))
    ∧ (∀ before e after, c.pending = before ++ e :: after → e.tag = tag → (∀ x ∈ before ++ after, x.tag ≠ tag) →
      e.serial = none → exec m s
        = .next ((withCamera r k { c with pending := before ++ after }).post (.testVerdict k tag ng e.stamp)))
    ∧ ((∀ e ∈ c.pending, e.tag ≠ tag) → c.stale.getLsbD tag = true → exec m s = .next (withCamera r k { c with
        stale := c.stale &&& ~~~(1#4 <<< tag.val), counters := counted c 6 1 }))
    ∧ ((∀ e ∈ c.pending, e.tag ≠ tag) → c.stale.getLsbD tag = false → exec m s
      = .next ((withCamera r k { c with counters := counted c 7 1 }).post (.strayVerdict k tag ng))))
  ∧ ∀ (k : CameraNo) (s : State), running s →
    let m := Instr.triggerPulseEnd k
    (∀ t, (s.camera k).trigEnd = some t → t ≤ s.tmu.now →
      exec m s = .next (withCamera (s.received m) k { s.camera k with trig := false, trigEnd := none }))
    ∧ ((s.camera k).trigEnd = none ∨ (∃ t, (s.camera k).trigEnd = some t ∧ s.tmu.now < t) →
      exec m s = .next (s.received m))

/-- The loss of a camera's binding makes it OFFLINE, ends its test grant, and resolves every pending entry, reporting OFFLINE
for those that name a serial; an OFFLINE camera and a binding that comes UP only record it. A report of the active recipe's
camera set is kept, and the two fault sources follow it. -/
def Sys2Proof.Claims.CameraBindingsAndTheActiveSet : Prop :=
  (∀ (k : CameraNo) (s : State), running s →
    let c := s.camera k
    let down := Instr.cameraBindingChange k .down
    let up := Instr.cameraBindingChange k .up
    (c.binding = .down ∨ c.state = .offline →
      exec down s = .next (withCamera (s.received down) k { c with binding := .down }))
    ∧ (∀ stale, c.binding = .up → c.state ≠ .offline → staleWith c c.pending stale →
      let lost := { c with binding := .down, testGrant := none }
      exec down s = .next (withCamera
        (sending (becomes (s.received down) k lost .offline .bindingLost) (resolvedReports k .offline c.pending)) k
        { lost with state := .offline, pending := [], stale := stale }))
    ∧ exec up s = .next (withCamera (s.received up) k { c with binding := .up }))
  ∧ ∀ (cameras : CameraSet) (s : State), running s →
    let m := Instr.activeCameraSetReport cameras
    let ctu := { s.ctu with activeSet := cameras }
    exec m s = .next (sending { s.received m with ctu := ctu } (cameraChanges s.ctu ctu))

/-- A camera leaves TEST: its test entries are dropped and their tags stale, its test grant is absent, and it is READY (R89). -/
def Sys2Proof.Claims.leavesTest (s : State) (k : CameraNo) (cause : CameraCause) (t : State) : Prop :=
  let c := s.camera k
  ∃ stale, staleWith c (c.pending.filter fun e => e.serial.isNone) stale
    ∧ t = becomes s k { c with
      pending := c.pending.filter fun e => e.serial.isSome, stale := stale, testGrant := none } .ready cause

/-- A departure removes each camera's pending entries that name the serial, and a line clear all of them with the scheduled
trigger; the tags removed are stale, no verdict is reported, and nothing else changes. At the closing start of a grant each
camera in TEST under it leaves TEST, in ascending number (log 37), with cause GRANT_CLOSE, and no other camera changes. -/
def Sys2Proof.Claims.DeparturesClearsAndClosingsAtTheCameras : Prop :=
  (∀ (serial : Nat) (s : State), running s →
    ∃ t, exec (.ctuDeparture serial) s = .next { s.received (.ctuDeparture serial) with ctu := { s.ctu with cameras := t } }
      ∧ ∀ k : CameraNo, ∃ stale, staleWith (s.camera k) ((s.camera k).pending.filter fun e => e.serial == some serial) stale
        ∧ t[k] = { s.camera k with
          pending := (s.camera k).pending.filter fun e => e.serial != some serial, stale := stale })
  ∧ (∀ s : State, running s →
    ∃ t, exec .ctuLineClear s = .next { s.received .ctuLineClear with ctu := { s.ctu with cameras := t } }
      ∧ ∀ k : CameraNo, ∃ stale, staleWith (s.camera k) (s.camera k).pending stale
        ∧ t[k] = { s.camera k with pending := [], stale := stale, scheduled := none })
  ∧ (∀ (grant : Nat) (s : State), running s → exec (.ctuGrantClosingStart grant) s
    = .next ([(0 : CameraNo), 1, 2, 3, 4, 5].foldl
      (fun t k => if (t.camera k).state = .test ∧ (t.camera k).testGrant = some grant then t.leaveTest k .grantClose else t)
      (s.received (.ctuGrantClosingStart grant))))
  ∧ ∀ (k : CameraNo) (cause : CameraCause) (s : State), (s.camera k).state = .test →
    leavesTest s k cause (s.leaveTest k cause)

/-- Bindings, the active set, departures, clears and closings at the cameras: all of CameraBindingsAndTheActiveSet and
DeparturesClearsAndClosingsAtTheCameras. -/
def Obligations.BindingsDeparturesAndClosingsAtTheCameras : Prop :=
  CameraBindingsAndTheActiveSet ∧ DeparturesClearsAndClosingsAtTheCameras

/-- One member of CAMERA_REARM, CAMERA_TEST and TEST_TRIGGER: a rearm takes any camera bound, with CFLT inactive and not in
TEST, to READY with no entry, no stale tag and next tag 0, reporting FAULT for its entries; ON takes a READY camera into TEST
under the grant, is refused STATE in TEST under another (log 31), and OFF takes it out; a test trigger faults on CFLT, is an
OVERRUN on a taken tag, and otherwise pulses (also while TRIG is high: log 33) with a test entry and
answers the tag. -/
def Sys2Proof.Claims.CameraMembers : Prop :=
  ∀ (k : CameraNo) (s : State),
    let c := s.camera k
    let clean := { c with pending := [], stale := 0, nextTag := 0, counters := counted c 5 (named c.pending) }
    let reports := resolvedReports k .fault c.pending
    let mine (g : Nat) : Prop := c.state = .test ∧ c.testGrant = some g
    (c.binding = .down ∨ s.inputs.cflt.getLsbD k = true ∨ c.state = .test → rearmMember k s = (s, .refused .state))
    ∧ (c.binding = .up → s.inputs.cflt.getLsbD k = false → c.state = .ready → inRange c 5 →
      rearmMember k s = (withCamera (sending s reports) k clean, .ok))
    ∧ (c.binding = .up → s.inputs.cflt.getLsbD k = false → c.state = .offline ∨ c.state = .faulted → inRange c 5 →
      rearmMember k s = (becomes (sending s reports) k clean .ready .rearm, .ok))
    ∧ (∀ g, c.state = .ready → testMember g true k s = (becomes s k { c with testGrant := some g } .test .testOn, .ok))
    ∧ (∀ g, mine g → testMember g true k s = (s, .ok))
    ∧ (∀ g, c.state = .offline ∨ c.state = .faulted → testMember g true k s = (s, .refused .state))
    ∧ (∀ g, c.state = .test → c.testGrant ≠ some g → testMember g true k s = (s, .refused .state))
    ∧ (∀ g, c.state = .test → (testMember g false k s).2 = .ok ∧ leavesTest s k .testOff (testMember g false k s).1)
    ∧ (∀ g, c.state ≠ .test → testMember g false k s = (s, .ok))
    ∧ (∀ g, ¬ mine g → testTriggerMember g k s = (s, .refused .state, 0))
    ∧ (∀ g stale, mine g → s.inputs.cflt.getLsbD k = true → staleWith c c.pending stale → inRange c 5 →
      let faulted := { c with testGrant := none }
      testTriggerMember g k s = (withCamera (sending (becomes s k faulted .faulted .cflt) reports) k
        { faulted with state := .faulted, pending := [], stale := stale, counters := counted c 5 (named c.pending) },
        .fault, 0))
    ∧ (∀ g, mine g → s.inputs.cflt.getLsbD k = false → ¬ tagFree c →
      testTriggerMember g k s = (withCamera s k { c with counters := counted c 4 1 }, .overrun, 0))
    ∧ (∀ g, mine g → s.inputs.cflt.getLsbD k = false → tagFree c →
      testTriggerMember g k s = (pulses s k c none s.ltr.pitch none, MemberResult.accepted, c.nextTag.val))

/-- CAMERA_REARM at level 1, and CAMERA_TEST and TEST_TRIGGER under a grant, are refused BAD_VALUE for a set that is empty or
names camera 6 or 7, for a grant id outside 1 to 255 or a switch in no list, CAMERA_REARM LEVEL below level 1, and are otherwise
answered OK with one result a member in ascending camera number, a failed grant check giving its reason. That a set naming
camera 6 or 7 is BAD_VALUE beside the empty set, before the level and the grant id, is the model's choice (log 12). The switch
is ON 0 or OFF 1 (10.1; log 11). -/
def Sys2Proof.Claims.CameraSetRequestsRunTheirMembers : Prop :=
  ∀ (cameras : CameraSet) (s : State), running s →
    let bad := cameras = 0 ∨ (64#8 : CameraSet) ≤ cameras
    let members := cameraMembers cameras
    let rearm := Instr.cameraRearm cameras
    (bad → exec rearm s = .next ((s.received rearm).refuse .badValue))
    ∧ (¬ bad → s.acu.level = 0 → exec rearm s = .next ((s.received rearm).refuse .level))
    ∧ (¬ bad → 1 ≤ s.acu.level → exec rearm s
      = .next (answeredInTurn (plain rearmMember) members (s.received rearm)))
    ∧ ∀ g : Nat,
      let idle := g = 0 ∨ 256 ≤ g
      let test (x : Nat) := Instr.cameraTest cameras g x
      let fire := Instr.testTrigger cameras g
      (bad ∨ idle → exec fire s = .next ((s.received fire).refuse .badValue))
      ∧ (∀ x, bad ∨ idle ∨ 2 ≤ x → exec (test x) s = .next ((s.received (test x)).refuse .badValue))
      ∧ (¬ bad → ¬ idle →
        exec (test 0) s = .next (answeredInTurn (underGrant (fun k s => s.grantCheckCamera g k) (testMember g true)) members
          (s.received (test 0)))
        ∧ exec (test 1) s = .next (answeredInTurn (underGrant (fun k s => s.grantCheckCamera g k) (testMember g false))
          members (s.received (test 1)))
        ∧ exec fire s = .next (answeredInTurn (fun k s => match s.grantCheckCamera g k with
          | some reason => (s, .refused reason, 0)
          | none => testTriggerMember g k s) members (s.received fire)))

/-- CAMERA_REARM, CAMERA_TEST and TEST_TRIGGER run their members: all of CameraMembers and CameraSetRequestsRunTheirMembers. -/
def Obligations.CameraRequestsAndTheirMembers : Prop :=
  CameraMembers ∧ CameraSetRequestsRunTheirMembers

/-! ## The cabinet switch (chapter 5) -/

/-- A switch link counter gone up by one: it stays at 4,294,967,295 (R119). The counters are in the order of R119: bad check, bad
message, queries taken, queries discarded, learn refused, unmatched done, forgets expired. -/
def Sys2Proof.Claims.linkCounted (x : Sws) (i : Fin 7) : Sws :=
  { x with counters := x.counters.set i (min (x.counters[i] + 1) 4294967295) }

/-- The state with the SWS's state given. -/
def Sys2Proof.Claims.withSws (s : State) (x : Sws) : State := { s with sws := x }

/-- The SWS with the record of one port given. -/
def Sys2Proof.Claims.onePort (x : Sws) (p : PortIx) (r : Port) : Sws := { x with ports := x.ports.set p r }

/-- The place of a port number 1 to 8. -/
def Sys2Proof.Claims.portIs (n : Nat) (p : PortIx) : Prop := n = p.val + 1

/-- A pinned entry that holds its unit's binding UP (R109). -/
def Sys2Proof.Claims.bindsUp (x : Sws) (r : Role) : Prop :=
  ∃ (n : Fin 16) (w : Fin 4) (e : Station), x.table[n].ways[w] = some e ∧ e.role = r ∧ e.kind = .pinned
    ∧ e.state = .admitted ∧ x.ports[e.port].link = .up ∧ x.ports[e.port].blocked = false

/-- The bindings recomputed: UP exactly where a pinned entry holds them UP; after the first setting each change is reported
(R109), axes first, each in ascending number (log 37). -/
def Sys2Proof.Claims.rebinds (s t : State) : Prop :=
  ∃ (d : Vector UpDown 8) (v : Vector UpDown 6),
    (∀ k : AxisNo, d[k] = .up ↔ bindsUp s.sws (.drive k)) ∧ (∀ k : CameraNo, v[k] = .up ↔ bindsUp s.sws (.camera k))
    ∧ t = sending (withSws s { s.sws with drives := d, cameras := v })
      (if s.sws.firstDone then
        (((List.finRange 8).filter fun k => s.sws.drives[k] != d[k]).map fun k => .driveBindingChange k d[k])
          ++ ((List.finRange 6).filter fun k => s.sws.cameras[k] != v[k]).map fun k => .cameraBindingChange k v[k]
      else [])

/-- Awake: start-up has reached the point at which the SWS takes the switch link. -/
def Sys2Proof.Claims.awake (s : State) : Prop := s.phase ≠ .held

/-- A query joins the newest end of a queue of at most eight, and at a full queue is discarded, counted, and latches
SWITCH_QUEUE. A frame that was abandoned, or whose class, code, length or port is none the SWS takes, counts as a bad message,
and so does, by the model's choice (log 35), a LINK_REPORT whose link byte is neither UP nor DOWN; one whose check fails counts
as a bad check. A query for a port outside 1 to 8 is a bad message. Before the SWS takes the link, all are discarded without
being counted. -/
def Obligations.QueriesQueueAndBadFramesCount : Prop :=
  (∀ (a : Address) (n : Nat) (p : PortIx) (tag : Byte) (s : State), awake s → portIs n p →
    let m := Instr.query a n tag
    let r := s.received m
    (s.sws.queries.length < 8 →
      exec m s = .next (withSws r { s.sws with queries := s.sws.queries ++ [⟨a, p, tag⟩] }))
    ∧ (8 ≤ s.sws.queries.length →
      exec m s = .next (sending (withSws r (linkCounted s.sws 3)) [.eventSourceLatch .switchQueue])))
  ∧ (∀ (a : Address) (n : Nat) (tag : Byte) (s : State), awake s → n = 0 ∨ 9 ≤ n →
    let m := Instr.query a n tag
    exec m s = .next (withSws (s.received m) (linkCounted s.sws 1)))
  ∧ (∀ (frame : BadFrame) (s : State), awake s →
    let m := Instr.switchBadFrame frame
    let r := s.received m
    let badMessage := exec m s = .next (withSws r (linkCounted s.sws 1))
    (frame = .abandoned → badMessage)
    ∧ ∀ bytes f, frame = .complete bytes → frameParts bytes = some f →
      (f.checkPasses = false → exec m s = .next (withSws r (linkCounted s.sws 0)))
      ∧ (f.checkPasses = true → switchCommand f = none → badMessage))
  ∧ ∀ (a : Address) (n : Nat) (tag : Byte) (frame : BadFrame) (s : State), s.phase = .held →
    exec (.query a n tag) s = .next s ∧ exec (.switchBadFrame frame) s = .next s

/-- The error state of a port: ALARM above an alarm threshold that is not 0, else WARN above a warn threshold that is not 0, else
NORMAL (R98). -/
def Sys2Proof.Claims.errorStateFor (count warn alarm : Nat) : AlarmState :=
  if alarm ≠ 0 ∧ alarm < count then .alarm else if warn ≠ 0 ∧ warn < count then .warn else .normal

/-- PORT_ERRORS's condition: some port is in ALARM (R98). -/
def Sys2Proof.Claims.inAlarm (x : Sws) : Bool := decide (∃ q : PortIx, x.ports[q].errorState = .alarm)

/-- A LINK_REPORT sets the port's link, and a change of it recomputes the bindings, which go UP and DOWN with it; one that
repeats the link changes nothing but that the port has reported. An ERROR_REPORT sets the count and the error state: ALARM above
an alarm threshold that is not 0, else WARN above a warn threshold that is not 0, else NORMAL; PORT_ERRORS is active while some
port is in ALARM. Either of a port outside 1 to 8 is counted a bad message (log 26), and neither is taken while the part is
held. -/
def Sys2Proof.Claims.LinkAndErrorReportsSetThePort : Prop :=
  (∀ (n : Nat) (p : PortIx) (s : State), awake s → portIs n p →
    let x := s.sws.ports[p]
    let seen := { s.sws with reported := s.sws.reported ||| (1#8 <<< p.val) }
    (∀ link : UpDown,
      let m := Instr.linkReport n link
      (x.link = link → exec m s = .next (withSws (s.received m) seen))
      ∧ (x.link ≠ link → ∃ t, rebinds (withSws (s.received m) (onePort seen p { x with link := link })) t
        ∧ exec m s = .next t))
    ∧ ∀ count : Nat,
      let m := Instr.errorReport n count
      let c := s.cfg.ports[p]
      let after := onePort s.sws p { x with errorCount := count, errorState := errorStateFor count c.warn c.alarm }
      exec m s = .next (sending (withSws (s.received m) after) (change .portErrors (inAlarm s.sws) (inAlarm after))))
  ∧ (∀ (n : Nat) (link : UpDown) (count : Nat) (s : State), awake s → n = 0 ∨ 9 ≤ n →
    exec (.linkReport n link) s = .next (withSws (s.received (.linkReport n link)) (linkCounted s.sws 1))
    ∧ exec (.errorReport n count) s = .next (withSws (s.received (.errorReport n count)) (linkCounted s.sws 1)))
  ∧ ∀ (n : Nat) (link : UpDown) (count : Nat) (s : State), s.phase = .held →
    exec (.linkReport n link) s = .next s ∧ exec (.errorReport n count) s = .next s

/-- An answer sent: ANSWER with the query's tag, one more query taken, and the report to the ACU (R95, R103, R147). -/
def Sys2Proof.Claims.answersWith (s : State) (q : Query) (admits : Bool) : State :=
  sending (withSws s (linkCounted { s.sws with
    sent := s.sws.sent ++ [⟨q.tag, .answer q.address q.port admits⟩] } 2)) [.acuReport (.query q.address q.port admits)]

/-- The number of a set: the low four bits of the address (R101). -/
def Sys2Proof.Claims.setFor (a : Address) : Fin 16 := ⟨a.toNat % 16, Nat.mod_lt _ (by decide)⟩

/-- A way of a set with its entry given. -/
def Sys2Proof.Claims.withWay (s : State) (n : Fin 16) (w : Fin 4) (e : Option Station) : State :=
  withSws s { s.sws with table := s.sws.table.set n { s.sws.table[n] with ways := s.sws.table[n].ways.set w e } }

/-- The victim counter of a set given. -/
def Sys2Proof.Claims.withVictim (s : State) (n : Fin 16) (v : Fin 4) : State :=
  withSws s { s.sws with table := s.sws.table.set n { s.sws.table[n] with victim := v } }

/-- An address stands in a way of its set, and in no other way of it. -/
def Sys2Proof.Claims.standsIn (s : State) (a : Address) (w : Fin 4) (e : Station) : Prop :=
  s.sws.table[setFor a].ways[w] = some e ∧ e.address = a
    ∧ ∀ (v : Fin 4) (x : Station), v ≠ w → s.sws.table[setFor a].ways[v] = some x → x.address ≠ a

/-- No way of the set of an address holds it. -/
def Sys2Proof.Claims.misses (s : State) (a : Address) : Prop :=
  ∀ (w : Fin 4) (e : Station), s.sws.table[setFor a].ways[w] = some e → e.address ≠ a

/-- An address in the forget list. -/
def Sys2Proof.Claims.forgotten (s : State) (a : Address) : Prop := ∃ f ∈ s.sws.forgets, f.address = a

/-- A query that is denied before the table is looked at (R103, steps 1 to 3). -/
def Sys2Proof.Claims.deniedFirst (s : State) (q : Query) : Prop :=
  s.sws.ports[q.port].blocked = true ∨ q.address = 0 ∨ q.address = BitVec.allOnes 48 ∨ forgotten s q.address

/-- A forget sent for an ADMITTED entry: FORGET with the SWS's own tag, and its entry at the newest end of the list, with the
grant id of a terminal (R95, R113). -/
def Sys2Proof.Claims.forgets (s : State) (e : Station) (reason : ForgetReason) : State :=
  withSws s { s.sws with
    outTag := s.sws.outTag + 1
    sent := s.sws.sent ++ [⟨s.sws.outTag, .forget e.address⟩]
    forgets := s.sws.forgets ++
      [⟨e.address, e.port, reason, if e.role = .serviceTerminal then e.grant else none, s.tmu.now⟩] }

/-- The report of a grant's terminal count when an ADMITTED terminal has left (R105). -/
def Sys2Proof.Claims.countsTerminal (s : State) (e : Station) : State :=
  match e.role, e.state, e.grant with
  | .serviceTerminal, .admitted, some id => sending s [.closingReport (.terminals id (s.terminalCount id))]
  | _, _, _ => s

/-- The victim of a set without a free way: the first way from the victim counter on that is neither pinned nor FLUSHING
(R102). -/
def Sys2Proof.Claims.victimIs (s : State) (n : Fin 16) (w : Fin 4) (e : Station) : Prop :=
  let x := s.sws.table[n]
  let passes (y : Station) : Prop := y.kind = .pinned ∨ y.state = .flushing
  (∀ v : Fin 4, x.ways[v] ≠ none) ∧ ∃ i : Fin 4, w = x.victim + i ∧ x.ways[w] = some e ∧ ¬ passes e
    ∧ ∀ j : Fin 4, j < i → ∃ y, x.ways[x.victim + j] = some y ∧ passes y

/-- The place of a new entry in a set, and the state once it is free: the lowest free way; else the way of a QUARANTINED victim;
else that of an ADMITTED victim, forgotten with reason EVICT while the list holds 15 entries or fewer. A replacement sets the
counter past the way (R102, R104). -/
def Sys2Proof.Claims.makesPlace (s : State) (n : Fin 16) (w : Fin 4) (t : State) : Prop :=
  (s.sws.table[n].ways[w] = none ∧ (∀ v : Fin 4, v < w → s.sws.table[n].ways[v] ≠ none) ∧ t = s)
  ∨ ∃ e, victimIs s n w e ∧
    ((e.state = .quarantined ∧ t = withVictim (withWay s n w none) n (w + 1))
    ∨ (e.state = .admitted ∧ s.sws.forgets.length ≤ 15
      ∧ t = withVictim (countsTerminal (forgets (withWay s n w none) e .evict) e) n (w + 1)))

/-- A set that has no victim. -/
def Sys2Proof.Claims.noVictim (s : State) (n : Fin 16) : Prop :=
  ∀ w : Fin 4, ∃ e : Station, s.sws.table[n].ways[w] = some e ∧ (e.kind = .pinned ∨ e.state = .flushing)

/-- The entry that a query makes (R104, R105). -/
def Sys2Proof.Claims.learnt (s : State) (q : Query) (role : Role) (state : StationState) (grant : Option Nat) : Station :=
  ⟨q.address, q.port, .learned, role, state, grant, s.stamp, s.stamp⟩

/-- The answer to the oldest query is the first step that applies: DENY on a blocked port, for no address, and for an address in
the forget list; by the entry's state for a hit on its port, with its stamps and the set's counter moved on; DENY with
STATION_MOVED for a hit on another port; and by the port's policy for a miss, as LearningByPolicy says. With no query nothing
changes. -/
def Sys2Proof.Claims.QueriesAreAnsweredByTheFirstStep : Prop :=
  (∀ s : State, running s → s.sws.queries = [] → exec .answer s = .next (s.received .answer))
  ∧ (∀ (q : Query) (rest : List Query) (s : State), running s → s.sws.queries = q :: rest →
    exec .answer s = .next ((withSws (s.received .answer) { s.sws with queries := rest }).judgeQuery q))
  ∧ ∀ (q : Query) (s : State),
    let n := setFor q.address
    let moved (t : State) : State := withVictim t n (s.sws.table[n].victim + 1)
    (deniedFirst s q → s.judgeQuery q = answersWith s q false)
    ∧ (∀ w e, ¬ deniedFirst s q → standsIn s q.address w e → e.port = q.port →
      let e' := { e with lastSeen := s.stamp, firstSeen := if e.firstSeen = none then s.stamp else e.firstSeen }
      s.judgeQuery q = answersWith (moved (withWay s n w (some e'))) q (e.state == .admitted))
    ∧ (∀ w e, ¬ deniedFirst s q → standsIn s q.address w e → e.port ≠ q.port →
      s.judgeQuery q = answersWith ((moved s).post (.stationMoved q.address e.port q.port e.role)) q false)
    ∧ (¬ deniedFirst s q → misses s q.address → s.judgeQuery q = s.missQuery q)

/-- A miss on a LOCKED port is learned QUARANTINED, denied and noticed; on a LEARN port it is learned ADMITTED; on a SERVICE
port it is admitted as a terminal while the port's grant is OPEN with fewer than four, and denied otherwise. Terminal counts are
reported before the query (log 37). Where the victim's forget has no room it is denied and counted; where the set has no victim
it is denied with TABLE_FULL. -/
def Sys2Proof.Claims.LearningByPolicy : Prop :=
  ∀ (q : Query) (s : State),
    let n := setFor q.address
    let policy := s.cfg.ports[q.port].policy
    let service := s.sws.ports[q.port].service
    let learns := policy = .locked ∨ policy = .learn
      ∨ (policy = .service ∧ ∃ id, service = some (id, .opened) ∧ s.terminalCount id < 4)
    (∀ w t, policy = .locked → makesPlace s n w t → s.missQuery q
      = answersWith ((withWay t n w (some (learnt s q .unknown .quarantined none))).post
        (.stationStranger q.address q.port w)) q false)
    ∧ (∀ w t, policy = .learn → makesPlace s n w t → s.missQuery q
      = answersWith (withWay t n w (some (learnt s q .unknown .admitted none))) q true)
    ∧ (∀ w t id, policy = .service → service = some (id, .opened) → s.terminalCount id < 4 → makesPlace s n w t →
      let t' := withWay t n w (some (learnt s q .serviceTerminal .admitted (some id)))
      s.missQuery q = answersWith (sending t' [.closingReport (.terminals id (t'.terminalCount id))]) q true)
    ∧ (policy = .service → ¬ learns → s.missQuery q = answersWith s q false)
    ∧ (∀ w e, learns → victimIs s n w e → e.state = .admitted → 16 ≤ s.sws.forgets.length →
      s.missQuery q = answersWith (withSws s (linkCounted s.sws 4)) q false)
    ∧ (learns → noVictim s n → s.missQuery q = answersWith (s.post (.tableFull q.address q.port n)) q false)

/-- A query is answered by the first step that applies, and learned by the port's policy: all of QueriesAreAnsweredByTheFirstStep
and LearningByPolicy. -/
def Obligations.QueriesAreAnsweredAndLearned : Prop :=
  QueriesAreAnsweredByTheFirstStep ∧ LearningByPolicy

/-- The FLUSHING entry of an address given anew, where there is one (R114, R115). -/
def Sys2Proof.Claims.endsFlushing (s : State) (a : Address) (f : Station → Option Station) (t : State) : Prop :=
  (∃ w e, standsIn s a w e ∧ e.state = .flushing ∧ t = withWay s (setFor a) w (f e))
  ∨ ((∀ (w : Fin 4) (e : Station), s.sws.table[setFor a].ways[w] = some e → e.address = a → e.state ≠ .flushing) ∧ t = s)

/-- The report that a forget with a grant id sends when it is resolved (R114, R115). -/
def Sys2Proof.Claims.resolution (s : State) (f : Forget) (expired : Bool) : List Instr :=
  f.grant.toList.map fun id =>
    let left := (s.sws.forgets.filter fun x => x.grant == some id).length
    .closingReport (if expired then .resolvedExpired id left else .resolvedDone id left)

/-- A FORGET_DONE resolves the forget of its address: it leaves the list, a FLUSHING entry leaves the table, and the grant it
carries is told; an address not in the list is counted unmatched. A forget that is 2 s old expires: it leaves the list and is
counted, a FLUSHING entry becomes QUARANTINED, its port is blocked with PORT_BLOCK when it was not, FLUSH_UNCONFIRMED and the
bindings follow, FORGET_EXPIRED is posted and the grant it carries told. A younger forget (log 2), or none, leaves FORGET_EXPIRY
without effect. -/
def Obligations.ForgetsResolveByDoneOrExpiry : Prop :=
  (∀ (a : Address) (s : State), awake s → ¬ forgotten s a →
    exec (.forgetDone a) s = .next (withSws (s.received (.forgetDone a)) (linkCounted s.sws 5)))
  ∧ (∀ (a : Address) (s : State), running s → ¬ forgotten s a →
    exec (.forgetExpiry a) s = .next (s.received (.forgetExpiry a)))
  ∧ ∀ (a : Address) (s : State) (f : Forget) (before after : List Forget), s.sws.forgets = before ++ f :: after →
    f.address = a → (∀ x ∈ before ++ after, x.address ≠ a) →
    let less := { s.sws with forgets := before ++ after }
    let r := s.received (.forgetExpiry a)
    (∀ t, awake s → endsFlushing (withSws (s.received (.forgetDone a)) less) a (fun _ => none) t →
      exec (.forgetDone a) s = .next (sending t (resolution t f false)))
    ∧ (running s → s.tmu.now < f.sentAt + 2000000 → exec (.forgetExpiry a) s = .next r)
    ∧ ∀ t t', running s → f.sentAt + 2000000 ≤ s.tmu.now →
      endsFlushing (withSws r (linkCounted less 6)) a (fun e => some { e with state := .quarantined }) t →
      (let x := t.sws.ports[f.port]
       let some' (y : Sws) : Bool := decide (∃ p : PortIx, y.ports[p].blocked = true)
       let b := onePort t.sws f.port { x with blocked := true }
       let blocked := if x.blocked then t
         else sending (withSws t { b with outTag := b.outTag + 1, sent := b.sent ++ [⟨b.outTag, .portBlock f.port⟩] })
           (change .flushUnconfirmed (some' t.sws) true)
       rebinds blocked t') →
      exec (.forgetExpiry a) s
        = .next (sending (t'.post (.forgetExpired a f.port f.reason f.grant)) (resolution t' f true))

/-- The first setting at one camera: its binding, and with UP the state READY with cause BINDING_SET and what follows a change
of state (R74, R87). -/
def Sys2Proof.Claims.firstBound (s : State) (k : CameraNo) (b : UpDown) : State :=
  let c := { s.ctu.cameras[k] with binding := b }
  if b = .up ∧ c.state ≠ .ready then becomes s k c .ready .bindingSet else withCamera s k c

/-- The first setting comes once, when all eight ports have reported since FORGET_ALL or 2 s have passed: every binding is
recomputed and set at its owner in the command's own step (log 19), no axis halts, each camera bound becomes READY with cause
BINDING_SET, notices and fault source with it, in ascending camera number (log 37), and nothing else changes. Before it is due
(log 2; the wait runs as log 18 says), and once it is done, the command changes nothing. -/
def Sys2Proof.Claims.FirstSettingGivesEveryBinding : Prop :=
  ∀ s : State, running s →
    let due := s.sws.firstDone = false ∧ (s.sws.reported = 0xFF#8
      ∨ ∃ t, s.sws.forgetAllAt = some t ∧ t + 2000000 ≤ s.tmu.now)
    let r := s.received .firstSetting
    (¬ due → exec .firstSetting s = .next r)
    ∧ (due → ∃ u, rebinds r u
      ∧ let axes := Vector.ofFn fun k : AxisNo => { s.fmu.axes[k] with binding := u.sws.drives[k] }
        let bound := withSws { u with fmu := { s.fmu with axes := axes } } { u.sws with firstDone := true }
        exec .firstSetting s
          = .next ([(0 : CameraNo), 1, 2, 3, 4, 5].foldl (fun t k => firstBound t k u.sws.cameras[k]) bound))

/-- Link and error reports set the port, and the first setting gives every binding: all of LinkAndErrorReportsSetThePort and
FirstSettingGivesEveryBinding. -/
def Obligations.BindingsFollowLinksAndTheFirstSetting : Prop :=
  LinkAndErrorReportsSetThePort ∧ FirstSettingGivesEveryBinding

/-- A learned entry of role UNKNOWN on a port in a state (R100). -/
def Sys2Proof.Claims.stranger (e : Station) (p : PortIx) (state : StationState) : Bool :=
  e.kind == .learned && e.role == .unknown && e.port == p && e.state == state

/-- The ADMITTED strangers of a port, in table order (R100). -/
def Sys2Proof.Claims.strangers (s : State) (p : PortIx) : List Station :=
  (List.finRange 16).flatMap fun n => (List.finRange 4).filterMap fun w =>
    (s.sws.table[n].ways[w]).filter fun e => stranger e p .admitted

/-- The thresholds PORT_CONFIG may set (R99). -/
def Sys2Proof.Claims.thresholdsFit (warn alarm : Nat) : Prop :=
  warn ≤ 65535 ∧ alarm ≤ 65535 ∧ (warn ≠ 0 → alarm ≠ 0 → warn ≤ alarm)

/-- The table with every entry given anew, or taken out. -/
def Sys2Proof.Claims.everyWay (x : Sws) (f : Station → Option Station) : Sws :=
  { x with table := x.table.map fun y => { y with ways := y.ways.map fun e => e.bind f } }

/-- The forgets of entries sent one after another (R113). -/
def Sys2Proof.Claims.allForgotten (s : State) (entries : List Station) (reason : ForgetReason) : State :=
  entries.foldl (fun t e => forgets t e reason) s

/-- The SWS after a change of policy: leaving LEARN each ADMITTED stranger is FLUSHING with its forget, in table order (log 34),
and entering LEARN each QUARANTINED one leaves; a policy that stays changes nothing (R100). -/
def Sys2Proof.Claims.policyChanged (s : State) (p : PortIx) (old new : Policy) : State :=
  if old = .learn ∧ new ≠ .learn then
    allForgotten (withSws s (everyWay s.sws fun e => some (if stranger e p .admitted then { e with state := .flushing } else e)))
      (strangers s p) .policyChange
  else if old ≠ .learn ∧ new = .learn then
    withSws s (everyWay s.sws fun e => if stranger e p .quarantined then none else some e)
  else s

/-- PORT_CONFIG at level 2 is refused BAD_VALUE for a port, policy or threshold out of range, STATE for leaving SERVICE under a
service grant, and FULL for leaving LEARN when the forget list and the new forgets would exceed 16, also with no new forget (log
24). Accepted, it handles the strangers of a policy that changes in table order (log 34), replaces the configuration with the
store dirty, sets the error state by the new thresholds with PORT_ERRORS after it, changes nothing else, and is answered OK. -/
def Sys2Proof.Claims.PortConfigChecksThenChanges : Prop :=
  ∀ (n policy warn alarm : Nat) (s : State), running s → 2 ≤ s.acu.level →
    let c := Instr.portConfig n policy warn alarm
    let r := s.received c
    ((n = 0 ∨ 9 ≤ n ∨ 3 ≤ policy ∨ ¬ thresholdsFit warn alarm) → exec c s = .next (r.refuse .badValue))
    ∧ ∀ (p : PortIx) (new : Policy), portIs n p → policyCode new = policy → thresholdsFit warn alarm →
      let old := s.cfg.ports[p].policy
      let inUse := old = .service ∧ new ≠ .service ∧ s.sws.ports[p].service ≠ none
      let crowded := old = .learn ∧ new ≠ .learn ∧ 16 < s.sws.forgets.length + (strangers s p).length
      (inUse → exec c s = .next (r.refuse .state))
      ∧ (crowded → exec c s = .next (r.refuse .full))
      ∧ (¬ inUse → ¬ crowded →
        let t := withSettings (policyChanged r p old new) { s.cfg with ports := s.cfg.ports.set p ⟨new, warn, alarm⟩ }
        let after := onePort t.sws p { s.sws.ports[p] with errorState := errorStateFor s.sws.ports[p].errorCount warn alarm }
        exec c s = .next ((sending (withSws t after) (change .portErrors (inAlarm s.sws) (inAlarm after))).replyOk []))

/-- PORT_UNBLOCK at level 2 is refused BAD_VALUE for a port outside 1 to 8. On a blocked port it clears the flag, sends
PORT_OPEN, recomputes the bindings, makes FLUSH_UNCONFIRMED inactive when no other port is blocked, that report first (log 37),
and is answered OK; on a port that is not blocked it is answered OK and changes nothing. -/
def Sys2Proof.Claims.PortUnblockClearsTheBlock : Prop :=
  ∀ (n : Nat) (s : State), running s → 2 ≤ s.acu.level →
    let c := Instr.portUnblock n
    let r := s.received c
    ((n = 0 ∨ 9 ≤ n) → exec c s = .next (r.refuse .badValue))
    ∧ ∀ p, portIs n p →
      let x := s.sws.ports[p]
      (x.blocked = false → exec c s = .next (r.replyOk []))
      ∧ (x.blocked = true →
        let b := onePort s.sws p { x with blocked := false }
        ∃ t, rebinds (sending (withSws r { b with outTag := b.outTag + 1, sent := b.sent ++ [⟨b.outTag, .portOpen p⟩] })
            (change .flushUnconfirmed true (decide (∃ q : PortIx, b.ports[q].blocked = true)))) t
          ∧ exec c s = .next (t.replyOk []))

/-- PORT_CONFIG and PORT_UNBLOCK: all of PortConfigChecksThenChanges and PortUnblockClearsTheBlock. -/
def Obligations.PortsAreConfiguredAndUnblocked : Prop :=
  PortConfigChecksThenChanges ∧ PortUnblockClearsTheBlock

/-- The end of an accepted station request: the dirty flag, the bindings, and OK (R106 to R108). -/
def Sys2Proof.Claims.stationDone (s u : State) : Prop := ∃ t, rebinds (withSettings s s.cfg) t ∧ u = t.replyOk []

/-- The pinned entry that STATION_PIN makes, with the stamps of an entry it replaces (R106). -/
def Sys2Proof.Claims.pins (a : Address) (p : PortIx) (r : Role) (old : Option Station) : Station :=
  ⟨a, p, .pinned, r, .admitted, none, old.bind fun e => e.firstSeen, old.bind fun e => e.lastSeen⟩

/-- The role that STATION_PIN names, with its unit for DRIVE and CAMERA and without one for PANEL and OTHER (R106). -/
def Sys2Proof.Claims.pinRole (role : Nat) (unitNo : Option Nat) (r : Role) : Prop :=
  (∃ k : AxisNo, role = 0 ∧ unitNo = some k.val ∧ r = .drive k) ∨ (∃ k : CameraNo, role = 1 ∧ unitNo = some k.val ∧ r = .camera k)
  ∨ (role = 2 ∧ unitNo = none ∧ r = .panel) ∨ (role = 3 ∧ unitNo = none ∧ r = .other)

/-- A unit bound by an entry of another address (R106). -/
def Sys2Proof.Claims.boundByAnother (s : State) (a : Address) (r : Role) : Prop :=
  r ≠ .panel ∧ r ≠ .other ∧ ∃ (n : Fin 16) (w : Fin 4) (e : Station), s.sws.table[n].ways[w] = some e ∧ e.role = r
    ∧ e.address ≠ a

/-- STATION_PIN at level 2 by its table of checks, each refusal in its order, a role of no list and a missing unit with the
first (log 12); accepted, it replaces a learned entry in its way or takes the place of a new entry, marks the store dirty,
recomputes the bindings and is answered OK. -/
def Obligations.StationPinByItsTable : Prop :=
  ∀ (a : Address) (n role : Nat) (unitNo : Option Nat) (s : State), running s → 2 ≤ s.acu.level →
    let c := Instr.stationPin a n role unitNo
    let s0 := s.received c
    let valid := a ≠ 0 ∧ a ≠ BitVec.allOnes 48 ∧ 1 ≤ n ∧ n ≤ 8 ∧ ∃ r, pinRole role unitNo r
    (¬ valid → exec c s = .next (s0.refuse .badValue))
    ∧ (valid → forgotten s a → exec c s = .next (s0.refuse .busy))
    ∧ ∀ p r, valid → portIs n p → pinRole role unitNo r → ¬ forgotten s a →
      (∀ w e, standsIn s a w e → e.kind = .pinned ∨ boundByAnother s a r ∨ (e.state = .admitted ∧ e.port ≠ p) →
        exec c s = .next (s0.refuse .state))
      ∧ (misses s a → boundByAnother s a r → exec c s = .next (s0.refuse .state))
      ∧ (∀ w e u, standsIn s a w e → e.kind = .learned → ¬ boundByAnother s a r → e.state = .admitted → e.port = p →
        stationDone (countsTerminal (withWay s0 (setFor a) w (some (pins a p r (some e)))) e) u → exec c s = .next u)
      ∧ (∀ w e u, standsIn s a w e → e.kind = .learned → ¬ boundByAnother s a r → e.state = .quarantined →
        stationDone (withWay s0 (setFor a) w (some (pins a p r (some e)))) u → exec c s = .next u)
      ∧ (∀ w t u, misses s a → ¬ boundByAnother s a r → makesPlace s0 (setFor a) w t →
        stationDone (withWay t (setFor a) w (some (pins a p r none))) u → exec c s = .next u)
      ∧ (∀ w e, misses s a → ¬ boundByAnother s a r → victimIs s (setFor a) w e → e.state = .admitted →
        16 ≤ s.sws.forgets.length → exec c s = .next (s0.refuse .full))
      ∧ (misses s a → ¬ boundByAnother s a r → noVictim s (setFor a) → exec c s = .next (s0.refuse .full))

/-- STATION_UNPIN, STATION_QUARANTINE and STATION_RELEASE at level 2: NOT_FOUND for an address that is not in the table, and for an
UNPIN of a learned one; STATE for the other two of a learned one; FULL when the forget of an ADMITTED entry has no room; BUSY for a
release while the address is in the forget list. Otherwise the entry leaves, becomes QUARANTINED, or ADMITTED, its forget is sent
when it was ADMITTED, the store is dirty, the bindings follow, and the answer is OK. A quarantine of a QUARANTINED entry and a
release of an ADMITTED one change nothing. -/
def Obligations.PinnedStationsLeaveAndReturn : Prop :=
  ∀ (a : Address) (s : State), running s → 2 ≤ s.acu.level →
    let n := setFor a
    let u := Instr.stationUnpin a
    let k := Instr.stationQuarantine a
    let l := Instr.stationRelease a
    let refused (c : Instr) (r : Reason) : Prop := exec c s = .next ((s.received c).refuse r)
    let ok (c : Instr) : Prop := exec c s = .next ((s.received c).replyOk [])
    let full := 16 ≤ s.sws.forgets.length
    (misses s a → refused u .notFound ∧ refused k .notFound ∧ refused l .notFound)
    ∧ (∀ w e, standsIn s a w e → e.kind = .learned → refused u .notFound ∧ refused k .state ∧ refused l .state)
    ∧ ∀ w e, standsIn s a w e → e.kind = .pinned →
      (e.state = .admitted → full → refused u .full ∧ refused k .full)
      ∧ (∀ t, e.state = .admitted → ¬ full →
        (stationDone (forgets (withWay (s.received u) n w none) e .unpin) t → exec u s = .next t)
        ∧ (stationDone (forgets (withWay (s.received k) n w (some { e with state := .quarantined })) e .flushRequest) t →
          exec k s = .next t))
      ∧ (e.state = .admitted → ok l)
      ∧ (e.state = .quarantined → ok k)
      ∧ (∀ t, e.state = .quarantined → stationDone (withWay (s.received u) n w none) t → exec u s = .next t)
      ∧ (e.state = .quarantined → forgotten s a → refused l .busy)
      ∧ (∀ t, e.state = .quarantined → ¬ forgotten s a →
        stationDone (withWay (s.received l) n w (some { e with state := .admitted })) t → exec l s = .next t)

/-- STATION_FLUSH at level 2: BAD_VALUE for a port or scope in no list, NOT_FOUND and STATE for an address that is not in the
table or is pinned, FULL, with nothing changed, when an entry in scope is ADMITTED and the forget list holds more than 15.
Otherwise the entries in scope are handled one after another in table order, each ADMITTED one becoming FLUSHING with its forget
while there is room, each other one leaving, and the answer is OK with the number handled and whether the flush stopped early.
-/
def Obligations.StationFlushHandlesItsScope : Prop :=
  (∀ (scope : FlushScope) (s : State), running s → 2 ≤ s.acu.level →
    let c := Instr.stationFlush scope
    let r := s.received c
    let flushes (inScope : Station → Bool) : Prop := exec c s = .next (r.flush inScope)
    ((∃ code, scope = .unknown code) ∨ (∃ n, scope = .port n ∧ (n = 0 ∨ 9 ≤ n)) → exec c s = .next (r.refuse .badValue))
    ∧ (∀ a, scope = .address a → misses s a → exec c s = .next (r.refuse .notFound))
    ∧ (∀ a w e, scope = .address a → standsIn s a w e → e.kind = .pinned → exec c s = .next (r.refuse .state))
    ∧ (∀ a w e, scope = .address a → standsIn s a w e → e.kind = .learned → flushes fun x => x.address == a)
    ∧ (∀ n p, scope = .port n → portIs n p → flushes fun x => x.kind == .learned && x.port == p)
    ∧ (scope = .all → flushes fun x => x.kind == .learned))
  ∧ ∀ (s : State) (inScope : Station → Bool),
    let admitted := ∃ (n : Fin 16) (w : Fin 4) (e : Station), s.sws.table[n].ways[w] = some e ∧ inScope e = true
      ∧ e.state = .admitted
    let ways : List (Fin 16 × Fin 4) := (List.finRange 16).flatMap fun n => (List.finRange 4).map fun w => (n, w)
    (admitted → 16 ≤ s.sws.forgets.length → s.flush inScope = s.refuse .full)
    ∧ (¬ admitted ∨ s.sws.forgets.length ≤ 15 →
      let r := ways.foldl (fun acc p => flushOne inScope p.1 p.2 acc) (s, 0, false)
      s.flush inScope = r.1.replyOk [BitVec.ofNat 8 r.2.1, if r.2.2 then 1 else 0])
    ∧ ∀ (n : Fin 16) (w : Fin 4) (handled : Nat) (stopped : Bool),
      let here := s.sws.table[n].ways[w]
      (stopped = true ∨ (∀ e, here = some e → inScope e = false) →
        flushOne inScope n w (s, handled, stopped) = (s, handled, stopped))
      ∧ (∀ e, here = some e → inScope e = true → e.state ≠ .admitted →
        flushOne inScope n w (s, handled, false) = (withWay s n w none, handled + 1, false))
      ∧ (∀ e, here = some e → inScope e = true → e.state = .admitted → 16 ≤ s.sws.forgets.length →
        flushOne inScope n w (s, handled, false) = (s, handled, true))
      ∧ (∀ e, here = some e → inScope e = true → e.state = .admitted → s.sws.forgets.length ≤ 15 →
        flushOne inScope n w (s, handled, false) = (countsTerminal
          (forgets (withWay s n w (some { e with state := .flushing })) e .flushRequest) e, handled + 1, false))

/-- The ports of the SWS with a new service grant where a condition holds. -/
def Sys2Proof.Claims.served (x : Sws) (where' : PortIx → Bool) (service : Option (Nat × GrantState)) : Sws :=
  { x with ports := Vector.ofFn fun p => if where' p then { x.ports[p] with service := service } else x.ports[p] }

/-- The port's service grant carries an id. -/
def Sys2Proof.Claims.servesGrant (s : State) (id : Nat) (p : PortIx) : Bool := s.sws.ports[p].service.any fun g => g.1 == id

/-- An ADMITTED terminal of a grant (R105). -/
def Sys2Proof.Claims.terminalOf (id : Nat) (e : Station) : Bool :=
  e.role == .serviceTerminal && e.state == .admitted && e.grant == some id

/-- The ADMITTED terminals of a grant, in table order. -/
def Sys2Proof.Claims.terminals (s : State) (id : Nat) : List Station :=
  (List.finRange 16).flatMap fun n => (List.finRange 4).filterMap fun w => (s.sws.table[n].ways[w]).filter (terminalOf id)

/-- A grant opened stands OPEN in each port of its set; its closing start makes it CLOSING in each port that carries its id,
turns every ADMITTED terminal of it FLUSHING with a GRANT_CLOSE forget sent on STX, in table order (log 34), and reports the
forgets that carry its id and a terminal count of 0; its completion takes it from every port that carries its id. Nothing else
changes. -/
def Obligations.GrantsAtTheSwitch : Prop :=
  ∀ (id : Nat) (s : State), running s →
    (∀ ports : PortSet, let c := Instr.swsGrantOpened id ports
      exec c s = .next (withSws (s.received c) (served s.sws (fun p => ports.getLsbD p) (some (id, .opened)))))
    ∧ (let c := Instr.swsGrantClosed id
      exec c s = .next (withSws (s.received c) (served s.sws (servesGrant s id) none)))
    ∧ (let c := Instr.swsGrantClosingStart id
      let closing := served s.sws (servesGrant s id) (some (id, .closing))
      let flushing (e : Station) : Station := if terminalOf id e then { e with state := .flushing } else e
      let t := allForgotten (withSws (s.received c) (everyWay closing fun e => some (flushing e))) (terminals s id) .grantClose
      exec c s = .next (sending t [
        .closingReport (.closingForgets id (t.sws.forgets.filter fun f => f.grant == some id).length),
        .closingReport (.terminals id 0)]))

/-! ## Service access and grants (chapter 6) -/

/-- The state with the ACU's state given. -/
def Sys2Proof.Claims.withAcu (s : State) (x : Acu) : State := { s with acu := x }

/-- The state with a slot of the grant table given. -/
def Sys2Proof.Claims.withGrant (s : State) (slot : Fin 4) (g : Option Grant) : State :=
  withAcu s { s.acu with grants := s.acu.grants.set slot g }

/-- A level that a request may name, and the length a passcode may have (R123, R127). -/
def Sys2Proof.Claims.mayName (level : Nat) : Prop := level = 1 ∨ level = 2

/-- The length of a passcode (R123). -/
def Sys2Proof.Claims.codeFits (code : List Byte) : Prop := 4 ≤ code.length ∧ code.length ≤ 16

/-- The passcode of a level in the working copy, or UNSET (R127). -/
def Sys2Proof.Claims.codeOf (s : State) (level : Nat) : Option (List Byte) :=
  if level = 1 then s.cfg.passcode1 else s.cfg.passcode2

/-- UNLOCK: BAD_VALUE for a level or a length out of range, LOCKED_OUT while a lockout runs; an equal passcode, or SETUP high
for an UNSET one, sets the level named and the failure count to 0, and is answered OK; a wrong one is refused LEVEL and counted,
the third in a row beginning a lockout of 60 s with the count 0; SETUP low with an UNSET passcode is refused STATE. LOCK sets
the level to 0 and is answered OK. The lockout ends at its end; the level drops to 0 at the idle deadline, with LEVEL_DROPPED;
neither command acts before its time (log 2). PASSCODE_SET at level 2 replaces a passcode and marks the store dirty. Nothing
else changes. -/
def Sys2Proof.Claims.PasscodesSetTheLevel : Prop :=
  (∀ (level : Nat) (code : List Byte) (s : State), running s →
    let c := Instr.unlock level code
    let r := s.received c
    let opens := (withAcu r { s.acu with level := level, failures := 0 }).replyOk []
    let fits := mayName level ∧ codeFits code
    (¬ fits → exec c s = .next (r.refuse .badValue))
    ∧ (fits → s.acu.lockoutEnd ≠ none → exec c s = .next (r.refuse .lockedOut))
    ∧ (fits → s.acu.lockoutEnd = none →
      (codeOf s level = some code → exec c s = .next opens)
      ∧ (∀ other, codeOf s level = some other → other ≠ code → s.acu.failures < 2 →
        exec c s = .next ((withAcu r { s.acu with failures := s.acu.failures + 1 }).refuse .level))
      ∧ (∀ other, codeOf s level = some other → other ≠ code → 2 ≤ s.acu.failures →
        exec c s = .next ((withAcu r { s.acu with
          failures := 0, lockoutEnd := some (s.tmu.now + 60000000) }).refuse .level))
      ∧ (codeOf s level = none → s.inputs.setup = true → exec c s = .next opens)
      ∧ (codeOf s level = none → s.inputs.setup = false → exec c s = .next (r.refuse .state))))
  ∧ (∀ s : State, running s → exec .lock s = .next ((withAcu (s.received .lock) { s.acu with level := 0 }).replyOk []))
  ∧ (∀ s : State, running s →
    let r := s.received .lockoutExpiry
    (∀ t, s.acu.lockoutEnd = some t → t ≤ s.tmu.now →
      exec .lockoutExpiry s = .next (withAcu r { s.acu with lockoutEnd := none }))
    ∧ ((s.acu.lockoutEnd = none ∨ ∃ t, s.acu.lockoutEnd = some t ∧ s.tmu.now < t) → exec .lockoutExpiry s = .next r))
  ∧ (∀ s : State, running s →
    let r := s.received .idleDeadlineExpiry
    (s.acu.idleDeadline ≤ s.tmu.now → 0 < s.acu.level → exec .idleDeadlineExpiry s
      = .next ((withAcu r { s.acu with level := 0 }).post (.levelDropped s.acu.level)))
    ∧ (s.tmu.now < s.acu.idleDeadline ∨ s.acu.level = 0 → exec .idleDeadlineExpiry s = .next r))
  ∧ ∀ (level : Nat) (code : Option (List Byte)) (s : State), running s →
    let c := Instr.passcodeSet level code
    let r := s.received c
    let fits := mayName level ∧ ∀ x, code = some x → codeFits x
    (s.acu.level < 2 → exec c s = .next (r.refuse .level))
    ∧ (2 ≤ s.acu.level → ¬ fits → exec c s = .next (r.refuse .badValue))
    ∧ (2 ≤ s.acu.level → fits → exec c s = .next ((withSettings r (
      if level = 1 then { s.cfg with passcode1 := code } else { s.cfg with passcode2 := code })).replyOk []))

/-- The requests whose level is checked first, with their levels (R4, R21, R42, R50, R51, R66, R67, R75, R99, R106 to R108, R112,
R116, R127, R154, R159, R168, R179, R180, R199, R202; log 12). -/
def Sys2Proof.Claims.needsLevel (c : Instr) (level : Nat) : Prop :=
  match c with
  | .lineClear | .recipeSelect .. | .productTemp .. | .watchAck .. | .timeSet .. | .faultAck .. => level = 1
  | .lineGeometry .. | .axisConfig .. | .recipeWrite .. | .trimWrite .. | .trimMode .. | .cameraConfig .. | .portConfig ..
  | .portUnblock .. | .stationPin .. | .stationUnpin .. | .stationQuarantine .. | .stationRelease .. | .stationFlush ..
  | .passcodeSet .. | .accountConfig .. | .permitConfig .. | .save | .softReset => level = 2
  | _ => False

/-- A request with a level authority is refused LEVEL below that level, whatever else it names, and changes nothing (R121; where
no table orders the checks of a request, that the level comes first is log 12). -/
def Sys2Proof.Claims.RequestsBelowTheirLevelAreRefused : Prop :=
  ∀ (c : Instr) (level : Nat) (s : State), running s → needsLevel c level → s.acu.level < level →
    exec c s = .next ((s.received c).refuse .level)

/-- UNLOCK, LOCK, the lockout, the idle drop and PASSCODE_SET, and requests below their level: all of PasscodesSetTheLevel and
RequestsBelowTheirLevelAreRefused. -/
def Obligations.LevelsFollowThePasscodes : Prop :=
  PasscodesSetTheLevel ∧ RequestsBelowTheirLevelAreRefused

/-- No slot of the grant table holds an id. -/
def Sys2Proof.Claims.freeOf (s : State) (id : Nat) : Prop :=
  ∀ (i : Fin 4) (g : Grant), s.acu.grants[i] = some g → g.id ≠ id

/-- A slot holds a grant with an id, and no other slot holds that id (R129). -/
def Sys2Proof.Claims.holdsGrant (s : State) (id : Nat) (slot : Fin 4) (g : Grant) : Prop :=
  s.acu.grants[slot] = some g ∧ g.id = id
    ∧ ∀ (i : Fin 4) (h : Grant), i ≠ slot → s.acu.grants[i] = some h → h.id ≠ id

/-- The values GRANT_OPEN may name (R130). -/
def Sys2Proof.Claims.grantFits (level : Nat) (axes : AxisSet) (cameras : CameraSet) (ports : PortSet) (gate minutes : Nat) :
    Prop :=
  mayName level ∧ 1 ≤ minutes ∧ minutes ≤ 480 ∧ cameras < (64#8 : CameraSet) ∧ gate ≤ 1
    ∧ (axes ≠ 0 ∨ cameras ≠ 0 ∨ ports ≠ 0 ∨ gate = 1)

/-- A unit, a port or the gate flag named is in the scope of a grant that is OPEN or CLOSING (R130). -/
def Sys2Proof.Claims.scopeTaken (s : State) (axes : AxisSet) (cameras : CameraSet) (ports : PortSet) (gate : Nat) : Prop :=
  ∃ (i : Fin 4) (g : Grant), s.acu.grants[i] = some g
    ∧ (g.axes &&& axes ≠ 0 ∨ g.cameras &&& cameras ≠ 0 ∨ g.ports &&& ports ≠ 0 ∨ (g.gate = true ∧ gate = 1))

/-- The id a new grant takes: the counter plus one, from 255 back to 1, passing over every id a slot holds (R131). -/
def Sys2Proof.Claims.nextId (s : State) (id : Nat) : Prop :=
  let candidate (i : Nat) : Nat := (s.acu.grantCounter + i) % 255 + 1
  ∃ i, id = candidate i ∧ freeOf s id ∧ ∀ j, j < i → ¬ freeOf s (candidate j)

/-- GRANT_OPEN takes its checks in the order of the table: BAD_VALUE (for a gate flag of no list too: log 12), LEVEL, FULL,
BUSY, STATE. Accepted, it fills the lowest free slot with the next id, the level and scope named, opened now and expiring after
the duration, OPEN, with the other fields at their first values; it tells the SWS the id and the ports, and answers OK with the
slot, the id and the expiry. GRANT_EXTEND takes BAD_VALUE, NOT_FOUND, LEVEL, STATE, and BAD_VALUE past 480 minutes from the
opening; accepted, it moves the expiry on and answers it. -/
def Obligations.GrantsOpenAndExtendByTheirTables : Prop :=
  (∀ (level : Nat) (axes : AxisSet) (cameras : CameraSet) (ports : PortSet) (gate minutes : Nat) (s : State), running s →
    let c := Instr.grantOpen level axes cameras ports gate minutes
    let r := s.received c
    let fits := grantFits level axes cameras ports gate minutes
    let full := ∀ i : Fin 4, s.acu.grants[i] ≠ none
    let busy := scopeTaken s axes cameras ports gate
    let other := ∃ p : PortIx, ports.getLsbD p = true ∧ s.cfg.ports[p].policy ≠ .service
    (¬ fits → exec c s = .next (r.refuse .badValue))
    ∧ (fits → s.acu.level < level → exec c s = .next (r.refuse .level))
    ∧ (fits → level ≤ s.acu.level → full → exec c s = .next (r.refuse .full))
    ∧ (fits → level ≤ s.acu.level → ¬ full → busy → exec c s = .next (r.refuse .busy))
    ∧ (fits → level ≤ s.acu.level → ¬ full → ¬ busy → other → exec c s = .next (r.refuse .state))
    ∧ ∀ (slot : Fin 4) (id : Nat), fits → level ≤ s.acu.level → ¬ busy → ¬ other → s.acu.grants[slot] = none →
      (∀ i : Fin 4, i < slot → s.acu.grants[i] ≠ none) → s.acu.grantCounter ≤ 255 → nextId s id →
      let expires := s.tmu.now + minutes * 60000000
      let g : Grant := {
        id := id, level := level, axes := axes, cameras := cameras, ports := ports, gate := decide (gate = 1)
        openedAt := s.tmu.now, expiresAt := expires, state := .opened, terminals := 0, closeCause := none
        closeResult := .clean, forgetsExpired := 0, forgetsOutstanding := none, axesInMotion := none }
      exec c s = .next ((sending (withAcu r { s.acu with
        grants := s.acu.grants.set slot (some g), grantCounter := id }) [.swsGrantOpened id ports]).replyOk
        ([BitVec.ofNat 8 slot, BitVec.ofNat 8 id] ++ be 8 expires)))
  ∧ ∀ (id minutes : Nat) (s : State), running s →
    let c := Instr.grantExtend id minutes
    let r := s.received c
    let fits := 1 ≤ id ∧ id ≤ 255 ∧ 1 ≤ minutes ∧ minutes ≤ 480
    (¬ fits → exec c s = .next (r.refuse .badValue))
    ∧ (fits → freeOf s id → exec c s = .next (r.refuse .notFound))
    ∧ ∀ slot g, fits → holdsGrant s id slot g →
      let expires := g.expiresAt + minutes * 60000000
      (s.acu.level < g.level → exec c s = .next (r.refuse .level))
      ∧ (g.level ≤ s.acu.level → g.state = .closing → exec c s = .next (r.refuse .state))
      ∧ (g.level ≤ s.acu.level → g.state = .opened → g.openedAt + 28800000000 < expires →
        exec c s = .next (r.refuse .badValue))
      ∧ (g.level ≤ s.acu.level → g.state = .opened → expires ≤ g.openedAt + 28800000000 →
        exec c s = .next ((withGrant r slot (some { g with expiresAt := expires })).replyOk (be 8 expires)))

/-- The removal of an enabled HOLD watch told to the FMU (R145, R146). -/
def Sys2Proof.Claims.unholding (w : WatchNo) (x : Watch) : List Instr :=
  match x.kind with
  | .axisPhase k (.fill _) => if x.enabled = true ∧ x.action = .hold then [.holdListRemove k w] else []
  | _ => []

/-- The ACU with a watch cleared from the holder table. -/
def Sys2Proof.Claims.unholder (x : Acu) (w : WatchNo) : Acu :=
  { x with holders := x.holders.map fun h => if h = some w then none else h }

/-- The state with a watch given. -/
def Sys2Proof.Claims.withWatch (s : State) (w : WatchNo) (x : Option Watch) : State :=
  withAcu s { s.acu with watches := s.acu.watches.set w x }

/-- The closing start of a grant: CLOSING with its cause and both waiting fields unknown, each enabled LOCAL watch of the grant
disabled in ascending number, and the start handed to the FMU with the axis set, to the CTU and to the SWS, in that order (R136;
log 37). -/
def Sys2Proof.Claims.beginsClosing (s : State) (slot : Fin 4) (g : Grant) (cause : CloseCause) : State :=
  sending ([(0 : WatchNo), 1, 2, 3].foldl (fun t w => t.disableWatch g.id w) (withGrant s slot (some { g with
    state := .closing, closeCause := some cause, forgetsOutstanding := none, axesInMotion := none })))
    [.fmuGrantClosingStart g.id g.axes, .ctuGrantClosingStart g.id, .swsGrantClosingStart g.id]

/-- GRANT_CLOSE, at any level, begins the closing of an OPEN grant with cause REQUEST and is answered ACCEPTED; a CLOSING grant
is OK and unchanged; an id outside 1 to 255 is BAD_VALUE and one that no slot holds NOT_FOUND. An OPEN grant begins its closing
with cause EXPIRY at its expiry, and not before (log 2); a CLOSING one does not expire. A LOCAL watch of the grant that is
enabled is disabled with its run count 0, its holder cleared, and the removal of a HOLD watch told to the FMU; any other watch
is left as it is. -/
def Sys2Proof.Claims.ClosingsStartByRequestAndExpiry : Prop :=
  (∀ (id : Nat) (s : State), running s →
    let c := Instr.grantClose id
    let r := s.received c
    let fits := 1 ≤ id ∧ id ≤ 255
    (¬ fits → exec c s = .next (r.refuse .badValue))
    ∧ (fits → freeOf s id → exec c s = .next (r.refuse .notFound))
    ∧ ∀ slot g, fits → holdsGrant s id slot g →
      (g.state = .opened → exec c s = .next ((beginsClosing r slot g .request).replyAccepted []))
      ∧ (g.state = .closing → exec c s = .next (r.replyOk [])))
  ∧ (∀ (slot : Fin 4) (s : State), running s →
    let c := Instr.grantExpiry slot
    let r := s.received c
    (∀ g, s.acu.grants[slot] = some g → g.state = .opened → g.expiresAt ≤ s.tmu.now →
      exec c s = .next (beginsClosing r slot g .expiry))
    ∧ ((∀ g, s.acu.grants[slot] = some g → g.state = .closing ∨ s.tmu.now < g.expiresAt) → exec c s = .next r))
  ∧ ∀ (id : Nat) (w : WatchNo) (s : State),
    (∀ x, s.acu.watches[w] = some x → x.scope = .localTo id → x.enabled = true →
      s.disableWatch id w = sending (withWatch (withAcu s (unholder s.acu w)) w
        (some { x with enabled := false, run := 0 })) (unholding w x))
    ∧ ((∀ x, s.acu.watches[w] = some x → x.scope = .localTo id → x.enabled = false) → s.disableWatch id w = s)

/-- The grants a report of R138 concerns: the one with the id it carries, or a CLOSING one whose axis set holds the axis. -/
def Sys2Proof.Claims.reaches (g : Grant) : GrantReport → Prop
  | .axesInMotion id _ => g.id = id
  | .homingStarted k => g.state = .closing ∧ g.axes.getLsbD k = true
  | .atRest k _ => g.state = .closing ∧ g.axes.getLsbD k = true
  | .closingForgets id _ => g.id = id
  | .resolvedDone id _ => g.id = id
  | .resolvedExpired id _ => g.id = id
  | .terminals id _ => g.id = id

/-- The effect of a report on the grant (R138): an unknown field stays unknown but at its closing-start report. -/
def Sys2Proof.Claims.reported (g : Grant) (report : GrantReport) (g' : Grant) : Prop :=
  (∃ id axes, report = .axesInMotion id axes ∧ g.state = .closing ∧ g' = { g with axesInMotion := some axes })
  ∨ (∃ k, report = .homingStarted k ∧ g' = { g with axesInMotion := g.axesInMotion.map fun a => a ||| (1#8 <<< k.val) })
  ∨ (∃ k m, report = .atRest k m ∧ g' = { g with axesInMotion := g.axesInMotion.map fun a => a &&& ~~~(1#8 <<< k.val) })
  ∨ (∃ id n, report = .closingForgets id n ∧ g.state = .closing
    ∧ g' = { g with forgetsOutstanding := some n, terminals := 0 })
  ∨ (∃ id n, report = .resolvedDone id n ∧ g' = { g with forgetsOutstanding := g.forgetsOutstanding.map fun _ => n })
  ∨ (∃ id n, report = .resolvedExpired id n ∧ g' = { g with
    forgetsOutstanding := g.forgetsOutstanding.map fun _ => n, closeResult := .unconfirmed
    forgetsExpired := g.forgetsExpired + 1 })
  ∨ ∃ id n, report = .terminals id n ∧ g' = { g with terminals := n }

/-- A report of R138 reaches each slot in turn, in ascending number (log 37): a grant it concerns takes its effect, and a
CLOSING grant that then has no axis in motion and no forget outstanding, both known, completes: the FMU is told with the axis
set and the SWS with the id, GRANT_CLOSED is posted, and the slot is free. A report that concerns no grant changes nothing. -/
def Obligations.ClosingReportsMoveTheGrantToItsCompletion : Prop :=
  (∀ (report : GrantReport) (s : State), running s → exec (.closingReport report) s = .next
    ([(0 : Fin 4), 1, 2, 3].foldl (fun t i => t.grantReport report i) (s.received (.closingReport report))))
  ∧ ∀ (report : GrantReport) (slot : Fin 4) (s : State),
    ((∀ g, s.acu.grants[slot] = some g → ¬ reaches g report) → s.grantReport report slot = s)
    ∧ ∀ g g', s.acu.grants[slot] = some g → reaches g report → reported g report g' →
      let ended := g'.state = .closing ∧ g'.axesInMotion = some 0 ∧ g'.forgetsOutstanding = some 0
      (¬ ended → s.grantReport report slot = withGrant s slot (some g'))
      ∧ (∀ cause, ended → g'.closeCause = some cause → s.grantReport report slot
        = (sending (withGrant s slot none) [.fmuGrantCompletion g'.axes, .swsGrantClosed g'.id]).post
          (.grantClosed g'.id g'.level cause g'.closeResult g'.forgetsExpired g'.openedAt))

/-- One axis at the closing start of a grant that covers it (R137). -/
def Sys2Proof.Claims.closesAxis (s : State) (k : AxisNo) (t : State) : Prop :=
  let a := s.axis k
  let tested := a.valveTestEnd ≠ none
  let driven := a.motion = .moving ∨ a.motion = .homing
  (a.duty = .auto ∧ t = s)
  ∨ (a.duty = .manual ∧ tested ∧ t = notifying s k { a with valve := false, valveTestEnd := none } .stopped)
  ∨ (a.duty = .manual ∧ ¬ tested ∧ driven ∧ a.profile ≠ none ∧ 0 < a.needed
    ∧ t = unlessLimit (withAxis s k (slowing a)) k)
  ∨ (a.duty = .manual ∧ ¬ tested ∧ driven ∧ a.profile ≠ none ∧ a.needed = 0 ∧ t = comesToRest s k a (stoppedIn a) .stopped)
  ∨ (a.duty = .manual ∧ ¬ tested ∧ ¬ driven ∧ t = s)

/-- At a closing start the FMU acts on each axis of the grant's set in MANUAL duty, in ascending number (log 37): a valve test
ends uncounted, a move or homing slows down or completes at once, and all else is left; it then reports which of them are not at
rest. At the completion each axis of the set in MANUAL duty returns to AUTO, without a check (log 21), without a position,
UNHOMED or still HALTED, and no other changes. -/
def Sys2Proof.Claims.TheFmuClosesAndReturnsAGrantsAxes : Prop :=
  (∀ (id : Nat) (axes : AxisSet) (s : State), running s →
    let c := Instr.fmuGrantClosingStart id axes
    let t := (axisMembers axes).foldl (fun t k => t.closeAxis k) (s.received c)
    ∃ still : AxisSet, exec c s = .next (sending t [.closingReport (.axesInMotion id still)])
      ∧ ∀ k : AxisNo, still.getLsbD k = (axes.getLsbD k && decide ((t.axis k).duty = .manual ∧ (t.axis k).profile ≠ none)))
  ∧ (∀ (k : AxisNo) (s t : State), closesAxis s k t → s.closeAxis k = t)
  ∧ ∀ (axes : AxisSet) (s : State), running s →
    let c := Instr.fmuGrantCompletion axes
    ∃ v, exec c s = .next { s.received c with fmu := { s.fmu with axes := v } }
      ∧ ∀ k : AxisNo, v[k] = if axes.getLsbD k = true ∧ (s.axis k).duty = .manual then
        { s.axis k with
          duty := .auto, position := none, valve := false
          motion := if (s.axis k).motion = .halted then .halted else .unhomed }
        else s.axis k

/-- A grant's closing starts by request and expiry and reaches its watches and axes: all of ClosingsStartByRequestAndExpiry and
TheFmuClosesAndReturnsAGrantsAxes. -/
def Obligations.ClosingsStartAndReachTheAxes : Prop :=
  ClosingsStartByRequestAndExpiry ∧ TheFmuClosesAndReturnsAGrantsAxes

/-- A grant covers the unit of an account (R141). -/
def Sys2Proof.Claims.coversUnit (g : Grant) : Account → Prop
  | .axis k => g.axes.getLsbD k = true
  | .camera k => g.cameras.getLsbD k = true
  | .gate => g.gate = true

/-- The account a code names (R168). -/
def Sys2Proof.Claims.numberOf : Account → Nat
  | .axis k => k
  | .camera k => 8 + k
  | .gate => 14

/-- The grant check of a member gives the first of NO_GRANT, for an id that no slot holds and for a member that is not in the
grant's set, STATE, for a CLOSING grant, and the passing of the member, and that for an axis and for a camera. ACCOUNT_RESET is
refused BAD_VALUE for an id or account out of range, as its grant check gives, and NO_GRANT under a level-1 grant; under an OPEN
level-2 grant over the unit the account is reset as AccountsFollowTheirThresholds says, and the answer is OK. -/
def Obligations.GrantChecksAndAccountResets : Prop :=
  (∀ (id : Nat) (s : State),
    (freeOf s id → (∀ k : AxisNo, s.grantCheckAxis id k = some .noGrant) ∧ ∀ k : CameraNo, s.grantCheckCamera id k = some .noGrant)
    ∧ ∀ slot g, holdsGrant s id slot g →
      let standing : Option Reason := if g.state = .closing then some .state else none
      (∀ k : AxisNo, s.grantCheckAxis id k = if g.axes.getLsbD k = true then standing else some .noGrant)
      ∧ ∀ k : CameraNo, s.grantCheckCamera id k = if g.cameras.getLsbD k = true then standing else some .noGrant)
  ∧ ∀ (id n : Nat) (s : State), running s →
    let c := Instr.accountReset id n
    let r := s.received c
    let refused (x : Reason) : Prop := exec c s = .next (r.refuse x)
    (id = 0 ∨ 256 ≤ id ∨ 15 ≤ n → refused .badValue)
    ∧ ∀ a : Account, numberOf a = n → 1 ≤ id → id ≤ 255 →
      (freeOf s id → refused .noGrant)
      ∧ ∀ slot g, holdsGrant s id slot g →
        (¬ coversUnit g a → refused .noGrant)
        ∧ (coversUnit g a → g.state = .closing → refused .state)
        ∧ (coversUnit g a → g.state = .opened → g.level ≠ 2 → refused .noGrant)
        ∧ (coversUnit g a → g.state = .opened → g.level = 2 → exec c s = .next ((r.resetAccount a).replyOk []))

/-! ## Watches (chapter 7) -/

/-- The kinds with their actions (R144). -/
def Sys2Proof.Claims.suits (kind : WatchKind) (action : WatchAction) : Prop :=
  action = .notice ∨ action = .withdraw
  ∨ (action = .sample ∧ ((∃ n stage, kind = .serial n stage) ∨ ∃ k n, kind = .cameraNg k n))
  ∨ (action = .hold ∧ ∃ k p, kind = .axisPhase k (.fill p))

/-- A kind that the operands of a WATCH_SET name, each in its range (R144). -/
def Sys2Proof.Claims.operandsName (operands : WatchOperands) (kind : WatchKind) : Prop :=
  (∃ n stage, 1 ≤ n ∧ n ≤ 4294967295 ∧ operands = .serial n (stageCode stage) ∧ kind = .serial n stage)
  ∨ (∃ (k : AxisNo) (phase : EntryPhase), operands = .axisPhase k (entryPhaseCode phase) ∧ kind = .axisPhase k phase)
  ∨ (∃ (k : CameraNo) (n : Nat), 1 ≤ n ∧ n ≤ 15 ∧ operands = .cameraNg k n ∧ kind = .cameraNg k n)
  ∨ ∃ a, operands = .station a ∧ kind = .station a

/-- A scope that a request on a watch names: GLOBAL with no grant id, LOCAL with one of 1 to 255 (R145; the grant id of GLOBAL
is log 11's choice). -/
def Sys2Proof.Claims.scopeNames (scope grant : Nat) (x : WatchScope) : Prop :=
  (scope = 0 ∧ grant = 0 ∧ x = .global) ∨ (scope = 1 ∧ 1 ≤ grant ∧ grant ≤ 255 ∧ x = .localTo grant)

/-- The watch that a WATCH_SET writes, when every value is in range (R145). -/
def Sys2Proof.Claims.settingOf (operands : WatchOperands) (action scope grant enable : Nat) (x : Watch) : Prop :=
  operandsName operands x.kind ∧ watchActionCode x.action = action ∧ suits x.kind x.action ∧ scopeNames scope grant x.scope
    ∧ enable ≤ 1 ∧ x = ⟨x.kind, x.action, x.scope, decide (enable = 1), false, 0, none, none, 0⟩

/-- The grant check of a LOCAL request on a watch, with a member or none: its reason, or none when it passes (R128, R145). -/
def Sys2Proof.Claims.localCheck (s : State) (id : Nat) (member : Option AxisNo) (reason : Option Reason) : Prop :=
  (freeOf s id ∧ reason = some .noGrant)
  ∨ ∃ slot g, holdsGrant s id slot g ∧
    ((∃ k, member = some k ∧ g.axes.getLsbD k = false ∧ reason = some .noGrant)
    ∨ ((∀ k, member = some k → g.axes.getLsbD k = true) ∧ g.state = .closing ∧ reason = some .state)
    ∨ ((∀ k, member = some k → g.axes.getLsbD k = true) ∧ g.state = .opened ∧ reason = none))

/-- The authority of a request on a watch (R145, R146). -/
def Sys2Proof.Claims.watchCheck (s : State) (scope : WatchScope) (member : Option AxisNo) (reason : Option Reason) : Prop :=
  (scope = .global ∧ s.acu.level < 2 ∧ reason = some .level) ∨ (scope = .global ∧ 2 ≤ s.acu.level ∧ reason = none)
  ∨ ∃ id, scope = .localTo id ∧ localCheck s id member reason

/-- The watched axis of a HOLD watch, the member of its grant check (R145). -/
def Sys2Proof.Claims.heldAxis (x : Watch) : Option AxisNo :=
  match x.action, x.kind with
  | .hold, .axisPhase k _ => some k
  | _, _ => none

/-- A SET watch that a LOCAL WATCH_SET may not write: GLOBAL, or LOCAL under another id that a slot holds (R145). -/
def Sys2Proof.Claims.keptFrom (s : State) (id : Nat) (old : Watch) : Prop :=
  old.scope = .global ∨ ∃ other, old.scope = .localTo other ∧ other ≠ id ∧ ¬ freeOf s other

/-- The state with a watch dropped: FREE, out of the holder table, its removal told to the FMU (R145). -/
def Sys2Proof.Claims.drops (s : State) (w : WatchNo) (t : State) : Prop :=
  (s.acu.watches[w] = none ∧ t = s)
  ∨ ∃ x, s.acu.watches[w] = some x ∧ t = sending (withWatch (withAcu s (unholder s.acu w)) w none) (unholding w x)

/-- The report of a new enabled HOLD watch to the FMU (R145). -/
def Sys2Proof.Claims.holding (w : WatchNo) (x : Watch) : List Instr :=
  match x.kind with
  | .axisPhase k (.fill p) => if x.enabled = true ∧ x.action = .hold then [.holdListAdd k w p] else []
  | _ => []

/-- WATCH_SET takes its checks in the order of the table: BAD_VALUE (for a kind, a scope or an enable of no list too: log 12),
LEVEL, the grant check, STATE. Accepted, it drops the old watch, writes the new one with no hits, tells the FMU of a new enabled
HOLD watch, and is answered OK. WATCH_CLEAR is BAD_VALUE for a scope or grant id out of range, then as its authority, then
BAD_VALUE for a number above 3, NOT_FOUND for a FREE watch and STATE for one that its form does not clear, in the model's order
(log 12); accepted, it drops the watch. WATCH_ACK at level 1 clears the hit flag of a SET watch. AXIS_RESUME answers STATE for
an axis without a holder, and otherwise clears the holder and releases the hold at the FMU. -/
def Obligations.WatchesAreSetClearedAndAcknowledged : Prop :=
  (∀ (n : Nat) (operands : WatchOperands) (action scope grant enable : Nat) (s : State), running s →
    let c := Instr.watchSet n operands action scope grant enable
    let r := s.received c
    let fits := n < 4 ∧ ∃ x, settingOf operands action scope grant enable x
    (¬ fits → exec c s = .next (r.refuse .badValue))
    ∧ ∀ (w : WatchNo) (x : Watch), w.val = n → settingOf operands action scope grant enable x →
      (∀ reason, watchCheck s x.scope (heldAxis x) (some reason) → exec c s = .next (r.refuse reason))
      ∧ (∀ id old, watchCheck s x.scope (heldAxis x) none → x.scope = .localTo id → s.acu.watches[w] = some old →
        keptFrom s id old → exec c s = .next (r.refuse .state))
      ∧ ∀ t, watchCheck s x.scope (heldAxis x) none →
        (∀ id old, x.scope = .localTo id → s.acu.watches[w] = some old → ¬ keptFrom s id old) → drops r w t →
        exec c s = .next ((sending (withWatch t w (some x)) (holding w x)).replyOk []))
  ∧ (∀ (n scope grant : Nat) (s : State), running s →
    let c := Instr.watchClear n scope grant
    let r := s.received c
    ((¬ ∃ x, scopeNames scope grant x) → exec c s = .next (r.refuse .badValue))
    ∧ ∀ x, scopeNames scope grant x →
      let clearable (y : Watch) : Prop := y.scope = x ∨ (x = .global ∧ ∃ id, y.scope = .localTo id ∧ freeOf s id)
      (∀ reason, watchCheck s x none (some reason) → exec c s = .next (r.refuse reason))
      ∧ (watchCheck s x none none → 4 ≤ n → exec c s = .next (r.refuse .badValue))
      ∧ ∀ w : WatchNo, watchCheck s x none none → w.val = n →
        (s.acu.watches[w] = none → exec c s = .next (r.refuse .notFound))
        ∧ (∀ y, s.acu.watches[w] = some y → ¬ clearable y → exec c s = .next (r.refuse .state))
        ∧ (∀ y t, s.acu.watches[w] = some y → clearable y → drops r w t → exec c s = .next (t.replyOk [])))
  ∧ (∀ (n : Nat) (s : State), running s →
    let c := Instr.watchAck n
    let r := s.received c
    (s.acu.level = 0 → exec c s = .next (r.refuse .level))
    ∧ (1 ≤ s.acu.level → 4 ≤ n → exec c s = .next (r.refuse .badValue))
    ∧ ∀ w : WatchNo, 1 ≤ s.acu.level → w.val = n →
      (s.acu.watches[w] = none → exec c s = .next (r.refuse .notFound))
      ∧ (∀ x, s.acu.watches[w] = some x →
        exec c s = .next ((withWatch r w (some { x with hitFlag := false })).replyOk [])))
  ∧ ∀ (k : AxisNo) (s : State),
    (s.acu.holders[k] = none → resumeMember k s = (s, .refused .state))
    ∧ ∀ w, s.acu.holders[k] = some w → resumeMember k s
      = (sending (withAcu s { s.acu with holders := s.acu.holders.set k none }) [.holdRelease k w], .ok)

/-- The subject with which a report other than a verdict hits a watch (R147, R148, R151). -/
def Sys2Proof.Claims.hitBy (w : WatchNo) (x : Watch) (report : Report) (subject : WatchSubject) : Prop :=
  (∃ n, x.kind = .serial n .infeed ∧ report = .newRecord n ∧ subject = .serial n .infeed none)
  ∨ (∃ n k, x.kind = .serial n .fillStart ∧ report = .fillStart k n ∧ subject = .serial n .fillStart none)
  ∨ (∃ n k, x.kind = .serial n (.camera k) ∧ report = .lineStage n k ∧ subject = .serial n (.camera k) none)
  ∨ (∃ n how reason, x.kind = .serial n .gate ∧ report = .departure n how reason
    ∧ subject = .serial n .gate (some (how, reason)))
  ∨ (∃ k p n holder, x.kind = .axisPhase k (.fill p) ∧ report = .phaseEntry k p n holder
    ∧ subject = .axisPhase k (.fill p) (some n) (decide (holder = some w)) none)
  ∨ (∃ k p n, x.kind = .axisPhase k (.fill p) ∧ report = .holdAfterRelease k p n w
    ∧ (∀ holds cause, x.subject ≠ some (.axisPhase k (.fill p) (some n) holds cause))
    ∧ subject = .axisPhase k (.fill p) (some n) true none)
  ∨ (∃ k cause before, x.kind = .axisPhase k .halted ∧ report = .halt k cause before
    ∧ subject = .axisPhase k .halted none false (some cause))
  ∨ ∃ a p admits, x.kind = .station a ∧ report = .query a p admits ∧ subject = .station a p admits

/-- The serial a subject names (R148). -/
def Sys2Proof.Claims.serialNamed : WatchSubject → Option Nat
  | .serial n _ _ => some n
  | .axisPhase _ _ n _ _ => n
  | .cameraNg _ _ n => some n
  | .station _ _ _ => none

/-- The state after a watch takes a hit (R148, R150). -/
def Sys2Proof.Claims.hits (s : State) (w : WatchNo) (x : Watch) (subject : WatchSubject) : State :=
  let x' := { x with
    hitFlag := true, hitCount := min (x.hitCount + 1) 65535, subject := some subject
    firstHit := if x.hitCount = 0 then s.stamp else x.firstHit }
  sending ((withWatch s w (some x')).post (.watchHit w x.kind x.action x'.hitCount subject))
    (((serialNamed subject).toList.map fun n => .watchReport n w (decide (x.action = .sample)))
      ++ if x.action = .withdraw then [.eventSourceLatch .watchStop] else [])

/-- A report reaches the four watches in ascending number and then the holder table. An enabled watch whose condition it meets
takes one hit: its flag, count, first stamp and subject, WATCH_HIT, the watch report where the subject names a serial, and
WATCH_STOP for WITHDRAW. A CAMERA_NG watch counts the NG verdicts of its camera, hits with the run count back at 0 when they
reach n, and ends its run at any other verdict. Any other watch is left alone, a disabled CAMERA_NG watch with its run count too
(log 38). A holder follows the phase entries, the holds and the releases. -/
def Obligations.ReportsGiveHitsInWatchOrder : Prop :=
  (∀ (report : Report) (s : State), running s → exec (.acuReport report) s = .next
    (([(0 : WatchNo), 1, 2, 3].foldl (fun t w => t.atWatch report w) (s.received (.acuReport report))).noteHolder report))
  ∧ (∀ (report : Report) (w : WatchNo) (s : State),
    ((∀ x, s.acu.watches[w] = some x → x.enabled = false) → s.atWatch report w = s)
    ∧ ∀ x, s.acu.watches[w] = some x → x.enabled = true →
      let counts := ∃ k n serial v, x.kind = .cameraNg k n ∧ report = .verdict serial k v
      (∀ subject, hitBy w x report subject → s.atWatch report w = hits s w x subject)
      ∧ (∀ k n serial, x.kind = .cameraNg k n → report = .verdict serial k .ng →
        (n ≤ x.run + 1 → s.atWatch report w = hits s w { x with run := 0 } (.cameraNg k n serial))
        ∧ (x.run + 1 < n → s.atWatch report w = withWatch s w (some { x with run := x.run + 1 })))
      ∧ (∀ k n serial v, x.kind = .cameraNg k n → report = .verdict serial k v → v ≠ .ng →
        s.atWatch report w = withWatch s w (some { x with run := 0 }))
      ∧ ((¬ ∃ subject, hitBy w x report subject) → ¬ counts → s.atWatch report w = s))
  ∧ ∀ s : State,
    let holds (k : AxisNo) (h : Option WatchNo) : State := withAcu s { s.acu with holders := s.acu.holders.set k h }
    (∀ k p n w, s.noteHolder (.phaseEntry k p n (some w)) = holds k (some w)
      ∧ s.noteHolder (.holdAfterRelease k p n w) = holds k (some w)
      ∧ s.noteHolder (.phaseEntry k p n none) = s)
    ∧ ∀ (k : AxisNo) (w : WatchNo), s.noteHolder (.release k w) = if s.acu.holders[k] = some w then holds k none else s

/-! ## Machine time and runtime accounts (chapter 8) -/

/-- The state with the TMU's state given. -/
def Sys2Proof.Claims.withTmu (s : State) (x : Tmu) : State := { s with tmu := x }

/-- The TMU with hall time at whole microseconds, held in parts of 1/1,000,000,000, and no phase term (R159 to R161). -/
def Sys2Proof.Claims.setTo (x : Tmu) (hall : Nat) : Tmu :=
  { x with hallParts := some (hall * 1000000000), phaseTerm := 0, phaseEnd := none }

/-- The TMU with what every mark sets: the last offset, the last mark, the marks taken, the holdover deadline (R160). -/
def Sys2Proof.Claims.marked (x : Tmu) (offset : Option Int) : Tmu :=
  { x with
    lastOffset := offset, lastMark := some x.now, marks := min (x.marks + 1) 4294967295
    holdoverDeadline := some (x.now + 3000000) }

/-- A number held to plus or minus 100,000 ppb. -/
def Sys2Proof.Claims.heldRate (x : Int) : Int := max (-100000) (min 100000 x)

/-- A time mark's offset: its value less the hall time, where the clock has one (R160). -/
def Sys2Proof.Claims.offsetIs (s : State) (hall : Nat) (offset : Option Int) : Prop :=
  (s.stamp = none ∧ offset = none) ∨ ∃ h : Nat, s.stamp = some h ∧ offset = some ((hall : Int) - h)

/-- TIME_SET at level 1 is refused BAD_VALUE past 64 bits and STATE in LOCKED; else it sets hall time, the phase term 0, the
clock FREE without a holdover deadline, posts CLOCK_STATE, or CLOCK_STEP from FREE, ends CLOCK_HOLDOVER, and is answered OK. A
mark in UNSET, FREE or HOLDOVER sets hall time and locks; in LOCKED one off by more than 1,000 us steps, counted and posted, and
any other slews the frequency term by four times the offset, held to 100,000 ppb, and the phase term to 125 times it for 8 s.
The phase term ends at its end. At the holdover deadline, and neither before its time (log 2), a LOCKED clock enters HOLDOVER,
counted, posted, and CLOCK_HOLDOVER active. -/
def Sys2Proof.Claims.TheHallClockFollowsItsMarks : Prop :=
  (∀ (hall : Nat) (s : State), running s →
    let c := Instr.timeSet hall
    let r := s.received c
    let x := s.tmu
    let y := { setTo x hall with clock := .free, holdoverDeadline := none }
    (s.acu.level = 0 → exec c s = .next (r.refuse .level))
    ∧ (1 ≤ s.acu.level → 18446744073709551615 < hall → exec c s = .next (r.refuse .badValue))
    ∧ (1 ≤ s.acu.level → hall ≤ 18446744073709551615 →
      (x.clock = .locked → exec c s = .next (r.refuse .state))
      ∧ (∀ old : Nat, x.clock = .free → s.stamp = some old →
        exec c s = .next (((withTmu r y).post (.clockStep false ((hall : Int) - old))).replyOk []))
      ∧ (x.clock = .unset ∨ x.clock = .holdover →
        exec c s = .next ((sending ((withTmu r y).post (.clockState x.clock .free .timeSet none))
          (change .clockHoldover (decide (x.clock = .holdover)) false)).replyOk []))))
  ∧ (∀ (hall : Nat) (offset : Option Int) (s : State), awake s → offsetIs s hall offset →
    let c := Instr.timeMark hall
    let r := s.received c
    let x := marked s.tmu offset
    (s.tmu.clock ≠ .locked → exec c s = .next (sending
      ((withTmu r { setTo x hall with clock := .locked }).post (.clockState s.tmu.clock .locked .mark offset))
      (change .clockHoldover (decide (s.tmu.clock = .holdover)) false)))
    ∧ ∀ d : Int, s.tmu.clock = .locked → offset = some d →
      (d < -1000 ∨ 1000 < d → exec c s
        = .next ((withTmu r { setTo x hall with steps := min (x.steps + 1) 4294967295 }).post (.clockStep true d)))
      ∧ (-1000 ≤ d → d ≤ 1000 → exec c s = .next (withTmu r { x with
        frequency := heldRate (x.frequency + 4 * d), phaseTerm := 125 * d, phaseEnd := some (x.now + 8000000) })))
  ∧ (∀ s : State, running s →
    let r := s.received .phaseTermExpiry
    (∀ t, s.tmu.phaseEnd = some t → t ≤ s.tmu.now →
      exec .phaseTermExpiry s = .next (withTmu r { s.tmu with phaseTerm := 0, phaseEnd := none }))
    ∧ (s.tmu.phaseEnd = none ∨ (∃ t, s.tmu.phaseEnd = some t ∧ s.tmu.now < t) → exec .phaseTermExpiry s = .next r))
  ∧ ∀ s : State, running s →
    let r := s.received .holdoverExpiry
    (∀ t, s.tmu.clock = .locked → s.tmu.holdoverDeadline = some t → t ≤ s.tmu.now →
      exec .holdoverExpiry s = .next (sending ((withTmu r { s.tmu with
        clock := .holdover, phaseTerm := 0, phaseEnd := none, holdoverDeadline := none
        holdovers := min (s.tmu.holdovers + 1) 4294967295 }).post (.clockState .locked .holdover .holdover none))
        [.sourceActivation .clockHoldover]))
    ∧ (s.tmu.clock ≠ .locked ∨ s.tmu.holdoverDeadline = none
      ∨ (∃ t, s.tmu.holdoverDeadline = some t ∧ s.tmu.now < t) → exec .holdoverExpiry s = .next r)

/-- The place of an account in the order of ACCOUNT_READ (R170). -/
def Sys2Proof.Claims.accountAt (x : Tmu) (a : Account) : AccountRecord :=
  match a with
  | .axis k => x.accounts[k.val]
  | .camera k => x.accounts[8 + k.val]
  | .gate => x.accounts[14]

/-- The TMU with one account given. -/
def Sys2Proof.Claims.withAccount (x : Tmu) (a : Account) (r : AccountRecord) : Tmu :=
  match a with
  | .axis k => { x with accounts := x.accounts.set k.val r }
  | .camera k => { x with accounts := x.accounts.set (8 + k.val) r }
  | .gate => { x with accounts := x.accounts.set 14 r }

/-- The state of a count against its thresholds (R165). -/
def Sys2Proof.Claims.wornTo (count warn alarm : Nat) (state : AlarmState) : Prop :=
  (alarm ≠ 0 ∧ alarm ≤ count ∧ state = .alarm)
  ∨ (¬ (alarm ≠ 0 ∧ alarm ≤ count) ∧ warn ≠ 0 ∧ warn ≤ count ∧ state = .warn)
  ∨ (¬ (alarm ≠ 0 ∧ alarm ≤ count) ∧ ¬ (warn ≠ 0 ∧ warn ≤ count) ∧ state = .normal)

/-- A change of an account's state handed to the unit's owner: the entry into or the exit from ALARM of an axis to the FMU, the
condition of CAMERA_OVERDUE or GATE_OVERDUE to the PML (R167). -/
def Sys2Proof.Claims.handing (x y : Tmu) (a : Account) (old new : AlarmState) : List Instr :=
  let overdue (z : Tmu) : Bool := decide (∃ k : CameraNo, (accountAt z (.camera k)).state = .alarm)
  match a with
  | .axis k => if new = .alarm then [.accountAlarmEntry k] else if old = .alarm then [.accountAlarmExit k] else []
  | .camera _ => change .cameraOverdue (overdue x) (overdue y)
  | .gate => change .gateOverdue (decide (old = .alarm)) (decide (new = .alarm))

/-- An account given anew with its state set from its count; a change of state is posted and handed on (R165, R167). -/
def Sys2Proof.Claims.accountSet (s : State) (a : Account) (r : AccountRecord) (cause : AccountCause) (t : State) : Prop :=
  ∃ state, wornTo r.count r.warn r.alarm state ∧
    let old := (accountAt s.tmu a).state
    let y := withAccount s.tmu a { r with state := state }
    (old = state ∧ t = withTmu s y)
    ∨ (old ≠ state ∧ t = sending ((withTmu s y).post (.accountState a old state r.count cause))
        (handing s.tmu y a old state))

/-- A counting event adds one to the count of its account, up to 4,294,967,295. ACCOUNT_CONFIG at level 2 is refused BAD_VALUE
for an account, a threshold or a pair of them out of range; accepted, it sets both thresholds, marks the store dirty and answers
the new state. A reset sets the count to 0 and stamps it, and marks the store dirty. Each sets the account's state from its
count, and a change of state is posted with its cause and handed to the unit's owner. Nothing else changes. -/
def Obligations.AccountsFollowTheirThresholds : Prop :=
  (∀ (a : Account) (s t : State), running s →
    let c := Instr.accountCount a
    let r := accountAt s.tmu a
    accountSet (s.received c) a { r with count := min (r.count + 1) 4294967295 } .count t → exec c s = .next t)
  ∧ (∀ (n warn alarm : Nat) (s : State), running s → 2 ≤ s.acu.level →
    let c := Instr.accountConfig n warn alarm
    let r := s.received c
    let fits := warn ≤ 4294967295 ∧ alarm ≤ 4294967295 ∧ (warn ≠ 0 → alarm ≠ 0 → warn ≤ alarm)
    (15 ≤ n ∨ ¬ fits → exec c s = .next (r.refuse .badValue))
    ∧ ∀ (a : Account) (t : State), numberOf a = n → fits →
      accountSet r a { accountAt s.tmu a with warn := warn, alarm := alarm } .config t →
      exec c s = .next ((withSettings t t.cfg).replyOk [BitVec.ofNat 8 (alarmStateCode (accountAt t.tmu a).state)]))
  ∧ (∀ (n warn alarm : Nat) (s : State), running s → s.acu.level < 2 →
    exec (.accountConfig n warn alarm) s = .next ((s.received (.accountConfig n warn alarm)).refuse .level))
  ∧ ∀ (a : Account) (s t : State),
    accountSet s a { accountAt s.tmu a with count := 0, lastReset := s.stamp } .reset t →
    s.resetAccount a = withSettings t t.cfg

/-- One microsecond moves run time on by one. Hall time moves on by one microsecond times one plus the rate correction, the
frequency term plus the phase term held to plus or minus 100,000 ppb, its fraction carried on; while UNSET it has no value and
does not advance. -/
def Sys2Proof.Claims.HallTimeRunsAtTheRate : Prop :=
  ∀ s : State,
    (s.tmu.clock = .unset → s.advanceTime = withTmu s { s.tmu with now := s.tmu.now + 1 })
    ∧ ∀ parts : Nat, s.tmu.clock ≠ .unset → s.tmu.hallParts = some parts →
      let next : Int := parts + 1000000000 + heldRate (s.tmu.frequency + s.tmu.phaseTerm)
      next.toNat / 1000000000 ≤ 18446744073709551615 →
      s.advanceTime = withTmu s { s.tmu with now := s.tmu.now + 1, hallParts := some next.toNat }

/-- Run time and hall time run, and TIME_SET, marks and expiries move the hall clock: all of TheHallClockFollowsItsMarks and
HallTimeRunsAtTheRate. -/
def Obligations.TheClocksRunAndFollowTheirMarks : Prop :=
  TheHallClockFollowsItsMarks ∧ HallTimeRunsAtTheRate

/-! ## The line permit (chapter 9) -/

/-- The state with a fault source given. -/
def Sys2Proof.Claims.withSource (s : State) (src : FaultSource) (x : Source) : State :=
  { s with pml := { s.pml with sources := s.pml.sources.set (sourceNo src) x } }

/-- The configuration of a source. -/
def Sys2Proof.Claims.configOf (s : State) (src : FaultSource) : SourceSettings := s.cfg.sources[sourceNo src]

/-- The fields of a source. -/
def Sys2Proof.Claims.fieldsOf (s : State) (src : FaultSource) : Source := s.pml.sources[sourceNo src]

/-- A source with its in effect field set from the others: enabled, and latched in mode LATCH, or active for its extension in mode
LIVE (R176). -/
def Sys2Proof.Claims.weighs (c : SourceSettings) (now : RunTime) (x y : Source) : Prop :=
  y = { x with inEffect := y.inEffect }
    ∧ (y.inEffect = true ↔ c.enable = true ∧ ((c.mode = .latch ∧ x.latched = true)
      ∨ (c.mode = .live ∧ x.active = true ∧ ∃ t, x.since = some t ∧ t + c.extension * 100000 ≤ now)))

/-- PERMIT set from the sixteen sources, with one PERMIT_CHANGED when its level changes (R177). -/
def Sys2Proof.Claims.settles (s : State) (src : FaultSource) (cause : PermitCause) (t : State) : Prop :=
  let high := ∀ n : Fin 16, s.pml.sources[n].inEffect = false
  ((s.pml.permit = true ↔ high) ∧ t = s)
  ∨ (¬ (s.pml.permit = true ↔ high) ∧ ∃ inEffect : BitVec 16,
      (∀ n : Fin 16, inEffect.getLsbD n = s.pml.sources[n].inEffect)
      ∧ t = State.post { s with pml := { s.pml with permit := !s.pml.permit } }
        (.permitChanged (!s.pml.permit) src cause inEffect))

/-- An activation of an inactive condition source makes it active since now and latched, and posts FAULT; a deactivation of an
active one makes it inactive and keeps the latch; a latch of an event source latches it and posts FAULT each time; an extension
that runs out takes the source into effect. Each weighs the source and settles PERMIT with its cause. What repeats a state, an
extension that has not run out (log 2), and a report of the other sort of source (log 36) change nothing. -/
def Obligations.SourcesRiseAndFallByTheirReports : Prop :=
  ∀ (src : FaultSource) (s : State), running s →
    let x := fieldsOf s src
    let c := configOf s src
    let event := src.isEvent = true
    let on := Instr.sourceActivation src
    let off := Instr.sourceDeactivation src
    let latch := Instr.eventSourceLatch src
    let ends := Instr.extensionExpiry src
    let now := s.tmu.now
    (event ∨ x.active = true → exec on s = .next (s.received on))
    ∧ (∀ y t, ¬ event → x.active = false → weighs c now { x with active := true, latched := true, since := some now } y →
      settles ((withSource (s.received on) src y).post (.fault src .activation c.enable c.mode c.extension y.inEffect)) src
        .activation t → exec on s = .next t)
    ∧ (x.active = false → exec off s = .next (s.received off))
    ∧ (∀ y t, x.active = true → weighs c now { x with active := false, since := none } y →
      settles (withSource (s.received off) src y) src .deactivation t → exec off s = .next t)
    ∧ (¬ event → exec latch s = .next (s.received latch))
    ∧ (∀ y t, event → weighs c now { x with latched := true } y →
      settles ((withSource (s.received latch) src y).post (.fault src .latch c.enable c.mode c.extension y.inEffect)) src
        .latch t → exec latch s = .next t)
    ∧ (∀ t, c.enable = true → c.mode = .live → x.inEffect = false → weighs c now x { x with inEffect := true } →
      settles (withSource (s.received ends) src { x with inEffect := true }) src .expiry t → exec ends s = .next t)
    ∧ (c.enable = false ∨ c.mode = .latch ∨ x.inEffect = true ∨ weighs c now x { x with inEffect := false } →
      exec ends s = .next (s.received ends))

/-- A source that FAULT_ACK clears: inactive and latched (R179). -/
def Sys2Proof.Claims.clearable (s : State) (n : Fin 16) : Prop :=
  s.pml.sources[n].active = false ∧ s.pml.sources[n].latched = true

/-- FAULT_ACK at level 1 is refused BAD_VALUE for a list that is empty, too long, out of range or names a source twice.
Otherwise each source is answered alone in ascending number, STATE while it is active and OK otherwise, its latch cleared;
PERMIT is settled once, with the lowest source changed (log 22) and cause ACK, and the answer is OK with the results.
PERMIT_CONFIG at level 2 is BAD_VALUE for a value out of range, an enable that is neither yes nor no among them (log 12), STATE
for a forced source, BAD_VALUE for an event source set LIVE; accepted, it sets the three values, marks the store dirty, weighs
the source, settles PERMIT with cause CONFIG, and answers whether the source is in effect. -/
def Obligations.AcknowledgementsAndConfigurationSettlePermit : Prop :=
  (∀ (sources : List Nat) (s : State), running s →
    let c := Instr.faultAck sources
    let r := s.received c
    let fits := sources ≠ [] ∧ sources.length ≤ 16 ∧ (∀ n ∈ sources, n < 16) ∧ sources.Nodup
    (s.acu.level = 0 → exec c s = .next (r.refuse .level))
    ∧ (1 ≤ s.acu.level → ¬ fits → exec c s = .next (r.refuse .badValue))
    ∧ ∀ members : List (Fin 16), 1 ≤ s.acu.level → fits → members.Pairwise (fun m n => m < n) →
      (∀ n : Fin 16, n ∈ members ↔ n.val ∈ sources) →
      let t := inTurn (plain ackMember) members r
      ((∀ n ∈ members, ¬ clearable s n) → exec c s = .next (t.1.replyOk t.2))
      ∧ ∀ n u, n ∈ members → clearable s n → (∀ m ∈ members, m < n → ¬ clearable s m) →
        settles t.1 (sourceOfNo n) .ack u → exec c s = .next (u.replyOk t.2))
  ∧ (∀ (src : FaultSource) (s : State),
    let x := fieldsOf s src
    (x.active = true → ackMember (sourceNo src) s = (s, .refused .state))
    ∧ (x.active = false → x.latched = false → ackMember (sourceNo src) s = (s, .ok))
    ∧ ∀ y, x.active = false → x.latched = true → weighs (configOf s src) s.tmu.now { x with latched := false } y →
      ackMember (sourceNo src) s = (withSource s src y, .ok))
  ∧ ∀ (n enable mode extension : Nat) (s : State), running s →
    let c := Instr.permitConfig n enable mode extension
    let r := s.received c
    let fits := n < 16 ∧ enable ≤ 1 ∧ mode ≤ 1 ∧ extension ≤ 600
    (s.acu.level < 2 → exec c s = .next (r.refuse .level))
    ∧ (2 ≤ s.acu.level → ¬ fits → exec c s = .next (r.refuse .badValue))
    ∧ ∀ src : FaultSource, (sourceNo src).val = n → 2 ≤ s.acu.level → fits →
      let forced := src = .restarted ∨ src = .rejectFailed ∨ src = .storeFailed
      let event := src = .watchStop ∨ src = .switchQueue
      let config : SourceSettings := ⟨decide (enable = 1), if mode = 0 then .live else .latch, extension⟩
      (forced → exec c s = .next (r.refuse .state))
      ∧ (event → mode = 0 → exec c s = .next (r.refuse .badValue))
      ∧ ∀ y t, ¬ forced → ¬ (event ∧ mode = 0) → weighs config s.tmu.now (fieldsOf s src) y →
        settles (withSource (withSettings r { s.cfg with sources := s.cfg.sources.set (sourceNo src) config }) src y) src
          .config t →
        exec c s = .next (t.replyOk [if y.inEffect = true then 1 else 0])

/-! ## The control link (chapter 10) -/

/-- The state with the LNK's state given. -/
def Sys2Proof.Claims.withLnk (s : State) (x : Lnk) : State := { s with lnk := x }

/-- A link counter gone up by one: it stays at 4,294,967,295 (R192). The counters are in the order of R192: framing errors, bad
check, bad class, overrun drops, requests taken, replies sent, notices posted, notices dropped. -/
def Sys2Proof.Claims.lnkCounted (x : Lnk) (i : Fin 8) : Lnk :=
  { x with counters := x.counters.set i (min (x.counters[i] + 1) 4294967295) }

/-- In HUNTING the sync of a frame enters IN_FRAME. A frame is abandoned, counted as a framing error, for a length of 241 to 255
and for a gap. A complete frame counts as a bad check, or with a good check of another class as a bad class; a request frame
joins a queue of at most four, and at a full queue is dropped, counted, with one more in the overrun mark up to 255. Each ends
in HUNTING. In HUNTING no frame is abandoned or taken; bytes that are no one frame, and a length of 240 or less given as
abandoned, change nothing (log 26). -/
def Sys2Proof.Claims.FramesAreTakenOrCounted : Prop :=
  ∀ s : State, running s →
    let x := s.lnk
    let hunts (c : Instr) (y : Lnk) : Prop := exec c s = .next (withLnk (s.received c) { y with receive := .hunting })
    let stays (c : Instr) : Prop := exec c s = .next (s.received c)
    (x.receive = .hunting → exec .syncFound s = .next (withLnk (s.received .syncFound) { x with receive := .inFrame }))
    ∧ (x.receive = .inFrame → stays .syncFound)
    ∧ (∀ n : Byte, x.receive = .inFrame → 241 ≤ n.toNat → hunts (.frameAbandonedForLength n) (lnkCounted x 0))
    ∧ (∀ n : Byte, x.receive = .hunting ∨ n.toNat ≤ 240 → stays (.frameAbandonedForLength n))
    ∧ (x.receive = .inFrame → hunts .frameGapTimeout (lnkCounted x 0))
    ∧ (x.receive = .hunting → stays .frameGapTimeout ∧ ∀ bytes, stays (.requestFrame bytes))
    ∧ ∀ (bytes : List Byte), x.receive = .inFrame →
      let c := Instr.requestFrame bytes
      (frameParts bytes = none → stays c)
      ∧ ∀ f, frameParts bytes = some f →
        (f.checkPasses = false → hunts c (lnkCounted x 1))
        ∧ (f.checkPasses = true → f.cls ≠ 0x01#8 → hunts c (lnkCounted x 2))
        ∧ (f.checkPasses = true → f.cls = 0x01#8 → x.queue.length < 4 →
          hunts c { x with queue := x.queue ++ [⟨f.tag, f.message, f.payload⟩] })
        ∧ (f.checkPasses = true → f.cls = 0x01#8 → 4 ≤ x.queue.length →
          hunts c { lnkCounted x 3 with drops := min (x.drops + 1) 255 })

/-- Every frame the part sends, of at most 240 payload bytes, is the sync, the length, the class, the tag, the message, the
payload and two check bytes, and read back from its length byte gives its parts with the check passing. -/
def Sys2Proof.Claims.FramesSentReadBackWhole : Prop :=
  ∀ (cls tag message : Byte) (payload bytes : List Byte), frameBytes cls tag message payload = some bytes →
    payload.length ≤ 240 ∧ bytes.length = payload.length + 7 ∧ bytes.head? = some 0xA5#8
      ∧ frameParts bytes.tail = some ⟨cls, tag, message, payload, true⟩

/-- The code of a refusal reason (R187). -/
def Sys2Proof.Claims.reasonByte : Option Reason → Byte
  | none => 0x00 | some .unknownMessage => 0x01 | some .badLength => 0x02 | some .badValue => 0x03 | some .level => 0x04
  | some .noGrant => 0x05 | some .state => 0x06 | some .busy => 0x07 | some .full => 0x08 | some .notFound => 0x09
  | some .lockedOut => 0x0A

/-- The code of a status (R187). -/
def Sys2Proof.Claims.statusByte : Status → Byte
  | .ok => 0x00 | .accepted => 0x01 | .refused => 0x02

/-- A reply goes out as one frame of class REPLY, or NOTICE-BATCH, with the request's tag and code, and a payload of the four
head bytes (status, reason, overrun mark, drop count) and the body. -/
def Sys2Proof.Claims.RepliesCarryTheirHead : Prop :=
  ∀ r : Reply, replyFrame r = frameBytes (if r.noticeBatch then 0x03#8 else 0x02#8) r.tag r.message
    ([statusByte r.answer.status, reasonByte r.answer.reason, if r.drops = 0 then 0x00 else 0x01, BitVec.ofNat 8 r.drops]
      ++ r.answer.body)

/-- A set byte. -/
def Sys2Proof.Claims.set8 (n : Nat) : BitVec 8 := BitVec.ofNat 8 n

/-- A number behind its presence flag; another flag than 0 and 1 stands for a value that its owner refuses (log 11). -/
def Sys2Proof.Claims.behindFlag (flag value : Nat) : Option Nat :=
  if flag = 0 then none else if flag = 1 then some value else some 256

/-- The requests of fixed fields: the code of 10.6, the widths of the fields in the order of the owning rule (R184), and the
command that their values make. -/
def Sys2Proof.Claims.fixedRequests : List (Byte × List Nat × (List Nat → Instr)) :=
  let v (x : List Nat) (i : Nat) : Nat := x.getD i 0
  let a48 (x : List Nat) : Address := BitVec.ofNat 48 (v x 0)
  [(0x10, [], fun _ => .lineStatus), (0x11, [4], fun x => .trackRead (v x 0)), (0x12, [1], fun x => .rejectLogRead (v x 0)),
    (0x13, [], fun _ => .lineClear), (0x14, [2, 2, 1, 1], fun x => .lineGeometry (v x 0) (v x 1) (v x 2) (v x 3)),
    (0x20, [1], fun x => .axisStatus (set8 (v x 0))), (0x21, [1], fun x => .axisHome (set8 (v x 0))),
    (0x22, [1], fun x => .clearHalt (set8 (v x 0))), (0x23, [1, 1, 1], fun x => .axisStop (set8 (v x 0)) (v x 1) (v x 2)),
    (0x24, [1, 2, 2, 4, 2, 4], fun x => .axisConfig (v x 0) (v x 1) (v x 2) (v x 3) (v x 4) (v x 5)),
    (0x25, [1, 1, 1], fun x => .axisDuty (set8 (v x 0)) (v x 1) (v x 2)),
    (0x27, [1, 1, 1], fun x => .axisJog (set8 (v x 0)) (v x 1) (v x 2)),
    (0x28, [1, 1, 2], fun x => .valveTest (set8 (v x 0)) (v x 1) (v x 2)), (0x30, [1], fun x => .recipeRead (v x 0)),
    (0x31, [1, 4, 2, 4, 2, 2, 1, 1, 1], fun x => .recipeWrite (v x 0)
      ⟨v x 1, v x 2, v x 3, v x 4, v x 5, v x 6, v x 7, set8 (v x 8)⟩),
    (0x32, [1], fun x => .recipeSelect (v x 0)), (0x33, [], fun _ => .trimRead),
    (0x35, [1, 1, 1], fun x => .trimMode (v x 0) (behindFlag (v x 1) (v x 2))), (0x37, [], fun _ => .fillStatus)]
  ++ [(0x40, [1], fun x => .cameraStatus (set8 (v x 0))),
    (0x41, [1, 2, 2, 1], fun x => .cameraConfig (v x 0) (v x 1) (v x 2) (v x 3)),
    (0x42, [1], fun x => .cameraRearm (set8 (v x 0))), (0x43, [1, 1, 1], fun x => .cameraTest (set8 (v x 0)) (v x 1) (v x 2)),
    (0x44, [1, 1], fun x => .testTrigger (set8 (v x 0)) (v x 1)), (0x50, [], fun _ => .switchStatus),
    (0x51, [6], fun x => .stationLookup (a48 x)), (0x52, [1], fun x => .stationRead (v x 0)),
    (0x53, [1], fun x => .forgetRead (v x 0)), (0x54, [1, 1, 2, 2], fun x => .portConfig (v x 0) (v x 1) (v x 2) (v x 3)),
    (0x55, [6, 1, 1, 1, 1], fun x => .stationPin (a48 x) (v x 1) (v x 2) (behindFlag (v x 3) (v x 4))),
    (0x56, [6], fun x => .stationUnpin (a48 x)), (0x57, [6], fun x => .stationQuarantine (a48 x)),
    (0x58, [6], fun x => .stationRelease (a48 x)), (0x5A, [1], fun x => .portUnblock (v x 0)),
    (0x60, [], fun _ => .accessStatus), (0x62, [], fun _ => .lock), (0x64, [], fun _ => .grantRead),
    (0x65, [1, 1, 1, 1, 1, 2], fun x => .grantOpen (v x 0) (set8 (v x 1)) (set8 (v x 2)) (set8 (v x 3)) (v x 4) (v x 5)),
    (0x66, [1, 2], fun x => .grantExtend (v x 0) (v x 1)), (0x67, [1], fun x => .grantClose (v x 0)),
    (0x68, [1, 1], fun x => .accountReset (v x 0) (v x 1))]
  ++ [(0x70, [], fun _ => .watchRead), (0x72, [1, 1, 1], fun x => .watchClear (v x 0) (v x 1) (v x 2)),
    (0x73, [1], fun x => .watchAck (v x 0)), (0x74, [1], fun x => .axisResume (set8 (v x 0))),
    (0x80, [], fun _ => .clockStatus), (0x81, [8], fun x => .timeSet (v x 0)), (0x82, [], fun _ => .accountRead),
    (0x83, [1, 4, 4], fun x => .accountConfig (v x 0) (v x 1) (v x 2)), (0x90, [], fun _ => .permitStatus),
    (0x92, [1, 1, 1, 2], fun x => .permitConfig (v x 0) (v x 1) (v x 2) (v x 3)), (0xA0, [], fun _ => .identity),
    (0xA1, [1], fun x => .fetchNotices (v x 0)), (0xB0, [], fun _ => .save), (0xB1, [], fun _ => .softReset)]

/-- The bytes of fields, each with its width, most significant byte first (R184). -/
def Sys2Proof.Claims.fieldBytes (fields : List (Nat × Nat)) : List Byte := fields.flatMap fun f => be f.1 f.2

/-- The operands of a WATCH_SET with their bytes and the code of their kind (R144, R184). -/
def Sys2Proof.Claims.operandsCoded (kind : Byte) (operands : List Byte) (x : WatchOperands) : Prop :=
  (∃ serial stage, kind = 0 ∧ serial < 2 ^ 32 ∧ stage < 256 ∧ operands = fieldBytes [(4, serial), (1, stage)]
    ∧ x = .serial serial stage)
  ∨ (∃ k phase, kind = 1 ∧ k < 256 ∧ phase < 256 ∧ operands = fieldBytes [(1, k), (1, phase)] ∧ x = .axisPhase k phase)
  ∨ (∃ k n, kind = 2 ∧ k < 256 ∧ n < 256 ∧ operands = fieldBytes [(1, k), (1, n)] ∧ x = .cameraNg k n)
  ∨ (∃ a : Address, kind = 3 ∧ operands = be 6 a.toNat ∧ x = .station a)
  ∨ (4 ≤ kind.toNat ∧ operands = [] ∧ x = .unknown kind.toNat)

/-- The scope of a STATION_FLUSH with its bytes (R112; log 11). -/
def Sys2Proof.Claims.scopeCoded (bytes : List Byte) (x : FlushScope) : Prop :=
  (∃ a : Address, bytes = 0 :: be 6 a.toNat ∧ x = .address a) ∨ (∃ n : Byte, bytes = [1, n] ∧ x = .port n.toNat)
  ∨ (bytes = [2] ∧ x = .all) ∨ ∃ code : Byte, 3 ≤ code.toNat ∧ bytes = [code] ∧ x = .unknown code.toNat

/-- A request whose payload carries a count, or whose fields follow a kind: its code, its payload and its command (R44, R66,
R67, R112, R123, R127, R145, R179, R186). -/
def Sys2Proof.Claims.countedRequest (code : Byte) (p : List Byte) (c : Instr) : Prop :=
  (∃ (axes : AxisSet) (grant : Byte) (targets : List Int), code = 0x26 ∧ targets.length = (axisMembers axes).length
    ∧ (∀ x ∈ targets, -(2 ^ 31 : Int) ≤ x ∧ x < (2 ^ 31 : Int)) ∧ p = [axes, grant] ++ targets.flatMap (beSigned 4)
    ∧ c = .axisMove axes grant.toNat targets)
  ∨ (∃ (first : Byte) (trims : List Int), code = 0x34 ∧ trims.length < 256
    ∧ (∀ x ∈ trims, -(2 ^ 15 : Int) ≤ x ∧ x < (2 ^ 15 : Int))
    ∧ p = [first, BitVec.ofNat 8 trims.length] ++ trims.flatMap (beSigned 2) ∧ c = .trimWrite first.toNat trims)
  ∨ (∃ x : Int, code = 0x36 ∧ -(2 ^ 15 : Int) ≤ x ∧ x < (2 ^ 15 : Int) ∧ p = beSigned 2 x ∧ c = .productTemp x)
  ∨ (∃ x, code = 0x59 ∧ scopeCoded p x ∧ c = .stationFlush x)
  ∨ (∃ (level : Byte) (passcode : List Byte), code = 0x61 ∧ passcode.length < 256
    ∧ p = [level, BitVec.ofNat 8 passcode.length] ++ passcode ∧ c = .unlock level.toNat passcode)
  ∨ (∃ (level : Byte) (passcode : List Byte), code = 0x63 ∧ passcode.length < 256
    ∧ p = [level, BitVec.ofNat 8 passcode.length] ++ passcode
    ∧ c = .passcodeSet level.toNat (if passcode = [] then none else some passcode))
  ∨ (∃ (w kind action scope grant enable : Byte) (operands : List Byte) (x : WatchOperands), code = 0x71
    ∧ operandsCoded kind operands x ∧ p = [w, kind] ++ operands ++ [action, scope, grant, enable]
    ∧ c = .watchSet w.toNat x action.toNat scope.toNat grant.toNat enable.toNat)
  ∨ ∃ sources : List Byte, code = 0x91 ∧ sources.length < 256 ∧ p = BitVec.ofNat 8 sources.length :: sources
    ∧ c = .faultAck (sources.map fun b => b.toNat)

/-- A payload makes its request by the code of 10.6 and the fields of R184 in their order; a length that the fields, or a count
taken as written, do not call for is BAD_LENGTH, and any other code UNKNOWN_MESSAGE (places that R184 leaves open: log 11). -/
def Sys2Proof.Claims.RequestsAreReadByTheirCodes : Prop :=
  (∀ x ∈ fixedRequests,
    (∀ values : List Nat, values.length = x.2.1.length → (∀ f ∈ x.2.1.zip values, f.2 < 256 ^ f.1) →
      parseRequest x.1 (fieldBytes (x.2.1.zip values)) = .request (x.2.2 values))
    ∧ ∀ p : List Byte, p.length ≠ x.2.1.sum → parseRequest x.1 p = .badLength)
  ∧ (∀ code p c, countedRequest code p c → parseRequest code p = .request c)
  ∧ (∀ (code : Byte) (p : List Byte), code ∈ [(0x26 : Byte), 0x34, 0x36, 0x59, 0x61, 0x63, 0x71, 0x91] →
    (∀ c, ¬ countedRequest code p c) → parseRequest code p = .badLength)
  ∧ ∀ (code : Byte) (p : List Byte), code ∉ fixedRequests.map (fun x => x.1) →
    code ∉ [(0x26 : Byte), 0x34, 0x36, 0x59, 0x61, 0x63, 0x71, 0x91] → parseRequest code p = .unknownMessage

/-- A message of the switch link with its code and its payload (R95, R160, 10.6). -/
def Sys2Proof.Claims.switchMessage (tag message : Byte) (p : List Byte) (c : Instr) : Prop :=
  (∃ (a : Address) (q : PortIx), message = 0xC0 ∧ p = be 6 a.toNat ++ [BitVec.ofNat 8 (q.val + 1)] ∧ c = .query a (q.val + 1) tag)
  ∨ (∃ (q : PortIx) (link : UpDown), message = 0xC1
    ∧ p = [BitVec.ofNat 8 (q.val + 1), if link = .up then 0 else 1] ∧ c = .linkReport (q.val + 1) link)
  ∨ (∃ (q : PortIx) (count : Nat), message = 0xC2 ∧ count < 2 ^ 32 ∧ p = BitVec.ofNat 8 (q.val + 1) :: be 4 count
    ∧ c = .errorReport (q.val + 1) count)
  ∨ (∃ a : Address, message = 0xC3 ∧ p = be 6 a.toNat ∧ c = .forgetDone a)
  ∨ ∃ hall : Nat, message = 0xC4 ∧ hall < 2 ^ 64 ∧ p = be 8 hall ∧ c = .timeMark hall

/-- A frame of class SWITCH is a message of the switch link by its code and payload; one whose class, code, length or port is
none of these is no message, nor is a LINK_REPORT whose link is neither UP 0 nor DOWN 1 (log 35). What the part sends on STX has
its code and fields likewise. -/
def Sys2Proof.Claims.SwitchMessagesByTheirCodes : Prop :=
  (∀ (tag message : Byte) (p : List Byte) (passes : Bool) (c : Instr), switchMessage tag message p c →
    switchCommand ⟨0x04, tag, message, p, passes⟩ = some c)
  ∧ (∀ f : FrameParts, f.cls ≠ 0x04 ∨ (∀ c, ¬ switchMessage f.tag f.message f.payload c) → switchCommand f = none)
  ∧ ∀ tag : Byte,
    let sends (m : SwitchMessage) (code : Byte) (p : List Byte) : Prop :=
      switchFrameBytes ⟨tag, m⟩ = frameBytes 0x04 tag code p
    (∀ (a : Address) (q : PortIx) (admits : Bool),
      sends (.answer a q admits) 0xD0 (be 6 a.toNat ++ [BitVec.ofNat 8 (q.val + 1), if admits then 0 else 1])
      ∧ sends (.forget a) 0xD1 (be 6 a.toNat)
      ∧ sends (.portBlock q) 0xD3 [BitVec.ofNat 8 (q.val + 1)] ∧ sends (.portOpen q) 0xD4 [BitVec.ofNat 8 (q.val + 1)])
    ∧ sends .forgetAll 0xD2 []

/-- Frames are taken or counted, read by their codes and lengths, and sent with their head and check: all of
FramesAreTakenOrCounted, FramesSentReadBackWhole, RepliesCarryTheirHead, RequestsAreReadByTheirCodes and
SwitchMessagesByTheirCodes. -/
def Obligations.FramesAreTakenCountedAndReadBack : Prop :=
  FramesAreTakenOrCounted ∧ FramesSentReadBackWhole ∧ RepliesCarryTheirHead ∧ RequestsAreReadByTheirCodes ∧ SwitchMessagesByTheirCodes

/-- A request in hand whose reply has not been made. -/
def Sys2Proof.Claims.awaits (s : State) (x : InHand) : Prop := s.lnk.inHand = some x ∧ s.lnk.reply = none

/-- An outcome returned for a request in hand makes the reply: of class REPLY, or NOTICE-BATCH for FETCH_NOTICES, with the
request's tag and code, the status, the reason and the body, and the overrun mark, which is cleared; without a request in hand
only the outcome is kept (log 8). REPLY_SENT then counts the reply and leaves no request in hand, and does nothing without a
reply. -/
def Sys2Proof.Claims.OutcomesMakeTheReply : Prop :=
  (∀ (s : State) (body : List Byte) (reason : Reason),
    (∀ x, awaits s x →
      let made (a : Answer) : State := withLnk s { s.lnk with
        outcome := some a, drops := 0, reply := some ⟨decide (x.message = 0xA1#8), x.tag, x.message, a, s.lnk.drops⟩ }
      s.replyOk body = made ⟨.ok, none, body⟩ ∧ s.replyAccepted body = made ⟨.accepted, none, body⟩
        ∧ s.refuse reason = made ⟨.refused, some reason, []⟩)
    ∧ ((∀ x, ¬ awaits s x) →
      let kept (a : Answer) : State := withLnk s { s.lnk with outcome := some a }
      s.replyOk body = kept ⟨.ok, none, body⟩ ∧ s.replyAccepted body = kept ⟨.accepted, none, body⟩
        ∧ s.refuse reason = kept ⟨.refused, some reason, []⟩))
  ∧ ∀ s : State, running s → s.lnk.softReset = false →
    let r := s.received .replySent
    (s.lnk.reply = none → exec .replySent s = .next r)
    ∧ (s.lnk.reply ≠ none → exec .replySent s
      = .next (withLnk r { lnkCounted s.lnk 5 with inHand := none, reply := none }))

/-- With no request in hand the oldest request of the queue is taken in hand and counted, and the idle deadline moves to 15
minutes from now; a code that is no request code is refused UNKNOWN_MESSAGE, a length the fields do not call for BAD_LENGTH, and
any other request is handed to its owner. With a request in hand, or an empty queue, nothing is taken. -/
def Sys2Proof.Claims.RequestsAreTakenOneAtATime : Prop :=
  ∀ s : State, running s →
    let c := Instr.requestTaken
    (s.lnk.inHand ≠ none ∨ s.lnk.queue = [] → exec c s = .next (s.received c))
    ∧ ∀ f rest, s.lnk.inHand = none → s.lnk.queue = f :: rest →
      let t := { withLnk (s.received c) { lnkCounted s.lnk 4 with queue := rest, inHand := some ⟨f.tag, f.message⟩ } with
        acu := { s.acu with idleDeadline := s.tmu.now + 900000000 } }
      (parseRequest f.message f.payload = .unknownMessage → exec c s = .next (t.refuse .unknownMessage))
      ∧ (parseRequest f.message f.payload = .badLength → exec c s = .next (t.refuse .badLength))
      ∧ ∀ i, parseRequest f.message f.payload = .request i → exec c s = .next (sending t [i])

/-- Requests are taken one at a time, and outcomes make their replies: all of OutcomesMakeTheReply and RequestsAreTakenOneAtATime.
-/
def Obligations.RequestsAreTakenAndAnswered : Prop :=
  OutcomesMakeTheReply ∧ RequestsAreTakenOneAtATime

/-- A notice with its stamps joins the newest end of a queue of at most 30. With 31 or 32 notices, the newest an OVERFLOW, it is
dropped and the OVERFLOW counts it, up to 65,535, with the time of the drop; with 31, the newest no OVERFLOW, it is dropped and
an OVERFLOW joins with drop count 1 and the kind dropped. The counters of notices posted and dropped follow, and ATTN is high
once start-up is complete, low before (log 25). FETCH_NOTICES is refused BAD_VALUE for a largest count outside 1 to 8, and else
removes as many of the oldest notices as it and the queue allow and returns them, with the number returned and the number left;
ATTN is high while one is left. -/
def Sys2Proof.Claims.NoticesJoinTheQueueAndLeaveIt : Prop :=
  (∀ (n : Notice) (s : State),
    let q := s.lnk.notices
    let p : PostedNotice := ⟨n, s.tmu.now, s.stamp⟩
    let raised (x : Lnk) (queue : List PostedNotice) : State :=
      withLnk s { x with notices := queue, attn := decide (s.phase = .running) }
    (q.length ≤ 30 → s.post n = raised (lnkCounted s.lnk 6) (q ++ [p]))
    ∧ (∀ older count kind last run hall, 31 ≤ q.length → q = older ++ [⟨.overflow count kind last, run, hall⟩] →
      s.post n = raised (lnkCounted s.lnk 7) (older ++ [⟨.overflow (min (count + 1) 65535) kind s.tmu.now, run, hall⟩]))
    ∧ (∀ older newest, q.length = 31 → q = older ++ [newest] → (∀ count kind last, newest.notice ≠ .overflow count kind last) →
      s.post n = raised (lnkCounted (lnkCounted s.lnk 6) 7)
        (q ++ [⟨.overflow 1 (noticeKindCode n) s.tmu.now, s.tmu.now, s.stamp⟩])))
  ∧ ∀ (largest : Nat) (s : State), running s →
    let c := Instr.fetchNotices largest
    let r := s.received c
    (largest = 0 ∨ 9 ≤ largest → exec c s = .next (r.refuse .badValue))
    ∧ ∀ fetched left, 1 ≤ largest → largest ≤ 8 → s.lnk.notices = fetched ++ left → fetched.length ≤ largest →
      (fetched.length = largest ∨ left = []) →
      exec c s = .next ((withLnk r { s.lnk with notices := left, attn := decide (left ≠ []) }).replyOk
        ([BitVec.ofNat 8 fetched.length, BitVec.ofNat 8 left.length] ++ fetched.flatMap noticeBytes))

/-- A byte with bits set by the flags given, bit 0 first. -/
def Sys2Proof.Claims.flagsByte (x y z : Bool) : Byte :=
  BitVec.ofNat 8 ((if x then 1 else 0) + (if y then 2 else 0) + if z then 4 else 0)

/-- The subject of a WATCH_HIT in seven bytes (R197). -/
def Sys2Proof.Claims.hitSubjectBytes : WatchSubject → List Byte
  | .serial n stage departure => be 4 n ++ [BitVec.ofNat 8 (stageCode stage)]
    ++ (match departure with
      | none => [0, 0]
      | some (how, none) => [BitVec.ofNat 8 (departureCode how), 0]
      | some (how, some reason) => [BitVec.ofNat 8 (departureCode how), BitVec.ofNat 8 (rejectReasonCode reason)])
  | .axisPhase k phase n holds cause => [BitVec.ofNat 8 k, BitVec.ofNat 8 (entryPhaseCode phase)] ++ be 4 (n.getD 0)
    ++ [BitVec.ofNat 8 ((if holds then 128 else 0) + match cause with
      | none => 0
      | some c => haltCauseCode c)]
  | .cameraNg k n serial => [BitVec.ofNat 8 k, BitVec.ofNat 8 n] ++ be 4 serial
  | .station a q admits => be 6 a.toNat ++ [BitVec.ofNat 8 ((if admits then 128 else 0) + (q.val + 1))]

/-- The kind code of a notice, the bytes of its subject, and whether its optional field is present (10.6, R197). -/
def Sys2Proof.Claims.noticeIs : Notice → Byte × List Byte × Bool
  | .permitChanged high src cause set => (0x01,
    [if high then 1 else 0, BitVec.ofNat 8 (sourceNo src), BitVec.ofNat 8 (permitCauseCode cause)] ++ be 2 set.toNat, false)
  | .fault src how enable mode extension inEffect => (0x02, [BitVec.ofNat 8 (sourceNo src), if how = .activation then 0 else 1,
    if enable then 1 else 0, if mode = .live then 0 else 1] ++ be 2 extension ++ [if inEffect then 1 else 0], false)
  | .axisHalted k cause before => (0x03,
    [BitVec.ofNat 8 k, BitVec.ofNat 8 (haltCauseCode cause), BitVec.ofNat 8 (motionCode before)], false)
  | .axisAtRest k motion cause position => (0x04, [BitVec.ofNat 8 k, BitVec.ofNat 8 (motionCode motion),
    if cause = .complete then 0 else 1] ++ beSigned 4 (position.getD 0), position.isSome)
  | .homeDone k => (0x05, [BitVec.ofNat 8 k], false)
  | .cameraState k old new cause => (0x06, [BitVec.ofNat 8 k, BitVec.ofNat 8 (cameraStateCode old),
    BitVec.ofNat 8 (cameraStateCode new), BitVec.ofNat 8 (cameraCauseCode cause)], false)
  | .strayVerdict k tag ng => (0x07, [BitVec.ofNat 8 k, BitVec.ofNat 8 tag, if ng then 1 else 0], false)
  | .testVerdict k tag ng triggered => (0x08, [BitVec.ofNat 8 k, BitVec.ofNat 8 tag, if ng then 1 else 0]
    ++ be 8 (triggered.getD 0), triggered.isSome)
  | .stationStranger a q way => (0x09, be 6 a.toNat ++ [BitVec.ofNat 8 (q.val + 1), BitVec.ofNat 8 way], false)
  | .stationMoved a entry query role => (0x0A, be 6 a.toNat
    ++ [BitVec.ofNat 8 (entry.val + 1), BitVec.ofNat 8 (query.val + 1), BitVec.ofNat 8 (roleCode role)], false)
  | .tableFull a q n => (0x0B, be 6 a.toNat ++ [BitVec.ofNat 8 (q.val + 1), BitVec.ofNat 8 n], false)
  | .forgetExpired a q reason grant => (0x0C, be 6 a.toNat
    ++ [BitVec.ofNat 8 (q.val + 1), BitVec.ofNat 8 (forgetReasonCode reason), BitVec.ofNat 8 (grant.getD 0)], false)
  | .grantClosed id level cause result expired openedAt => (0x0D, [BitVec.ofNat 8 id,
    flagsByte (decide (level = 2)) (decide (cause = .expiry)) (decide (result = .unconfirmed)), BitVec.ofNat 8 expired]
    ++ be 8 openedAt, false)
  | .levelDropped before => (0x0E, [BitVec.ofNat 8 before], false)
  | .watchHit w kind action count subject => (0x0F, [BitVec.ofNat 8 w,
    BitVec.ofNat 8 (16 * watchKindCode kind + watchActionCode action)] ++ be 2 count ++ hitSubjectBytes subject,
    match subject with
    | .axisPhase _ _ n _ _ => n.isSome
    | _ => false)
  | .accountState account old new count cause => (0x10, [BitVec.ofNat 8 (numberOf account), BitVec.ofNat 8 (alarmStateCode old),
    BitVec.ofNat 8 (alarmStateCode new), BitVec.ofNat 8 (accountCauseCode cause)] ++ be 4 count, false)
  | .clockState old new cause offset => (0x11, [BitVec.ofNat 8 (clockStateCode old), BitVec.ofNat 8 (clockStateCode new),
    BitVec.ofNat 8 (clockCauseCode cause)] ++ offsetBytes (offset.getD 0), offset.isSome)
  | .clockStep byMark offset => (0x12, [if byMark then 1 else 0] ++ offsetBytes offset, false)
  | .storeDone kind ok dirty bank sequence => (0x13, [if kind = .save then 0 else 1, if ok then 0 else 1,
    if dirty then 1 else 0, match bank with
      | none => Config.bankByteWhenNone
      | some .a => 0
      | some .b => 1] ++ be 4 sequence.toNat, false)
  | .overflow dropped kind latest => (0x14, be 2 dropped ++ [BitVec.ofNat 8 kind] ++ be 8 latest, false)

/-- A notice stands in 29 bytes: the kind code, the flags of the hall stamp and of the optional field, the run stamp, the hall
stamp or 0, and eleven bytes of the subject, those not used 0; an offset of clock times that eight signed bytes hold is in two's
complement (bytes beyond that range, and of no bank: log 5). -/
def Sys2Proof.Claims.NoticesTakeTwentyNineBytes : Prop :=
  (∀ p : PostedNotice,
    let n := noticeIs p.notice
    n.2.1.length ≤ 11
    ∧ noticeBytes p = [n.1, flagsByte p.hallStamp.isSome n.2.2 false] ++ be 8 p.runStamp ++ be 8 (p.hallStamp.getD 0)
      ++ n.2.1 ++ List.replicate (11 - n.2.1.length) 0)
  ∧ ∀ i : Int, -(2 ^ 63 : Int) ≤ i → i < (2 ^ 63 : Int) → offsetBytes i = beSigned 8 i

/-- Notices join the queue in 29 bytes and are fetched, and ATTN follows: all of NoticesJoinTheQueueAndLeaveIt and
NoticesTakeTwentyNineBytes. -/
def Obligations.NoticesJoinAndAreFetched : Prop :=
  NoticesJoinTheQueueAndLeaveIt ∧ NoticesTakeTwentyNineBytes

/-! ## The store, resets and start-up (chapter 11) -/

/-- The state with the SST's state given. -/
def Sys2Proof.Claims.withSst (s : State) (x : Sst) : State := { s with sst := x }

/-- The bank a save writes: the one not in use, A where none is (R199, R201). -/
def Sys2Proof.Claims.otherBank : Option BankName → BankName
  | some .a => .b
  | _ => .a

/-- The SST with one bank given. -/
def Sys2Proof.Claims.withBank (x : Sst) : BankName → Bank → Sst
  | .a, b => { x with bankA := b }
  | .b, b => { x with bankB := b }

/-- The sequence number of the image in use and the image, or none (R199). -/
def Sys2Proof.Claims.imageIs (x : Sst) (held : Option (BitVec 32 × Image)) : Prop :=
  (x.inUse = none ∧ held = none)
  ∨ (∃ format n image, x.inUse = some .a ∧ x.bankA = .whole format n image ∧ held = some (n, image))
  ∨ ∃ format n image, x.inUse = some .b ∧ x.bankB = .whole format n image ∧ held = some (n, image)

/-- The sequence number a save writes: one more than that of the image in use, 1 where none is (R199, R201). -/
def Sys2Proof.Claims.nextNumber : Option (BitVec 32 × Image) → BitVec 32
  | some (n, _) => n + 1
  | none => 1

/-- The pinned entries of the table, each with its way and whether it is ADMITTED, in table order (R198). -/
def Sys2Proof.Claims.pinnedEntries (s : State) : List PinnedStation :=
  (List.finRange 16).flatMap fun n => (List.finRange 4).filterMap fun w =>
    (s.sws.table[n].ways[w]).bind fun e =>
      if e.kind = .pinned then some ⟨e.address, w, e.port, e.role, decide (e.state = .admitted)⟩ else none

/-- A write begun: the bank written does not check until it is complete (R199, R200). -/
def Sys2Proof.Claims.writes (x : Sst) (held : Option (BitVec 32 × Image)) (kind : SaveKind) (image : Image) : Sst :=
  { withBank x (otherBank x.inUse) .broken with
    saving := some kind, writing := some (otherBank x.inUse, nextNumber held, image) }

/-- An automatic account save handed over: the configuration of the image in use with the accounts as they stand, or, with no
image, STORE_DONE with FAILED (R200). The sequence number of that notice is log 5's free value. -/
def Sys2Proof.Claims.savesAccounts (s : State) (t : State) : Prop :=
  (∃ n image, imageIs s.sst (some (n, image))
    ∧ t = withSst s (writes s.sst (some (n, image)) .accountSave { image with accounts := s.tmu.accounts }))
  ∨ (imageIs s.sst none ∧ t = s.post (.storeDone .accountSave false s.sst.dirty none Config.sequenceWhenNone))

/-- STORE_DONE with the dirty flag and the image in use as they stand (R199). -/
def Sys2Proof.Claims.storeDone (s : State) (kind : SaveKind) (ok : Bool) (t : State) : Prop :=
  (∃ n image, imageIs s.sst (some (n, image)) ∧ t = s.post (.storeDone kind ok s.sst.dirty s.sst.inUse n))
  ∨ (imageIs s.sst none ∧ t = s.post (.storeDone kind ok s.sst.dirty s.sst.inUse Config.sequenceWhenNone))

/-- SAVE at level 2 is refused BUSY during a save; else it begins to write the whole working copy into the other bank with the
next sequence number, and is ACCEPTED with the dirty flag and the bank. A write that reads back whole is the image in use, and
clears the dirty flag of a SAVE unless a change came during it; one that does not leaves the image in use, latches STORE_FAILED,
and sets the flag of a SAVE. STORE_DONE tells either, and a deferred account save follows a SAVE. The account save deadline
moves on by 60 minutes at its expiry, with an account save, deferred during a SAVE; one that falls due during an account save
begins no other (log 14). Completions of no such save, and an expiry before its time (log 2), change nothing. -/
def Obligations.SavesWriteTheOtherBank : Prop :=
  (∀ s : State, running s →
    let r := s.received .save
    (s.acu.level < 2 → exec .save s = .next (r.refuse .level))
    ∧ (2 ≤ s.acu.level → s.sst.saving ≠ none → exec .save s = .next (r.refuse .busy))
    ∧ ∀ held, 2 ≤ s.acu.level → s.sst.saving = none → imageIs s.sst held →
      exec .save s = .next ((withSst r { writes s.sst held .save ⟨s.cfg, pinnedEntries s, s.tmu.accounts⟩ with
        changed := false }).replyAccepted
        [if s.sst.dirty = true then 1 else 0, BitVec.ofNat 8 (bankCode (otherBank s.sst.inUse))]))
  ∧ (∀ (kind : SaveKind) (whole : Bool) (s : State), running s →
    let c : Instr := match kind with
      | .save => .saveComplete whole
      | .accountSave => .accountSaveComplete whole
    let r := s.received c
    (s.sst.saving ≠ some kind → exec c s = .next r)
    ∧ ∀ bank n image, s.sst.saving = some kind → s.sst.writing = some (bank, n, image) →
      let dirty (b : Bool) : Bool := if kind = .save then b else s.sst.dirty
      let ended (b : Bank) : Sst := { withBank s.sst bank b with saving := none, writing := none }
      let kept := withSst r { ended (.whole 1 n image) with inUse := some bank, dirty := dirty s.sst.changed }
      let failed := sending (withSst r { ended .broken with dirty := dirty true }) [.eventSourceLatch .storeFailed]
      ∀ t, storeDone (if whole = true then kept else failed) kind whole t →
        (kind = .accountSave ∨ s.tmu.saveDeferred = false → exec c s = .next t)
        ∧ ∀ u, kind = .save → s.tmu.saveDeferred = true →
          savesAccounts { t with tmu := { s.tmu with saveDeferred := false } } u → exec c s = .next u)
  ∧ ∀ s : State, running s →
    let c := Instr.accountSaveExpiry
    let r := s.received c
    let later := { s.tmu with saveDeadline := s.tmu.saveDeadline + 3600000000 }
    (s.tmu.now < s.tmu.saveDeadline → exec c s = .next r)
    ∧ (s.tmu.saveDeadline ≤ s.tmu.now →
      (s.sst.saving = some .save → exec c s = .next { r with tmu := { later with saveDeferred := true } })
      ∧ (s.sst.saving = some .accountSave → exec c s = .next { r with tmu := later })
      ∧ ∀ t, s.sst.saving = none → savesAccounts { r with tmu := later } t → exec c s = .next t)

/-- The image that the store loads: of the one valid bank, of the one whose sequence number follows the other's, or the defaults
(R201); where neither number follows the other, one of the two, and which is log 5's free value. -/
def Sys2Proof.Claims.loads (x : Sst) (bank : Option BankName) (image : Image) : Prop :=
  (validBank x.bankA = none ∧ validBank x.bankB = none ∧ bank = none
    ∧ image = ⟨Settings.defaults, [], Vector.replicate 15 {}⟩)
  ∨ (∃ n, validBank x.bankA = some (n, image) ∧ validBank x.bankB = none ∧ bank = some .a)
  ∨ (∃ n, validBank x.bankA = none ∧ validBank x.bankB = some (n, image) ∧ bank = some .b)
  ∨ (∃ n b, validBank x.bankA = some (n, image) ∧ validBank x.bankB = some (n - 1, b) ∧ n - 1 ≠ n + 1 ∧ bank = some .a)
  ∨ (∃ n a, validBank x.bankA = some (n, a) ∧ validBank x.bankB = some (n + 1, image) ∧ bank = some .b)
  ∨ ∃ m n a b, validBank x.bankA = some (m, a) ∧ validBank x.bankB = some (n, b) ∧ n ≠ m + 1 ∧ m ≠ n + 1
    ∧ ((bank = some .a ∧ image = a) ∨ (bank = some .b ∧ image = b))

/-- The values every block takes at a reset, beside the outside's, the queue and the hall clock: the store reloaded, the
configuration from the image with the forced sources forced, the pinned entries alone in their ways, the accounts with their
states set, an axis RETIRED where its account is in ALARM, and all else as the chapters' tables give, which the defaults of
State hold (R25, R48, R71, R94, R120, R143, R155, R172, R182, R193, R201). -/
def Sys2Proof.Claims.rebooted (s t : State) : Prop :=
  ∃ (bank : Option BankName) (image : Image), loads s.sst bank image
    ∧ t.sst = ⟨s.sst.bankA, s.sst.bankB, bank, decide (bank = none), none, false, none, decide (bank = none)⟩
    ∧ (∀ n : Fin 16, t.cfg.sources[n] = if n = 0 ∨ n = 1 ∨ n = 14 then ⟨true, .latch, 0⟩ else image.settings.sources[n])
    ∧ t.cfg = { image.settings with sources := t.cfg.sources }
    ∧ t.ltr = {} ∧ t.acu = {} ∧ t.pml = {} ∧ t.lnk = {}
    ∧ t.fmu = { axes := t.fmu.axes } ∧ t.ctu = { activeSet := image.settings.recipes[(0 : Fin 16)].cameras }
    ∧ (∀ k : AxisNo, t.axis k = { retire := if t.tmu.accounts[k.val].state = .alarm then .retired else .inService })
    ∧ (∀ k : Fin 15, ∃ state, wornTo image.accounts[k].count image.accounts[k].warn image.accounts[k].alarm state
      ∧ t.tmu.accounts[k] = { image.accounts[k] with state := state })
    ∧ (∀ (n : Fin 16) (w : Fin 4), t.sws.table[n].ways[w]
      = (image.pinned.find? fun e => decide (setFor e.address = n ∧ e.way = w)).map fun e =>
        ⟨e.address, e.port, .pinned, e.role, if e.admitted then .admitted else .quarantined, none, none, none⟩)
    ∧ (∀ n : Fin 16, t.sws.table[n].victim = 0)
    ∧ t.reports = [] ∧ t.pending = s.pending ∧ t.inputs = s.inputs ∧ t.feed = s.feed ∧ t.draws = s.draws

/-- Start-up begun: the switch link is taken and FORGET_ALL sent with tag 0 (R118, R203). -/
def Sys2Proof.Claims.startsUp (t : State) : Prop :=
  t.phase = .starting ∧ t.sws = { table := t.sws.table, outTag := 1, sent := [⟨0, .forgetAll⟩] }

/-- The command resets the part as a SOFT_RESET does: the hall clock keeps its value and its frequency term, FREE unless it was
UNSET, and start-up begins (R172, R202). -/
def Sys2Proof.Claims.softly (c : Instr) (s : State) : Prop :=
  ∃ t, exec c s = .next t ∧ rebooted (s.received c) t ∧ startsUp t
    ∧ t.tmu = {
      accounts := t.tmu.accounts, hallParts := s.tmu.hallParts, frequency := s.tmu.frequency
      clock := if s.tmu.clock = .unset then .unset else .free }

/-- A pin reset holds the part, at once and whatever it did: every block takes its reset values, the hall clock is UNSET and run
time 0. The rise of RESET_N begins start-up from the same values. The store is loaded in both steps (log 27), FORGET_ALL is sent
in the second (log 18), and the CTU's camera set is that of recipe 0 (log 29). SOFT_RESET at level 2 is BUSY during a save; else
it is answered OK, and at the end of that reply every block takes its reset values, but the hall clock keeps its value and its
frequency term, FREE unless it was UNSET, and start-up begins; with no request in hand there is no reply to wait for (log 8).
RESET_N does not rise twice. -/
def Obligations.ResetsTakeTheResetValues : Prop :=
  (∀ s : State, ∃ t, exec .pinReset s = .next t ∧ rebooted s t ∧ t.phase = .held
    ∧ t.sws = { table := t.sws.table } ∧ t.tmu = { accounts := t.tmu.accounts })
  ∧ (∀ s : State, s.phase = .held → ∃ t, exec .resetRelease s = .next t ∧ rebooted s t ∧ startsUp t
    ∧ t.tmu = { accounts := t.tmu.accounts })
  ∧ (∀ s : State, s.phase ≠ .held → exec .resetRelease s = .next s)
  ∧ (∀ s : State, running s →
    let r := s.received .softReset
    (s.acu.level < 2 → exec .softReset s = .next (r.refuse .level))
    ∧ (2 ≤ s.acu.level → s.sst.saving ≠ none → exec .softReset s = .next (r.refuse .busy))
    ∧ (∀ x, 2 ≤ s.acu.level → s.sst.saving = none → awaits s x →
      exec .softReset s = .next (withLnk r { (r.replyOk []).lnk with softReset := true }))
    ∧ (2 ≤ s.acu.level → s.sst.saving = none → s.lnk.inHand = none → softly .softReset s))
  ∧ ∀ s : State, running s → s.lnk.reply ≠ none → s.lnk.softReset = true → softly .replySent s

/-- Start-up completes: the part runs, takes the encoder levels as its reference, begins the temperature, idle and account save
deadlines and, with the reported ports emptied, the wait for the first setting (log 18), latches RESTARTED, and STORE_FAILED
after a failed load, activates CAMERA_OFFLINE when a camera of the active set (log 29) is OFFLINE and the two overdue sources when
an account is in ALARM; PERMIT stays low, and ATTN is high. Run in any other phase it changes nothing. -/
def Obligations.StartUpCompletesWithRestartedLatched : Prop :=
  (∀ (a b : Bool) (s : State), s.phase ≠ .starting → exec (.startUpComplete a b) s = .next s)
  ∧ ∀ (a b : Bool) (s : State), s.phase = .starting → s.pml = {} → forcedSourcesForced s →
    ∃ t, exec (.startUpComplete a b) s = .next t
      ∧ running t ∧ t.ltr = { s.ltr with refA := a, refB := b }
      ∧ t.fmu = { s.fmu with temperatureDeadline := s.tmu.now + 60000000 }
      ∧ t.acu = { s.acu with idleDeadline := s.tmu.now + 900000000 }
      ∧ t.tmu = { s.tmu with saveDeadline := s.tmu.now + 3600000000 }
      ∧ t.sws = { s.sws with forgetAllAt := some s.tmu.now, reported := 0 }
      ∧ t.pml.permit = false ∧ t.lnk.attn = true
      ∧ (∀ src : FaultSource, (fieldsOf t src).active = true ↔
        (src = .cameraOffline ∧ ∃ k : CameraNo, s.ctu.activeSet.getLsbD k = true ∧ (s.camera k).state = .offline)
        ∨ (src = .cameraOverdue ∧ ∃ k : CameraNo, (accountAt s.tmu (.camera k)).state = .alarm)
        ∨ (src = .gateOverdue ∧ (accountAt s.tmu .gate).state = .alarm))
      ∧ (∀ src : FaultSource, (fieldsOf t src).latched = true ↔
        src = .restarted ∨ (src = .storeFailed ∧ s.sst.loadFailed = true) ∨ (fieldsOf t src).active = true)
      ∧ onlyChanged [.phase, .ltr, .fmu, .acu, .tmu, .sws, .pml, .notices] s t

/-! ## Configuration requests and readers -/

/-- A profile in its ranges (R42, R49). -/
def Sys2Proof.Claims.profileFits (p : Profile) : Prop :=
  10 ≤ p.startSpeed ∧ p.startSpeed ≤ 10000 ∧ p.startSpeed ≤ p.topSpeed ∧ p.topSpeed ≤ 100000 ∧ 1 ≤ p.acceleration
    ∧ p.acceleration ≤ 10000

/-- AXIS_CONFIG and CAMERA_CONFIG are refused LEVEL below level 2, BAD_VALUE for a unit or a value out of range, and BUSY while
the axis holds an assignment, is in motion or runs a valve test, or while a record in the track has a verdict entry for the
camera or an entry is pending. Accepted, the values replace the unit's, the store is dirty, and the answer is OK. -/
def Sys2Proof.Claims.UnitsAreConfiguredWhenFree : Prop :=
  (∀ (n offset startSpeed topSpeed acceleration limit : Nat) (s : State), running s →
    let c := Instr.axisConfig n offset startSpeed topSpeed acceleration limit
    let r := s.received c
    let p : Profile := ⟨startSpeed, topSpeed, acceleration⟩
    let fits := 1 ≤ offset ∧ offset < s.cfg.geometry.gateOffset ∧ profileFits p ∧ 1 ≤ limit ∧ limit ≤ 8388607
    (s.acu.level < 2 → exec c s = .next (r.refuse .level))
    ∧ (2 ≤ s.acu.level → 8 ≤ n ∨ ¬ fits → exec c s = .next (r.refuse .badValue))
    ∧ ∀ k : AxisNo, 2 ≤ s.acu.level → k.val = n → fits →
      let a := s.axis k
      let busy := a.assignments ≠ [] ∨ a.profile ≠ none ∨ a.valveTestEnd ≠ none
      (busy → exec c s = .next (r.refuse .busy))
      ∧ (¬ busy → exec c s
        = .next ((withSettings r { s.cfg with axes := s.cfg.axes.set k ⟨offset, p, limit⟩ }).replyOk [])))
  ∧ ∀ (n offset step window : Nat) (s : State), running s →
    let c := Instr.cameraConfig n offset step window
    let r := s.received c
    let g := s.cfg.geometry
    let fits := 1 ≤ offset ∧ offset < g.gateOffset ∧ step < g.stepsPerPitch ∧ 1 ≤ window ∧ window ≤ 16
      ∧ offset + window < g.gateOffset
    (s.acu.level < 2 → exec c s = .next (r.refuse .level))
    ∧ (2 ≤ s.acu.level → 6 ≤ n ∨ ¬ fits → exec c s = .next (r.refuse .badValue))
    ∧ ∀ k : CameraNo, 2 ≤ s.acu.level → k.val = n → fits →
      let busy := (∃ b ∈ s.ltr.track, ∃ v ∈ b.verdicts, v.1 = k) ∨ (s.camera k).pending ≠ []
      (busy → exec c s = .next (r.refuse .busy))
      ∧ (¬ busy → exec c s
        = .next ((withSettings r { s.cfg with cameras := s.cfg.cameras.set k ⟨offset, step, window⟩ }).replyOk []))

/-- LINE_GEOMETRY, LINE_CLEAR, AXIS_CONFIG and CAMERA_CONFIG act when what they change is free: all of
LineGeometryReplacesTheGeometry, LineClearEmptiesTheTrack and UnitsAreConfiguredWhenFree. -/
def Obligations.LineAndUnitsAreConfiguredWhenFree : Prop :=
  LineGeometryReplacesTheGeometry ∧ LineClearEmptiesTheTrack ∧ UnitsAreConfiguredWhenFree

/-- The bytes of a layout from an offset on are those given. -/
def Sys2Proof.Claims.holdsBytes (layout : List Byte) (offset : Nat) (field : List Byte) : Prop :=
  (layout.drop offset).take field.length = field

/-- The layout of a bottle record in 33 bytes (R195). -/
def Sys2Proof.Claims.recordLayout (b : Bottle) (position : Nat) (layout : List Byte) : Prop :=
  layout.length = 33
    ∧ holdsBytes layout 0 (be 4 b.serial) ∧ holdsBytes layout 4 (be 4 b.infeedPitch.toNat)
    ∧ holdsBytes layout 8 (be 8 (b.stamp.getD 0))
    ∧ holdsBytes layout 16 [flagsByte b.stamp.isSome b.fillAxis.isSome b.sample.isSome]
    ∧ holdsBytes layout 17 [BitVec.ofNat 8 b.recipe]
    ∧ (∀ k, b.fillAxis = some k → holdsBytes layout 18 [BitVec.ofNat 8 k]) ∧ (b.fillAxis = none → holdsBytes layout 18 [0])
    ∧ holdsBytes layout 19 [BitVec.ofNat 8 (fillResultCode b.fill)] ∧ holdsBytes layout 20 [BitVec.ofNat 8 b.verdicts.length]
    ∧ (∀ i : Fin 6, holdsBytes layout (21 + i) [match b.verdicts[i.val]? with
      | some v => BitVec.ofNat 8 (16 * v.1.val + verdictCode v.2)
      | none => 0xFF])
    ∧ (∀ w, b.sample = some w → holdsBytes layout 27 [BitVec.ofNat 8 w]) ∧ (b.sample = none → holdsBytes layout 27 [0])
    ∧ holdsBytes layout 28 [BitVec.ofNat 8 b.hits.toNat] ∧ holdsBytes layout 29 (be 4 position)

/-- TRACK_READ is refused BAD_VALUE for a serial of 0 or past 32 bits. Otherwise it answers the number of records returned and the
records, each in the 33 bytes of its layout: the oldest record whose serial is not below the one named and those that follow, up to
six. It changes nothing else. -/
def Sys2Proof.Claims.TrackReadReturnsRecordsInTheirLayout : Prop :=
  (∀ (b : Bottle) (position : Nat), recordLayout b position (bottleBytes b position))
  ∧ ∀ (serial : Nat) (s : State), running s →
    let c := Instr.trackRead serial
    let r := s.received c
    (serial = 0 ∨ 4294967295 < serial → exec c s = .next (r.refuse .badValue))
    ∧ ∀ older read newer, 1 ≤ serial → serial ≤ 4294967295 → s.ltr.track = older ++ read ++ newer →
      (∀ b ∈ older, b.serial < serial) → (∀ b ∈ (read ++ newer).head?, serial ≤ b.serial) →
      (read.length = 6 ∨ (read.length < 6 ∧ newer = [])) →
      exec c s = .next (r.replyOk ([BitVec.ofNat 8 read.length] ++ read.flatMap fun b =>
        bottleBytes b (s.ltr.pitch - b.infeedPitch).toNat))

/-- The layout of a station entry in 28 bytes (R196). -/
def Sys2Proof.Claims.stationLayout (e : Station) (layout : List Byte) : Prop :=
  let bound : Option Nat := match e.role with
    | .drive k => some k.val
    | .camera k => some k.val
    | _ => none
  layout.length = 28
    ∧ holdsBytes layout 0 (be 6 e.address.toNat) ∧ holdsBytes layout 6 [BitVec.ofNat 8 (e.port.val + 1)]
    ∧ holdsBytes layout 7 [BitVec.ofNat 8 (16 * stationKindCode e.kind + roleCode e.role)]
    ∧ holdsBytes layout 8 [BitVec.ofNat 8 (bound.getD 0)] ∧ holdsBytes layout 9 [BitVec.ofNat 8 (stationStateCode e.state)]
    ∧ holdsBytes layout 10 [BitVec.ofNat 8 (e.grant.getD 0)]
    ∧ holdsBytes layout 11 [flagsByte bound.isSome e.firstSeen.isSome e.lastSeen.isSome]
    ∧ holdsBytes layout 12 (be 8 (e.firstSeen.getD 0)) ∧ holdsBytes layout 20 (be 8 (e.lastSeen.getD 0))

/-- STATION_READ is refused BAD_VALUE for a set past 15, and else answers the set, its victim counter and the four ways, each
the 28 bytes of its entry or 28 bytes of 0. STATION_LOOKUP answers the flags of hit and forget list, the set, the way and the
entry, and the forget list entry where there is one; a miss carries way 0 and 28 bytes of 0 (log 11). FORGET_READ and
REJECT_LOG_READ answer up to eight entries from the start index on, BAD_VALUE past 31 and 15; the run time left of a forget
is 0 once it has passed (log 32). None changes anything else. -/
def Sys2Proof.Claims.TableReadersReturnTheirEntries : Prop :=
  (∀ e : Station, stationLayout e (stationBytes e))
  ∧ ∀ s : State, running s →
    (∀ n : Nat, 16 ≤ n → exec (.stationRead n) s = .next ((s.received (.stationRead n)).refuse .badValue))
    ∧ (∀ n : Fin 16, exec (.stationRead n) s = .next ((s.received (.stationRead n)).replyOk
      ([BitVec.ofNat 8 n, BitVec.ofNat 8 s.sws.table[n].victim] ++ (List.finRange 4).flatMap fun (w : Fin 4) =>
        match s.sws.table[n].ways[w] with
        | some e => stationBytes e
        | none => List.replicate 28 0)))
    ∧ (∀ (a : Address) (hit : Bool) (w : Nat) (entry forget : List Byte),
      ((∃ v e, standsIn s a v e ∧ hit = true ∧ w = v.val ∧ entry = stationBytes e)
        ∨ (misses s a ∧ hit = false ∧ w = 0 ∧ entry = List.replicate 28 0)) →
      ((∃ f, s.sws.forgets.find? (fun x => decide (x.address = a)) = some f ∧ forget = forgetBytes f)
        ∨ (¬ forgotten s a ∧ forget = [])) →
      exec (.stationLookup a) s = .next ((s.received (.stationLookup a)).replyOk
        ([flagsByte hit (decide (forget ≠ [])) false, BitVec.ofNat 8 (a.toNat % 16), BitVec.ofNat 8 w]
          ++ entry ++ forget)))
    ∧ (∀ n : Nat, 32 ≤ n → exec (.forgetRead n) s = .next ((s.received (.forgetRead n)).refuse .badValue))
    ∧ (∀ n : Nat, n ≤ 31 →
      let read := (s.sws.forgets.drop n).take 8
      exec (.forgetRead n) s = .next ((s.received (.forgetRead n)).replyOk
        ([BitVec.ofNat 8 read.length] ++ read.flatMap fun f => forgetBytes f ++ be 8 (f.sentAt + 2000000 - s.tmu.now))))
    ∧ (∀ n : Nat, 16 ≤ n → exec (.rejectLogRead n) s = .next ((s.received (.rejectLogRead n)).refuse .badValue))
    ∧ ∀ n : Nat, n ≤ 15 →
      let read := (s.ltr.log.drop n).take 8
      exec (.rejectLogRead n) s = .next ((s.received (.rejectLogRead n)).replyOk
        ([BitVec.ofNat 8 s.ltr.log.length, BitVec.ofNat 8 read.length] ++ read.flatMap rejectEntryBytes))

/-- TRACK_READ, the station readers, FORGET_READ and REJECT_LOG_READ return their entries in their layouts: all of
TrackReadReturnsRecordsInTheirLayout and TableReadersReturnTheirEntries. -/
def Obligations.TablesAreReadInTheirLayouts : Prop :=
  TrackReadReturnsRecordsInTheirLayout ∧ TableReadersReturnTheirEntries

/-- The command answers OK with a body, and changes nothing but its reply. -/
def Sys2Proof.Claims.reads (s : State) (c : Instr) (body : List Byte) : Prop := exec c s = .next ((s.received c).replyOk body)

/-- A run time left to a deadline: 0 once it has passed (log 32). -/
def Sys2Proof.Claims.left (s : State) (deadline : RunTime) : Nat := deadline - s.tmu.now

/-- Some account of a list of them is in ALARM. -/
def Sys2Proof.Claims.someWorn (s : State) (accounts : List Account) : Bool :=
  decide (∃ a ∈ accounts, (accountAt s.tmu a).state = .alarm)

/-- LINE_STATUS answers the fields of R23: the counts, the oldest, newest and next serial (EXHAUSTED as absent: log 11), the
verify slot, GATE and the two conditions, the geometry and the counters. TRIM_READ answers the trims, the mode, the pinned index
and the index in use; FILL_STATUS the active recipe, the pointer, the trim mode and indices, the temperature with the run time
left to its deadline (0 once it has passed: log 32), and each axis. RECIPE_READ is refused BAD_VALUE past 15 and answers the
recipe, whether it is active and how many records carry it. AXIS_STATUS and CAMERA_STATUS are refused BAD_VALUE for an empty set
or a camera outside 0 to 5, and answer each member with result OK and its fields; a level there is 1 when high or active (log
11). -/
def Sys2Proof.Claims.LineAndUnitReadersAnswer : Prop :=
  (∀ s : State, running s →
    let l := s.ltr
    let g := s.cfg.geometry
    reads s .lineStatus (be 4 l.pitch.toNat ++ be 2 l.step ++ be 2 l.debt ++ [BitVec.ofNat 8 l.track.length]
      ++ optional 4 (l.track.head?.map fun b => b.serial) ++ optional 4 (l.track.getLast?.map fun b => b.serial)
      ++ optional 4 l.nextSerial
      ++ (match l.verify with
        | none => [0, 0, 0, 0, 0, 0]
        | some v => 1 :: optional 4 v.serial)
      ++ yesNo l.gate ++ yesNo l.trackFull ++ yesNo l.trackReverse ++ be 2 g.gateOffset ++ be 2 g.stepsPerPitch
      ++ [BitVec.ofNat 8 g.pulseMs, if g.direction = .aLeads then 0 else 1] ++ l.counters.toList.flatMap (be 8)))
  ∧ (∀ (i : Nat) (s : State), running s → indexInUse s.cfg s.fmu.temperature i →
    let mode : Byte := if s.cfg.trimMode = .auto then 0 else 1
    reads s .trimRead (s.cfg.trims.toList.flatMap (beSigned 2) ++ [mode, BitVec.ofNat 8 s.cfg.pinnedIndex, BitVec.ofNat 8 i])
    ∧ reads s .fillStatus ([BitVec.ofNat 8 s.fmu.active, BitVec.ofNat 8 s.fmu.pointer, mode,
        BitVec.ofNat 8 s.cfg.pinnedIndex, BitVec.ofNat 8 i]
      ++ optionalSigned 2 s.fmu.temperature ++ yesNo s.fmu.tempStale ++ be 8 (left s s.fmu.temperatureDeadline)
      ++ [(0 : AxisNo), 1, 2, 3, 4, 5, 6, 7].flatMap fun k => fillAxisBytes s k))
  ∧ (∀ (n : Nat) (s : State), running s → 16 ≤ n →
    exec (.recipeRead n) s = .next ((s.received (.recipeRead n)).refuse .badValue))
  ∧ (∀ (n : RecipeNo) (s : State), running s →
    reads s (.recipeRead n) (recipeBytes s.cfg.recipes[n]
      ++ [if n = s.fmu.active then 1 else 0, BitVec.ofNat 8 (s.ltr.track.filter fun b => decide (b.recipe = n)).length]))
  ∧ (∀ (axes : AxisSet) (s : State), running s →
    let c := Instr.axisStatus axes
    (axes = 0 → exec c s = .next ((s.received c).refuse .badValue))
    ∧ (axes ≠ 0 → reads s c ((axisMembers axes).flatMap fun (k : AxisNo) => resultBytes k .ok 0 ++ axisStatusBytes s k)))
  ∧ ∀ (cameras : CameraSet) (s : State), running s →
    let c := Instr.cameraStatus cameras
    let bad := cameras = 0 ∨ (64#8 : CameraSet) ≤ cameras
    (bad → exec c s = .next ((s.received c).refuse .badValue))
    ∧ (¬ bad → reads s c ((cameraMembers cameras).flatMap fun (k : CameraNo) => resultBytes k .ok 0 ++ cameraStatusBytes s k))

/-- Each reader of the switch, the access, the grants, the watches with the holder table, the clock, the accounts, PERMIT and
the identity answers OK at any level with its fields in the order of its rule (R119, R142, R154, R164, R170, R181, R192), in
codes and places that are in part the model's choice (log 11). -/
def Sys2Proof.Claims.TableAndStateReadersAnswer : Prop :=
  ∀ s : State, running s →
    let x := s.tmu
    let stations : List Station := (List.finRange 16).flatMap fun n => (List.finRange 4).filterMap fun w => s.sws.table[n].ways[w]
    let kinds (k : StationKind) : Byte := BitVec.ofNat 8 (stations.filter fun e => decide (e.kind = k)).length
    let up (b : UpDown) : Byte := if b = .up then 0 else 1
    reads s .switchStatus (([(0 : PortIx), 1, 2, 3, 4, 5, 6, 7].flatMap fun p => portBytes s p)
      ++ yesNo (decide (∃ p : PortIx, s.sws.ports[p].blocked = true)) ++ yesNo (inAlarm s.sws)
      ++ [BitVec.ofNat 8 s.sws.forgets.length, BitVec.ofNat 8 s.sws.queries.length, kinds .pinned, kinds .learned]
      ++ s.sws.drives.toList.map up ++ s.sws.cameras.toList.map up ++ yesNo s.sws.firstDone
      ++ s.sws.counters.toList.flatMap (be 4))
    ∧ reads s .accessStatus ([BitVec.ofNat 8 s.acu.level] ++ be 8 (left s s.acu.idleDeadline)
      ++ [BitVec.ofNat 8 s.acu.failures] ++ optional 8 (s.acu.lockoutEnd.map fun t => left s t)
      ++ yesNo s.cfg.passcode1.isSome ++ yesNo s.cfg.passcode2.isSome ++ yesNo s.inputs.setup
      ++ [BitVec.ofNat 8 s.acu.grantCounter])
    ∧ reads s .grantRead ([(0 : Fin 4), 1, 2, 3].flatMap fun i => grantBytes x.now s.acu.grants[i])
    ∧ reads s .watchRead (([(0 : WatchNo), 1, 2, 3].flatMap fun w => watchBytes s s.acu.watches[w])
      ++ [(0 : AxisNo), 1, 2, 3, 4, 5, 6, 7].flatMap fun k => optional 1 (s.acu.holders[k].map fun w => w.val))
    ∧ reads s .clockStatus ([BitVec.ofNat 8 (clockStateCode x.clock)] ++ optional 8 s.stamp ++ be 8 x.now
      ++ beSigned 4 x.frequency ++ beSigned 4 x.phaseTerm ++ optional 8 (x.phaseEnd.map fun t => left s t)
      ++ beSigned 4 (heldRate (x.frequency + x.phaseTerm)) ++ lastOffsetBytes x.lastOffset
      ++ optional 8 (x.lastMark.map fun t => x.now - t) ++ optional 8 (x.holdoverDeadline.map fun t => left s t)
      ++ yesNo (decide (x.clock = .holdover)) ++ be 4 x.marks ++ be 4 x.steps ++ be 4 x.holdovers)
    ∧ reads s .accountRead ((x.accounts.toList.flatMap fun r => accountBytes r)
      ++ yesNo (someWorn s [.camera 0, .camera 1, .camera 2, .camera 3, .camera 4, .camera 5]) ++ yesNo (someWorn s [.gate])
      ++ be 8 (left s x.saveDeadline) ++ yesNo x.saveDeferred)
    ∧ reads s .permitStatus (yesNo s.pml.permit ++ (List.finRange 16).flatMap fun n => sourceBytes s n)
    ∧ reads s .identity ([0x4E, 0x31, 0x00, 0x32] ++ be 2 3206 ++ [1, 1, 128, 8, 6, 8, 64, 32, 32, 4]
      ++ be 8 x.now ++ s.lnk.counters.toList.flatMap (be 4))

/-- The kind of subject that a hit of a watch of a kind has (R148). -/
def Sys2Proof.Claims.subjectSuits : WatchKind → WatchSubject → Prop
  | .serial .., .serial .. => True
  | .axisPhase .., .axisPhase .. => True
  | .cameraNg .., .cameraNg .. => True
  | .station .., .station .. => True
  | _, _ => False

/-- The last subject of a watch stands behind its flag field by field in the order of R148, each field that may be absent behind
a flag of its own, and takes the same bytes whether it is present or absent (R154, R184). -/
def Sys2Proof.Claims.LastSubjectsTakeTheirBytes : Prop :=
  (∀ kind : WatchKind, ∃ n, lastSubjectBytes kind none = 0 :: List.replicate n 0
    ∧ ∀ subject : WatchSubject, subjectSuits kind subject → (lastSubjectBytes kind (some subject)).length = n + 1)
  ∧ (∀ (kind : WatchKind) (serial : Nat) (stage : Stage) (departure : Option (Departure × Option RejectReason)),
    lastSubjectBytes kind (some (.serial serial stage departure)) = [1] ++ be 4 serial ++ [BitVec.ofNat 8 (stageCode stage)]
      ++ (match departure with
        | none => [0, 0]
        | some d => [1, BitVec.ofNat 8 (departureCode d.1)])
      ++ (match departure with
        | some (_, some reason) => [1, BitVec.ofNat 8 (rejectReasonCode reason)]
        | _ => [0, 0]))
  ∧ (∀ (kind : WatchKind) (k : AxisNo) (phase : EntryPhase) (serial : Option Nat) (holds : Bool) (cause : Option HaltCause),
    lastSubjectBytes kind (some (.axisPhase k phase serial holds cause))
      = [1, BitVec.ofNat 8 k, BitVec.ofNat 8 (entryPhaseCode phase)] ++ optional 4 serial ++ [if holds then 1 else 0]
        ++ (match cause with
          | none => [0, 0]
          | some c => [1, BitVec.ofNat 8 (haltCauseCode c)]))
  ∧ (∀ (kind : WatchKind) (k : CameraNo) (n serial : Nat), lastSubjectBytes kind (some (.cameraNg k n serial))
    = [1, BitVec.ofNat 8 k, BitVec.ofNat 8 n] ++ be 4 serial)
  ∧ ∀ (kind : WatchKind) (a : Address) (p : PortIx) (admits : Bool), lastSubjectBytes kind (some (.station a p admits))
    = [1] ++ be 6 a.toNat ++ [BitVec.ofNat 8 (p.val + 1), if admits then 0 else 1]

/-- Every reader answers OK with its body and changes nothing but its reply: all of LineAndUnitReadersAnswer,
TableAndStateReadersAnswer and LastSubjectsTakeTheirBytes. -/
def Obligations.ReadersAnswerAndChangeNothing : Prop :=
  LineAndUnitReadersAnswer ∧ TableAndStateReadersAnswer ∧ LastSubjectsTakeTheirBytes


/-! ## The part as a whole -/

/-- One step with a command at the front of the queue runs that command on the state with the queue's rest. -/
def Obligations.StepRunsTheCommandAtTheFront : Prop :=
  ∀ (c : Instr) (rest : List Instr) (s : State), s.pending = c :: rest → step s = exec c { s with pending := rest }

/-- One microsecond of the ramp of an axis whose first pulse is due or out, and of one at rest: the speed in thousandths of a
p/s, of which an acceleration in p/s per ms is the change (R29; log 7). -/
def Sys2Proof.Claims.rampsOn (a b : Axis) : Prop :=
  (a.profile = none ∧ b = a)
  ∨ (∃ p, a.profile = some p ∧ a.ramp = some .accel ∧ a.speed + p.acceleration < p.topSpeed * 1000
    ∧ b = { a with speed := a.speed + p.acceleration, pulsePart := a.pulsePart + (a.speed + p.acceleration) })
  ∨ (∃ p, a.profile = some p ∧ a.ramp = some .accel ∧ p.topSpeed * 1000 ≤ a.speed + p.acceleration
    ∧ b = { a with speed := p.topSpeed * 1000, ramp := some .cruise, pulsePart := a.pulsePart + p.topSpeed * 1000 })
  ∨ (∃ p, a.profile = some p ∧ a.ramp = some .decel
    ∧ b = { a with
      speed := max (a.speed - p.acceleration) (p.startSpeed * 1000)
      pulsePart := a.pulsePart + max (a.speed - p.acceleration) (p.startSpeed * 1000) })
  ∨ (a.profile ≠ none ∧ (a.ramp = some .cruise ∨ a.ramp = none) ∧ b = { a with pulsePart := a.pulsePart + a.speed })

/-- An axis after one microsecond: the wait for the first pulse of a move, at the start speed, and then the ramp (R28, R29; log
7). -/
def Sys2Proof.Claims.rampsTo (a b : Axis) : Prop :=
  (∃ n, a.lead = n + 2 ∧ b = { a with lead := n + 1 }) ∨ (a.lead = 1 ∧ b = { a with lead := 0, pulsePart := 1000000000 })
  ∨ (a.lead = 0 ∧ rampsOn a b)

/-- With nothing waiting, a running part takes the oldest report in flight, else an event that is due, each with the effect of
that command (log 1, log 2). With none of these, and before start-up completes, a microsecond passes: the speeds ramp (log 7),
time goes on, and the inputs take the levels the outside holds next (log 3); RESET_N low stops all but the inputs. -/
def Sys2Proof.Claims.IdleStepsTakeWhatIsDueOrLetTimePass : Prop :=
  ∀ s : State, s.pending = [] →
    (∀ c rest, running s → s.reports = c :: rest → step s = exec c s)
    ∧ (∀ c, running s → s.reports = [] → dueCommand s = some c → step s = exec c s)
    ∧ (¬ running s ∨ (s.reports = [] ∧ dueCommand s = none) → step s = .next (tick s))
    ∧ (∀ levels rest, s.feed = levels :: rest →
      (s.phase = .held → tick s = { s with inputs := levels, feed := rest })
      ∧ (s.phase ≠ .held → tick s = { tick { s with feed := [] } with inputs := levels, feed := rest }))
    ∧ (s.feed = [] → s.phase = .held → tick s = s)
    ∧ ∀ v : Vector Axis 8, s.feed = [] → s.phase ≠ .held → (∀ k : AxisNo, rampsTo (s.axis k) v[k]) →
      tick s = { s.advanceTime with fmu := { s.fmu with axes := v } }

/-- A run time that has come. -/
def Sys2Proof.Claims.come (deadline : Option RunTime) (s : State) : Prop := ∃ t, deadline = some t ∧ t ≤ s.tmu.now

/-- The event of an axis, with its command, is due: its inputs, the end of a move, a pulse, and the two waits (R29, R30, R34,
R35, R46, R59). -/
def Sys2Proof.Claims.axisEventDue (s : State) (k : AxisNo) (c : Instr) : Prop :=
  let a := s.axis k
  (c = .limitActive k ∧ a.profile ≠ none ∧ s.inputs.limit.getLsbD k = true)
  ∨ (c = .homeFound k ∧ a.motion = .homing ∧ s.inputs.home.getLsbD k = true)
  ∨ (c = .homingTravelExhausted k ∧ a.profile ≠ none ∧ a.remaining = some 0 ∧ a.motion = .homing)
  ∨ (c = .moveComplete k ∧ a.profile ≠ none ∧ a.remaining = some 0 ∧ a.motion ≠ .homing)
  ∨ (c = .stepPulse k ∧ a.profile ≠ none ∧ a.remaining ≠ some 0 ∧ 1000000000 ≤ a.pulsePart)
  ∨ (c = .dwellExpiry k ∧ come a.dwellEnd s) ∨ (c = .valveTestExpiry k ∧ come a.valveTestEnd s)

/-- The extension of a source's live condition has run (R176). -/
def Sys2Proof.Claims.extensionRun (s : State) (src : FaultSource) : Prop :=
  (configOf s src).enable = true ∧ (configOf s src).mode = .live ∧ (fieldsOf s src).inEffect = false
    ∧ (fieldsOf s src).active = true
    ∧ ∃ t, (fieldsOf s src).since = some t ∧ t + (configOf s src).extension * 100000 ≤ s.tmu.now

/-- The event of a command is due, by the deadline or the condition its rule gives (R14, R67, R72, R96, R110, R115, R122, R124,
R133, R161, R163, R171, R186, and those of the axes and sources). -/
def Sys2Proof.Claims.isDue (s : State) (c : Instr) : Prop :=
  (∃ k, axisEventDue s k c) ∨ (c = .gatePulseExpiry ∧ come s.ltr.gateEnd s)
  ∨ (∃ k, c = .triggerPulseEnd k ∧ come (s.camera k).trigEnd s)
  ∨ (c = .tempDeadlineExpiry ∧ s.fmu.tempStale = false ∧ s.fmu.temperatureDeadline ≤ s.tmu.now)
  ∨ (∃ f rest, c = .forgetExpiry f.address ∧ s.sws.forgets = f :: rest ∧ f.sentAt + 2000000 ≤ s.tmu.now)
  ∨ (c = .firstSetting ∧ s.sws.firstDone = false ∧ (s.sws.reported = 0xFF#8
    ∨ ∃ t, s.sws.forgetAllAt = some t ∧ t + 2000000 ≤ s.tmu.now))
  ∨ (c = .lockoutExpiry ∧ come s.acu.lockoutEnd s)
  ∨ (c = .idleDeadlineExpiry ∧ 0 < s.acu.level ∧ s.acu.idleDeadline ≤ s.tmu.now)
  ∨ (∃ slot g, c = .grantExpiry slot ∧ s.acu.grants[slot] = some g ∧ g.state = .opened ∧ g.expiresAt ≤ s.tmu.now)
  ∨ (c = .phaseTermExpiry ∧ come s.tmu.phaseEnd s)
  ∨ (c = .holdoverExpiry ∧ s.tmu.clock = .locked ∧ come s.tmu.holdoverDeadline s)
  ∨ (c = .accountSaveExpiry ∧ s.tmu.saveDeadline ≤ s.tmu.now) ∨ (∃ src, c = .extensionExpiry src ∧ extensionRun s src)
  ∨ (c = .answer ∧ s.sws.queries ≠ []) ∨ (c = .requestTaken ∧ s.lnk.inHand = none ∧ s.lnk.queue ≠ [])

/-- The event an idle part takes is one that is due, none is taken when none is due, and one that alone is due is taken; the
order of several is the model's (log 2). -/
def Sys2Proof.Claims.DueEventsByTheirDeadlines : Prop :=
  ∀ s : State,
    (∀ c, dueCommand s = some c → isDue s c)
    ∧ (dueCommand s = none ↔ ∀ c, ¬ isDue s c)
    ∧ ∀ c, isDue s c → (∀ d, isDue s d → d = c) → dueCommand s = some c

/-- An idle part takes a report, an event that is due, or a microsecond (the model's choice, logs 1 to 3): all of
IdleStepsTakeWhatIsDueOrLetTimePass and DueEventsByTheirDeadlines. -/
def Obligations.AnIdlePartTakesWhatIsDueOrLetsTimePass : Prop :=
  IdleStepsTakeWhatIsDueOrLetTimePass ∧ DueEventsByTheirDeadlines

/-- The commands that are taken before start-up completes: the resets, its completion, and the messages of the switch link. -/
def Sys2Proof.Claims.takenEarly : Instr → Prop
  | .pinReset | .resetRelease | .startUpComplete .. | .query .. | .linkReport .. | .errorReport .. | .forgetDone ..
  | .timeMark .. | .switchBadFrame .. => True
  | _ => False

/-- Every command answers a next state in every state, and leaves the queue of commands and the levels the outside will hold as
they are. Before start-up completes no command but the resets, the completion and the messages of the switch link changes
anything, and the switch link's do nothing while RESET_N is low (the model's reading, log 30). -/
def Obligations.EveryCommandCompletes : Prop :=
  (∀ (c : Instr) (s : State), ∃ t, exec c s = .next t ∧ t.pending = s.pending ∧ t.feed = s.feed)
  ∧ (∀ (c : Instr) (s : State), ¬ running s → ¬ takenEarly c → exec c s = .next s)
  ∧ ∀ (c : Instr) (s : State), s.phase = .held → takenEarly c → c ≠ .pinReset → c ≠ .resetRelease → exec c s = .next s

/-- The outputs of the part follow their states: before start-up completes they hold the levels of R203, PERMIT is high exactly
while no source is in effect, and ATTN exactly while the notice queue holds a notice (R177, R190, R203). -/
def Sys2Proof.Claims.outputsFollow (s : State) : Prop :=
  quietUntilComplete s ∧ permitFollowsSources s ∧ attnFollowsQueue s

/-- Every step keeps the outputs following their states: CTX and STX high and every other output low before start-up completes,
PERMIT high exactly while no source is in effect, ATTN high exactly while the notice queue holds a notice. -/
def Obligations.EveryStepKeepsPermitAndAttn : Prop :=
  ∀ s t : State, outputsFollow s → step s = .next t → outputsFollow t

/-- Every step keeps VALVE low but in FILLING and while a valve test runs, on every axis. -/
def Sys2Proof.Claims.EveryStepKeepsTheValvesClosed : Prop :=
  ∀ s t : State, valveFollowsMotion s → step s = .next t → valveFollowsMotion t

/-- The line's invariant: the gate offset in its range; the track in strictly rising serials below the next serial, with positions
strictly falling and below the gate offset; and records made balancing those passed, rejected, lost, cleared and in the track (R5,
R6, R22). -/
def Sys2Proof.Claims.lineKept (s : State) : Prop :=
  let l := s.cfg.geometry.gateOffset
  let position (b : Bottle) : Nat := (s.ltr.pitch - b.infeedPitch).toNat
  let n (i : Fin 11) : Nat := s.ltr.counters[i]
  3 ≤ l ∧ l ≤ 1000
    ∧ s.ltr.track.Pairwise (fun b c => b.serial < c.serial ∧ position c < position b)
    ∧ (∀ b ∈ s.ltr.track, 1 ≤ b.serial ∧ b.serial ≤ 4294967295 ∧ position b < l)
    ∧ (∀ next, s.ltr.nextSerial = some next → 1 ≤ next ∧ next ≤ 4294967295 ∧ ∀ b ∈ s.ltr.track, b.serial < next)
    ∧ n 0 = n 1 + n 2 + n 3 + n 4 + n 5 + n 6 + s.ltr.track.length

/-- While the count of records made has not reached its top, every step keeps the track in strictly rising serials and strictly
falling positions below the gate offset, and keeps records made equal to those passed, rejected with a record, lost, cleared and
in the track. -/
def Obligations.EveryStepKeepsTheTrackInOrderAndCounted : Prop :=
  ∀ s t : State, lineKept s → s.ltr.counters[0] < 18446744073709551615 → step s = .next t → lineKept t

/-- The tags of each camera: the pending entries carry distinct tags, and none of them is stale, so that together they number at
most four (R81). -/
def Sys2Proof.Claims.tagsApart (s : State) : Prop :=
  ∀ k : CameraNo, ((s.camera k).pending.map fun e => e.tag).Nodup
    ∧ ∀ e ∈ (s.camera k).pending, (s.camera k).stale.getLsbD e.tag = false

/-- Every step keeps the tags of each camera apart: pending entries with distinct tags, none of them stale. -/
def Sys2Proof.Claims.EveryStepKeepsTheTagsApart : Prop :=
  ∀ s t : State, tagsApart s → step s = .next t → tagsApart t

/-- The station table and the forget list: an entry stands in the set of its address, no address and no bound unit stands twice,
the forgets carry distinct addresses, and no ADMITTED entry's address is among them (R101, R113). -/
def Sys2Proof.Claims.stationsKept (s : State) : Prop :=
  (∀ (n : Fin 16) (w : Fin 4) (e : Station), s.sws.table[n].ways[w] = some e →
    setFor e.address = n
    ∧ (∀ (v : Fin 4) (x : Station), s.sws.table[n].ways[v] = some x → x.address = e.address → v = w)
    ∧ (e.role ≠ .panel → e.role ≠ .other → e.role ≠ .unknown → e.role ≠ .serviceTerminal →
      ∀ (m : Fin 16) (v : Fin 4) (x : Station), s.sws.table[m].ways[v] = some x → x.role = e.role → m = n ∧ v = w)
    ∧ (e.state = .admitted → ¬ forgotten s e.address))
  ∧ (s.sws.forgets.map fun f => f.address).Nodup

/-- Every step keeps each station entry in the set of its address, no address and no bound unit twice in the table, the
addresses of the forget list distinct, and none of them that of an ADMITTED entry. -/
def Sys2Proof.Claims.EveryStepKeepsStationsAndForgetsApart : Prop :=
  ∀ s t : State, stationsKept s → step s = .next t → stationsKept t

/-- Every step keeps camera tags apart, and stations and forgets apart: all of EveryStepKeepsTheTagsApart and
EveryStepKeepsStationsAndForgetsApart. -/
def Obligations.EveryStepKeepsTagsAndStationsApart : Prop :=
  EveryStepKeepsTheTagsApart ∧ EveryStepKeepsStationsAndForgetsApart

/-- Every step keeps the track, the reject log, the query queue, the input queue and the notice queue within their sizes, and the
configuration of the forced sources enabled, LATCH and without extension. -/
def Sys2Proof.Claims.EveryStepKeepsTheQueuesWithinTheirSizes : Prop :=
  ∀ s t : State, listsFit s → forcedSourcesForced s → step s = .next t → listsFit t ∧ forcedSourcesForced t

/-- Every step keeps the valves closed out of FILLING and tests, the queues in size and the forced sources forced: all of
EveryStepKeepsTheValvesClosed and EveryStepKeepsTheQueuesWithinTheirSizes. -/
def Obligations.EveryStepKeepsValvesAndQueues : Prop :=
  EveryStepKeepsTheValvesClosed ∧ EveryStepKeepsTheQueuesWithinTheirSizes

/-- The state at reset holds every invariant of this file, waits for nothing, and is what a pin reset makes of it. -/
def Obligations.TheResetStateHoldsTheInvariants : Prop :=
  outputsFollow State.reset ∧ valveFollowsMotion State.reset ∧ lineKept State.reset ∧ tagsApart State.reset
    ∧ stationsKept State.reset ∧ listsFit State.reset ∧ forcedSourcesForced State.reset ∧ State.reset.pending = []
    ∧ State.reset.phase = .held ∧ exec .pinReset State.reset = .next State.reset
end

