-- ==== Sys2Proof/Laws/Encoding.lean ====
section
/-!
SUPPORT. Laws/Encoding.lean: how many bytes a field takes, whatever its value (R184), and which microsecond of an axis is which.
-/

namespace Sys2Proof.Machine

open Sys2Proof

/-! ## Widths (R184) -/

@[simp] theorem be_length (w n : Nat) : (be w n).length = w := by
  induction w <;> simp_all [be]

@[simp] theorem beSigned_length (w : Nat) (i : Int) : (beSigned w i).length = w := be_length _ _

@[simp] theorem byte_length (n : Nat) : (byte n).length = 1 := rfl

@[simp] theorem yesNo_length (b : Bool) : (yesNo b).length = 1 := rfl

@[simp] theorem optional_length (w : Nat) (x : Option Nat) : (optional w x).length = w + 1 := by
  cases x <;> simp [optional]

@[simp] theorem optionalSigned_length (w : Nat) (x : Option Int) : (optionalSigned w x).length = w + 1 := by
  cases x <;> simp [optionalSigned]

/-! ## The last subject of a watch takes its bytes whatever its value (R154, R184) -/

theorem lastSubject_absent_length (kind : WatchKind) : (lastSubjectBytes kind none).length = subjectWidth kind + 1 := by
  simp [lastSubjectBytes]

theorem lastSubject_serial_length (n : Nat) (at_ stage : Stage) (serial : Nat) (d : Option (Departure × Option RejectReason)) :
    (lastSubjectBytes (.serial n at_) (some (.serial serial stage d))).length = subjectWidth (.serial n at_) + 1 := by
  simp [lastSubjectBytes, subjectFields, subjectWidth]

theorem lastSubject_axisPhase_length (k j : AxisNo) (p q : EntryPhase) (serial : Option Nat) (holds : Bool)
    (cause : Option HaltCause) :
    (lastSubjectBytes (.axisPhase k p) (some (.axisPhase j q serial holds cause))).length
      = subjectWidth (.axisPhase k p) + 1 := by
  simp [lastSubjectBytes, subjectFields, subjectWidth]

theorem lastSubject_cameraNg_length (k j : CameraNo) (n m serial : Nat) :
    (lastSubjectBytes (.cameraNg k n) (some (.cameraNg j m serial))).length = subjectWidth (.cameraNg k n) + 1 := by
  simp [lastSubjectBytes, subjectFields, subjectWidth]

theorem lastSubject_station_length (a b : Address) (p : PortIx) (admits : Bool) :
    (lastSubjectBytes (.station a) (some (.station b p admits))).length = subjectWidth (.station a) + 1 := by
  simp [lastSubjectBytes, subjectFields, subjectWidth]

/-! ## A microsecond of an axis (R28, R29) -/

theorem ramped_waiting {a : Axis} {left : Nat} (h : a.lead = left + 1) : a.ramped = a.awaitFirst left := by
  simp [Axis.ramped, h]

theorem ramped_pulsing {a : Axis} (h : a.lead = 0) : a.ramped = a.rampedOn := by
  simp [Axis.ramped, h]

@[simp] theorem awaitFirst_speed (a : Axis) (left : Nat) : (a.awaitFirst left).speed = a.speed := rfl
@[simp] theorem awaitFirst_lead (a : Axis) (left : Nat) : (a.awaitFirst left).lead = left := rfl
@[simp] theorem startMove_speed (a : Axis) (down : Bool) (count : Option Nat) (p : Profile) (flat : Bool) :
    (a.startMove down count p flat).speed = p.startSpeed * 1000 := rfl
@[simp] theorem pulse_lead (a : Axis) : a.pulse.lead = 0 := rfl
@[simp] theorem pulse_speed (a : Axis) : a.pulse.speed = a.speed := rfl
@[simp] theorem atRest_lead (a : Axis) : a.atRest.lead = 0 := rfl

end Sys2Proof.Machine
end

