-- ==== Sys2Proof/Laws/State.lean ====
section
/-!
SUPPORT. Laws/State.lean: what each field of the state reads as after a block of it is written, one lemma a field and a write, so
that no proof unfolds a record update.
-/

namespace Sys2Proof.Machine

open Sys2Proof


/-! ## After a write of phase -/

@[simp] theorem setPhase_phase (s : State) (x : Phase) : (s.setPhase x).phase = x := rfl
@[simp] theorem setPhase_pending (s : State) (x : Phase) : (s.setPhase x).pending = s.pending := rfl
@[simp] theorem setPhase_reports (s : State) (x : Phase) : (s.setPhase x).reports = s.reports := rfl
@[simp] theorem setPhase_inputs (s : State) (x : Phase) : (s.setPhase x).inputs = s.inputs := rfl
@[simp] theorem setPhase_feed (s : State) (x : Phase) : (s.setPhase x).feed = s.feed := rfl
@[simp] theorem setPhase_draws (s : State) (x : Phase) : (s.setPhase x).draws = s.draws := rfl
@[simp] theorem setPhase_cfg (s : State) (x : Phase) : (s.setPhase x).cfg = s.cfg := rfl
@[simp] theorem setPhase_ltr (s : State) (x : Phase) : (s.setPhase x).ltr = s.ltr := rfl
@[simp] theorem setPhase_fmu (s : State) (x : Phase) : (s.setPhase x).fmu = s.fmu := rfl
@[simp] theorem setPhase_ctu (s : State) (x : Phase) : (s.setPhase x).ctu = s.ctu := rfl
@[simp] theorem setPhase_sws (s : State) (x : Phase) : (s.setPhase x).sws = s.sws := rfl
@[simp] theorem setPhase_acu (s : State) (x : Phase) : (s.setPhase x).acu = s.acu := rfl
@[simp] theorem setPhase_tmu (s : State) (x : Phase) : (s.setPhase x).tmu = s.tmu := rfl
@[simp] theorem setPhase_pml (s : State) (x : Phase) : (s.setPhase x).pml = s.pml := rfl
@[simp] theorem setPhase_sst (s : State) (x : Phase) : (s.setPhase x).sst = s.sst := rfl
@[simp] theorem setPhase_lnk (s : State) (x : Phase) : (s.setPhase x).lnk = s.lnk := rfl

/-! ## After a write of pending -/

@[simp] theorem setPending_phase (s : State) (x : List Instr) : (s.setPending x).phase = s.phase := rfl
@[simp] theorem setPending_pending (s : State) (x : List Instr) : (s.setPending x).pending = x := rfl
@[simp] theorem setPending_reports (s : State) (x : List Instr) : (s.setPending x).reports = s.reports := rfl
@[simp] theorem setPending_inputs (s : State) (x : List Instr) : (s.setPending x).inputs = s.inputs := rfl
@[simp] theorem setPending_feed (s : State) (x : List Instr) : (s.setPending x).feed = s.feed := rfl
@[simp] theorem setPending_draws (s : State) (x : List Instr) : (s.setPending x).draws = s.draws := rfl
@[simp] theorem setPending_cfg (s : State) (x : List Instr) : (s.setPending x).cfg = s.cfg := rfl
@[simp] theorem setPending_ltr (s : State) (x : List Instr) : (s.setPending x).ltr = s.ltr := rfl
@[simp] theorem setPending_fmu (s : State) (x : List Instr) : (s.setPending x).fmu = s.fmu := rfl
@[simp] theorem setPending_ctu (s : State) (x : List Instr) : (s.setPending x).ctu = s.ctu := rfl
@[simp] theorem setPending_sws (s : State) (x : List Instr) : (s.setPending x).sws = s.sws := rfl
@[simp] theorem setPending_acu (s : State) (x : List Instr) : (s.setPending x).acu = s.acu := rfl
@[simp] theorem setPending_tmu (s : State) (x : List Instr) : (s.setPending x).tmu = s.tmu := rfl
@[simp] theorem setPending_pml (s : State) (x : List Instr) : (s.setPending x).pml = s.pml := rfl
@[simp] theorem setPending_sst (s : State) (x : List Instr) : (s.setPending x).sst = s.sst := rfl
@[simp] theorem setPending_lnk (s : State) (x : List Instr) : (s.setPending x).lnk = s.lnk := rfl

/-! ## After a write of reports -/

@[simp] theorem setReports_phase (s : State) (x : List Instr) : (s.setReports x).phase = s.phase := rfl
@[simp] theorem setReports_pending (s : State) (x : List Instr) : (s.setReports x).pending = s.pending := rfl
@[simp] theorem setReports_reports (s : State) (x : List Instr) : (s.setReports x).reports = x := rfl
@[simp] theorem setReports_inputs (s : State) (x : List Instr) : (s.setReports x).inputs = s.inputs := rfl
@[simp] theorem setReports_feed (s : State) (x : List Instr) : (s.setReports x).feed = s.feed := rfl
@[simp] theorem setReports_draws (s : State) (x : List Instr) : (s.setReports x).draws = s.draws := rfl
@[simp] theorem setReports_cfg (s : State) (x : List Instr) : (s.setReports x).cfg = s.cfg := rfl
@[simp] theorem setReports_ltr (s : State) (x : List Instr) : (s.setReports x).ltr = s.ltr := rfl
@[simp] theorem setReports_fmu (s : State) (x : List Instr) : (s.setReports x).fmu = s.fmu := rfl
@[simp] theorem setReports_ctu (s : State) (x : List Instr) : (s.setReports x).ctu = s.ctu := rfl
@[simp] theorem setReports_sws (s : State) (x : List Instr) : (s.setReports x).sws = s.sws := rfl
@[simp] theorem setReports_acu (s : State) (x : List Instr) : (s.setReports x).acu = s.acu := rfl
@[simp] theorem setReports_tmu (s : State) (x : List Instr) : (s.setReports x).tmu = s.tmu := rfl
@[simp] theorem setReports_pml (s : State) (x : List Instr) : (s.setReports x).pml = s.pml := rfl
@[simp] theorem setReports_sst (s : State) (x : List Instr) : (s.setReports x).sst = s.sst := rfl
@[simp] theorem setReports_lnk (s : State) (x : List Instr) : (s.setReports x).lnk = s.lnk := rfl

/-! ## After a write of inputs -/

@[simp] theorem setInputs_phase (s : State) (x : Inputs) : (s.setInputs x).phase = s.phase := rfl
@[simp] theorem setInputs_pending (s : State) (x : Inputs) : (s.setInputs x).pending = s.pending := rfl
@[simp] theorem setInputs_reports (s : State) (x : Inputs) : (s.setInputs x).reports = s.reports := rfl
@[simp] theorem setInputs_inputs (s : State) (x : Inputs) : (s.setInputs x).inputs = x := rfl
@[simp] theorem setInputs_feed (s : State) (x : Inputs) : (s.setInputs x).feed = s.feed := rfl
@[simp] theorem setInputs_draws (s : State) (x : Inputs) : (s.setInputs x).draws = s.draws := rfl
@[simp] theorem setInputs_cfg (s : State) (x : Inputs) : (s.setInputs x).cfg = s.cfg := rfl
@[simp] theorem setInputs_ltr (s : State) (x : Inputs) : (s.setInputs x).ltr = s.ltr := rfl
@[simp] theorem setInputs_fmu (s : State) (x : Inputs) : (s.setInputs x).fmu = s.fmu := rfl
@[simp] theorem setInputs_ctu (s : State) (x : Inputs) : (s.setInputs x).ctu = s.ctu := rfl
@[simp] theorem setInputs_sws (s : State) (x : Inputs) : (s.setInputs x).sws = s.sws := rfl
@[simp] theorem setInputs_acu (s : State) (x : Inputs) : (s.setInputs x).acu = s.acu := rfl
@[simp] theorem setInputs_tmu (s : State) (x : Inputs) : (s.setInputs x).tmu = s.tmu := rfl
@[simp] theorem setInputs_pml (s : State) (x : Inputs) : (s.setInputs x).pml = s.pml := rfl
@[simp] theorem setInputs_sst (s : State) (x : Inputs) : (s.setInputs x).sst = s.sst := rfl
@[simp] theorem setInputs_lnk (s : State) (x : Inputs) : (s.setInputs x).lnk = s.lnk := rfl

/-! ## After a write of feed -/

@[simp] theorem setFeed_phase (s : State) (x : List Inputs) : (s.setFeed x).phase = s.phase := rfl
@[simp] theorem setFeed_pending (s : State) (x : List Inputs) : (s.setFeed x).pending = s.pending := rfl
@[simp] theorem setFeed_reports (s : State) (x : List Inputs) : (s.setFeed x).reports = s.reports := rfl
@[simp] theorem setFeed_inputs (s : State) (x : List Inputs) : (s.setFeed x).inputs = s.inputs := rfl
@[simp] theorem setFeed_feed (s : State) (x : List Inputs) : (s.setFeed x).feed = x := rfl
@[simp] theorem setFeed_draws (s : State) (x : List Inputs) : (s.setFeed x).draws = s.draws := rfl
@[simp] theorem setFeed_cfg (s : State) (x : List Inputs) : (s.setFeed x).cfg = s.cfg := rfl
@[simp] theorem setFeed_ltr (s : State) (x : List Inputs) : (s.setFeed x).ltr = s.ltr := rfl
@[simp] theorem setFeed_fmu (s : State) (x : List Inputs) : (s.setFeed x).fmu = s.fmu := rfl
@[simp] theorem setFeed_ctu (s : State) (x : List Inputs) : (s.setFeed x).ctu = s.ctu := rfl
@[simp] theorem setFeed_sws (s : State) (x : List Inputs) : (s.setFeed x).sws = s.sws := rfl
@[simp] theorem setFeed_acu (s : State) (x : List Inputs) : (s.setFeed x).acu = s.acu := rfl
@[simp] theorem setFeed_tmu (s : State) (x : List Inputs) : (s.setFeed x).tmu = s.tmu := rfl
@[simp] theorem setFeed_pml (s : State) (x : List Inputs) : (s.setFeed x).pml = s.pml := rfl
@[simp] theorem setFeed_sst (s : State) (x : List Inputs) : (s.setFeed x).sst = s.sst := rfl
@[simp] theorem setFeed_lnk (s : State) (x : List Inputs) : (s.setFeed x).lnk = s.lnk := rfl

/-! ## After a write of draws -/

@[simp] theorem setDraws_phase (s : State) (x : Nat) : (s.setDraws x).phase = s.phase := rfl
@[simp] theorem setDraws_pending (s : State) (x : Nat) : (s.setDraws x).pending = s.pending := rfl
@[simp] theorem setDraws_reports (s : State) (x : Nat) : (s.setDraws x).reports = s.reports := rfl
@[simp] theorem setDraws_inputs (s : State) (x : Nat) : (s.setDraws x).inputs = s.inputs := rfl
@[simp] theorem setDraws_feed (s : State) (x : Nat) : (s.setDraws x).feed = s.feed := rfl
@[simp] theorem setDraws_draws (s : State) (x : Nat) : (s.setDraws x).draws = x := rfl
@[simp] theorem setDraws_cfg (s : State) (x : Nat) : (s.setDraws x).cfg = s.cfg := rfl
@[simp] theorem setDraws_ltr (s : State) (x : Nat) : (s.setDraws x).ltr = s.ltr := rfl
@[simp] theorem setDraws_fmu (s : State) (x : Nat) : (s.setDraws x).fmu = s.fmu := rfl
@[simp] theorem setDraws_ctu (s : State) (x : Nat) : (s.setDraws x).ctu = s.ctu := rfl
@[simp] theorem setDraws_sws (s : State) (x : Nat) : (s.setDraws x).sws = s.sws := rfl
@[simp] theorem setDraws_acu (s : State) (x : Nat) : (s.setDraws x).acu = s.acu := rfl
@[simp] theorem setDraws_tmu (s : State) (x : Nat) : (s.setDraws x).tmu = s.tmu := rfl
@[simp] theorem setDraws_pml (s : State) (x : Nat) : (s.setDraws x).pml = s.pml := rfl
@[simp] theorem setDraws_sst (s : State) (x : Nat) : (s.setDraws x).sst = s.sst := rfl
@[simp] theorem setDraws_lnk (s : State) (x : Nat) : (s.setDraws x).lnk = s.lnk := rfl

/-! ## After a write of cfg -/

@[simp] theorem setCfg_phase (s : State) (x : Settings) : (s.setCfg x).phase = s.phase := rfl
@[simp] theorem setCfg_pending (s : State) (x : Settings) : (s.setCfg x).pending = s.pending := rfl
@[simp] theorem setCfg_reports (s : State) (x : Settings) : (s.setCfg x).reports = s.reports := rfl
@[simp] theorem setCfg_inputs (s : State) (x : Settings) : (s.setCfg x).inputs = s.inputs := rfl
@[simp] theorem setCfg_feed (s : State) (x : Settings) : (s.setCfg x).feed = s.feed := rfl
@[simp] theorem setCfg_draws (s : State) (x : Settings) : (s.setCfg x).draws = s.draws := rfl
@[simp] theorem setCfg_cfg (s : State) (x : Settings) : (s.setCfg x).cfg = x := rfl
@[simp] theorem setCfg_ltr (s : State) (x : Settings) : (s.setCfg x).ltr = s.ltr := rfl
@[simp] theorem setCfg_fmu (s : State) (x : Settings) : (s.setCfg x).fmu = s.fmu := rfl
@[simp] theorem setCfg_ctu (s : State) (x : Settings) : (s.setCfg x).ctu = s.ctu := rfl
@[simp] theorem setCfg_sws (s : State) (x : Settings) : (s.setCfg x).sws = s.sws := rfl
@[simp] theorem setCfg_acu (s : State) (x : Settings) : (s.setCfg x).acu = s.acu := rfl
@[simp] theorem setCfg_tmu (s : State) (x : Settings) : (s.setCfg x).tmu = s.tmu := rfl
@[simp] theorem setCfg_pml (s : State) (x : Settings) : (s.setCfg x).pml = s.pml := rfl
@[simp] theorem setCfg_sst (s : State) (x : Settings) : (s.setCfg x).sst = s.sst := rfl
@[simp] theorem setCfg_lnk (s : State) (x : Settings) : (s.setCfg x).lnk = s.lnk := rfl

/-! ## After a write of ltr -/

@[simp] theorem setLtr_phase (s : State) (x : Ltr) : (s.setLtr x).phase = s.phase := rfl
@[simp] theorem setLtr_pending (s : State) (x : Ltr) : (s.setLtr x).pending = s.pending := rfl
@[simp] theorem setLtr_reports (s : State) (x : Ltr) : (s.setLtr x).reports = s.reports := rfl
@[simp] theorem setLtr_inputs (s : State) (x : Ltr) : (s.setLtr x).inputs = s.inputs := rfl
@[simp] theorem setLtr_feed (s : State) (x : Ltr) : (s.setLtr x).feed = s.feed := rfl
@[simp] theorem setLtr_draws (s : State) (x : Ltr) : (s.setLtr x).draws = s.draws := rfl
@[simp] theorem setLtr_cfg (s : State) (x : Ltr) : (s.setLtr x).cfg = s.cfg := rfl
@[simp] theorem setLtr_ltr (s : State) (x : Ltr) : (s.setLtr x).ltr = x := rfl
@[simp] theorem setLtr_fmu (s : State) (x : Ltr) : (s.setLtr x).fmu = s.fmu := rfl
@[simp] theorem setLtr_ctu (s : State) (x : Ltr) : (s.setLtr x).ctu = s.ctu := rfl
@[simp] theorem setLtr_sws (s : State) (x : Ltr) : (s.setLtr x).sws = s.sws := rfl
@[simp] theorem setLtr_acu (s : State) (x : Ltr) : (s.setLtr x).acu = s.acu := rfl
@[simp] theorem setLtr_tmu (s : State) (x : Ltr) : (s.setLtr x).tmu = s.tmu := rfl
@[simp] theorem setLtr_pml (s : State) (x : Ltr) : (s.setLtr x).pml = s.pml := rfl
@[simp] theorem setLtr_sst (s : State) (x : Ltr) : (s.setLtr x).sst = s.sst := rfl
@[simp] theorem setLtr_lnk (s : State) (x : Ltr) : (s.setLtr x).lnk = s.lnk := rfl

/-! ## After a write of fmu -/

@[simp] theorem setFmu_phase (s : State) (x : Fmu) : (s.setFmu x).phase = s.phase := rfl
@[simp] theorem setFmu_pending (s : State) (x : Fmu) : (s.setFmu x).pending = s.pending := rfl
@[simp] theorem setFmu_reports (s : State) (x : Fmu) : (s.setFmu x).reports = s.reports := rfl
@[simp] theorem setFmu_inputs (s : State) (x : Fmu) : (s.setFmu x).inputs = s.inputs := rfl
@[simp] theorem setFmu_feed (s : State) (x : Fmu) : (s.setFmu x).feed = s.feed := rfl
@[simp] theorem setFmu_draws (s : State) (x : Fmu) : (s.setFmu x).draws = s.draws := rfl
@[simp] theorem setFmu_cfg (s : State) (x : Fmu) : (s.setFmu x).cfg = s.cfg := rfl
@[simp] theorem setFmu_ltr (s : State) (x : Fmu) : (s.setFmu x).ltr = s.ltr := rfl
@[simp] theorem setFmu_fmu (s : State) (x : Fmu) : (s.setFmu x).fmu = x := rfl
@[simp] theorem setFmu_ctu (s : State) (x : Fmu) : (s.setFmu x).ctu = s.ctu := rfl
@[simp] theorem setFmu_sws (s : State) (x : Fmu) : (s.setFmu x).sws = s.sws := rfl
@[simp] theorem setFmu_acu (s : State) (x : Fmu) : (s.setFmu x).acu = s.acu := rfl
@[simp] theorem setFmu_tmu (s : State) (x : Fmu) : (s.setFmu x).tmu = s.tmu := rfl
@[simp] theorem setFmu_pml (s : State) (x : Fmu) : (s.setFmu x).pml = s.pml := rfl
@[simp] theorem setFmu_sst (s : State) (x : Fmu) : (s.setFmu x).sst = s.sst := rfl
@[simp] theorem setFmu_lnk (s : State) (x : Fmu) : (s.setFmu x).lnk = s.lnk := rfl

/-! ## After a write of ctu -/

@[simp] theorem setCtu_phase (s : State) (x : Ctu) : (s.setCtu x).phase = s.phase := rfl
@[simp] theorem setCtu_pending (s : State) (x : Ctu) : (s.setCtu x).pending = s.pending := rfl
@[simp] theorem setCtu_reports (s : State) (x : Ctu) : (s.setCtu x).reports = s.reports := rfl
@[simp] theorem setCtu_inputs (s : State) (x : Ctu) : (s.setCtu x).inputs = s.inputs := rfl
@[simp] theorem setCtu_feed (s : State) (x : Ctu) : (s.setCtu x).feed = s.feed := rfl
@[simp] theorem setCtu_draws (s : State) (x : Ctu) : (s.setCtu x).draws = s.draws := rfl
@[simp] theorem setCtu_cfg (s : State) (x : Ctu) : (s.setCtu x).cfg = s.cfg := rfl
@[simp] theorem setCtu_ltr (s : State) (x : Ctu) : (s.setCtu x).ltr = s.ltr := rfl
@[simp] theorem setCtu_fmu (s : State) (x : Ctu) : (s.setCtu x).fmu = s.fmu := rfl
@[simp] theorem setCtu_ctu (s : State) (x : Ctu) : (s.setCtu x).ctu = x := rfl
@[simp] theorem setCtu_sws (s : State) (x : Ctu) : (s.setCtu x).sws = s.sws := rfl
@[simp] theorem setCtu_acu (s : State) (x : Ctu) : (s.setCtu x).acu = s.acu := rfl
@[simp] theorem setCtu_tmu (s : State) (x : Ctu) : (s.setCtu x).tmu = s.tmu := rfl
@[simp] theorem setCtu_pml (s : State) (x : Ctu) : (s.setCtu x).pml = s.pml := rfl
@[simp] theorem setCtu_sst (s : State) (x : Ctu) : (s.setCtu x).sst = s.sst := rfl
@[simp] theorem setCtu_lnk (s : State) (x : Ctu) : (s.setCtu x).lnk = s.lnk := rfl

/-! ## After a write of sws -/

@[simp] theorem setSws_phase (s : State) (x : Sws) : (s.setSws x).phase = s.phase := rfl
@[simp] theorem setSws_pending (s : State) (x : Sws) : (s.setSws x).pending = s.pending := rfl
@[simp] theorem setSws_reports (s : State) (x : Sws) : (s.setSws x).reports = s.reports := rfl
@[simp] theorem setSws_inputs (s : State) (x : Sws) : (s.setSws x).inputs = s.inputs := rfl
@[simp] theorem setSws_feed (s : State) (x : Sws) : (s.setSws x).feed = s.feed := rfl
@[simp] theorem setSws_draws (s : State) (x : Sws) : (s.setSws x).draws = s.draws := rfl
@[simp] theorem setSws_cfg (s : State) (x : Sws) : (s.setSws x).cfg = s.cfg := rfl
@[simp] theorem setSws_ltr (s : State) (x : Sws) : (s.setSws x).ltr = s.ltr := rfl
@[simp] theorem setSws_fmu (s : State) (x : Sws) : (s.setSws x).fmu = s.fmu := rfl
@[simp] theorem setSws_ctu (s : State) (x : Sws) : (s.setSws x).ctu = s.ctu := rfl
@[simp] theorem setSws_sws (s : State) (x : Sws) : (s.setSws x).sws = x := rfl
@[simp] theorem setSws_acu (s : State) (x : Sws) : (s.setSws x).acu = s.acu := rfl
@[simp] theorem setSws_tmu (s : State) (x : Sws) : (s.setSws x).tmu = s.tmu := rfl
@[simp] theorem setSws_pml (s : State) (x : Sws) : (s.setSws x).pml = s.pml := rfl
@[simp] theorem setSws_sst (s : State) (x : Sws) : (s.setSws x).sst = s.sst := rfl
@[simp] theorem setSws_lnk (s : State) (x : Sws) : (s.setSws x).lnk = s.lnk := rfl

/-! ## After a write of acu -/

@[simp] theorem setAcu_phase (s : State) (x : Acu) : (s.setAcu x).phase = s.phase := rfl
@[simp] theorem setAcu_pending (s : State) (x : Acu) : (s.setAcu x).pending = s.pending := rfl
@[simp] theorem setAcu_reports (s : State) (x : Acu) : (s.setAcu x).reports = s.reports := rfl
@[simp] theorem setAcu_inputs (s : State) (x : Acu) : (s.setAcu x).inputs = s.inputs := rfl
@[simp] theorem setAcu_feed (s : State) (x : Acu) : (s.setAcu x).feed = s.feed := rfl
@[simp] theorem setAcu_draws (s : State) (x : Acu) : (s.setAcu x).draws = s.draws := rfl
@[simp] theorem setAcu_cfg (s : State) (x : Acu) : (s.setAcu x).cfg = s.cfg := rfl
@[simp] theorem setAcu_ltr (s : State) (x : Acu) : (s.setAcu x).ltr = s.ltr := rfl
@[simp] theorem setAcu_fmu (s : State) (x : Acu) : (s.setAcu x).fmu = s.fmu := rfl
@[simp] theorem setAcu_ctu (s : State) (x : Acu) : (s.setAcu x).ctu = s.ctu := rfl
@[simp] theorem setAcu_sws (s : State) (x : Acu) : (s.setAcu x).sws = s.sws := rfl
@[simp] theorem setAcu_acu (s : State) (x : Acu) : (s.setAcu x).acu = x := rfl
@[simp] theorem setAcu_tmu (s : State) (x : Acu) : (s.setAcu x).tmu = s.tmu := rfl
@[simp] theorem setAcu_pml (s : State) (x : Acu) : (s.setAcu x).pml = s.pml := rfl
@[simp] theorem setAcu_sst (s : State) (x : Acu) : (s.setAcu x).sst = s.sst := rfl
@[simp] theorem setAcu_lnk (s : State) (x : Acu) : (s.setAcu x).lnk = s.lnk := rfl

/-! ## After a write of tmu -/

@[simp] theorem setTmu_phase (s : State) (x : Tmu) : (s.setTmu x).phase = s.phase := rfl
@[simp] theorem setTmu_pending (s : State) (x : Tmu) : (s.setTmu x).pending = s.pending := rfl
@[simp] theorem setTmu_reports (s : State) (x : Tmu) : (s.setTmu x).reports = s.reports := rfl
@[simp] theorem setTmu_inputs (s : State) (x : Tmu) : (s.setTmu x).inputs = s.inputs := rfl
@[simp] theorem setTmu_feed (s : State) (x : Tmu) : (s.setTmu x).feed = s.feed := rfl
@[simp] theorem setTmu_draws (s : State) (x : Tmu) : (s.setTmu x).draws = s.draws := rfl
@[simp] theorem setTmu_cfg (s : State) (x : Tmu) : (s.setTmu x).cfg = s.cfg := rfl
@[simp] theorem setTmu_ltr (s : State) (x : Tmu) : (s.setTmu x).ltr = s.ltr := rfl
@[simp] theorem setTmu_fmu (s : State) (x : Tmu) : (s.setTmu x).fmu = s.fmu := rfl
@[simp] theorem setTmu_ctu (s : State) (x : Tmu) : (s.setTmu x).ctu = s.ctu := rfl
@[simp] theorem setTmu_sws (s : State) (x : Tmu) : (s.setTmu x).sws = s.sws := rfl
@[simp] theorem setTmu_acu (s : State) (x : Tmu) : (s.setTmu x).acu = s.acu := rfl
@[simp] theorem setTmu_tmu (s : State) (x : Tmu) : (s.setTmu x).tmu = x := rfl
@[simp] theorem setTmu_pml (s : State) (x : Tmu) : (s.setTmu x).pml = s.pml := rfl
@[simp] theorem setTmu_sst (s : State) (x : Tmu) : (s.setTmu x).sst = s.sst := rfl
@[simp] theorem setTmu_lnk (s : State) (x : Tmu) : (s.setTmu x).lnk = s.lnk := rfl

/-! ## After a write of pml -/

@[simp] theorem setPml_phase (s : State) (x : Pml) : (s.setPml x).phase = s.phase := rfl
@[simp] theorem setPml_pending (s : State) (x : Pml) : (s.setPml x).pending = s.pending := rfl
@[simp] theorem setPml_reports (s : State) (x : Pml) : (s.setPml x).reports = s.reports := rfl
@[simp] theorem setPml_inputs (s : State) (x : Pml) : (s.setPml x).inputs = s.inputs := rfl
@[simp] theorem setPml_feed (s : State) (x : Pml) : (s.setPml x).feed = s.feed := rfl
@[simp] theorem setPml_draws (s : State) (x : Pml) : (s.setPml x).draws = s.draws := rfl
@[simp] theorem setPml_cfg (s : State) (x : Pml) : (s.setPml x).cfg = s.cfg := rfl
@[simp] theorem setPml_ltr (s : State) (x : Pml) : (s.setPml x).ltr = s.ltr := rfl
@[simp] theorem setPml_fmu (s : State) (x : Pml) : (s.setPml x).fmu = s.fmu := rfl
@[simp] theorem setPml_ctu (s : State) (x : Pml) : (s.setPml x).ctu = s.ctu := rfl
@[simp] theorem setPml_sws (s : State) (x : Pml) : (s.setPml x).sws = s.sws := rfl
@[simp] theorem setPml_acu (s : State) (x : Pml) : (s.setPml x).acu = s.acu := rfl
@[simp] theorem setPml_tmu (s : State) (x : Pml) : (s.setPml x).tmu = s.tmu := rfl
@[simp] theorem setPml_pml (s : State) (x : Pml) : (s.setPml x).pml = x := rfl
@[simp] theorem setPml_sst (s : State) (x : Pml) : (s.setPml x).sst = s.sst := rfl
@[simp] theorem setPml_lnk (s : State) (x : Pml) : (s.setPml x).lnk = s.lnk := rfl

/-! ## After a write of sst -/

@[simp] theorem setSst_phase (s : State) (x : Sst) : (s.setSst x).phase = s.phase := rfl
@[simp] theorem setSst_pending (s : State) (x : Sst) : (s.setSst x).pending = s.pending := rfl
@[simp] theorem setSst_reports (s : State) (x : Sst) : (s.setSst x).reports = s.reports := rfl
@[simp] theorem setSst_inputs (s : State) (x : Sst) : (s.setSst x).inputs = s.inputs := rfl
@[simp] theorem setSst_feed (s : State) (x : Sst) : (s.setSst x).feed = s.feed := rfl
@[simp] theorem setSst_draws (s : State) (x : Sst) : (s.setSst x).draws = s.draws := rfl
@[simp] theorem setSst_cfg (s : State) (x : Sst) : (s.setSst x).cfg = s.cfg := rfl
@[simp] theorem setSst_ltr (s : State) (x : Sst) : (s.setSst x).ltr = s.ltr := rfl
@[simp] theorem setSst_fmu (s : State) (x : Sst) : (s.setSst x).fmu = s.fmu := rfl
@[simp] theorem setSst_ctu (s : State) (x : Sst) : (s.setSst x).ctu = s.ctu := rfl
@[simp] theorem setSst_sws (s : State) (x : Sst) : (s.setSst x).sws = s.sws := rfl
@[simp] theorem setSst_acu (s : State) (x : Sst) : (s.setSst x).acu = s.acu := rfl
@[simp] theorem setSst_tmu (s : State) (x : Sst) : (s.setSst x).tmu = s.tmu := rfl
@[simp] theorem setSst_pml (s : State) (x : Sst) : (s.setSst x).pml = s.pml := rfl
@[simp] theorem setSst_sst (s : State) (x : Sst) : (s.setSst x).sst = x := rfl
@[simp] theorem setSst_lnk (s : State) (x : Sst) : (s.setSst x).lnk = s.lnk := rfl

/-! ## After a write of lnk -/

@[simp] theorem setLnk_phase (s : State) (x : Lnk) : (s.setLnk x).phase = s.phase := rfl
@[simp] theorem setLnk_pending (s : State) (x : Lnk) : (s.setLnk x).pending = s.pending := rfl
@[simp] theorem setLnk_reports (s : State) (x : Lnk) : (s.setLnk x).reports = s.reports := rfl
@[simp] theorem setLnk_inputs (s : State) (x : Lnk) : (s.setLnk x).inputs = s.inputs := rfl
@[simp] theorem setLnk_feed (s : State) (x : Lnk) : (s.setLnk x).feed = s.feed := rfl
@[simp] theorem setLnk_draws (s : State) (x : Lnk) : (s.setLnk x).draws = s.draws := rfl
@[simp] theorem setLnk_cfg (s : State) (x : Lnk) : (s.setLnk x).cfg = s.cfg := rfl
@[simp] theorem setLnk_ltr (s : State) (x : Lnk) : (s.setLnk x).ltr = s.ltr := rfl
@[simp] theorem setLnk_fmu (s : State) (x : Lnk) : (s.setLnk x).fmu = s.fmu := rfl
@[simp] theorem setLnk_ctu (s : State) (x : Lnk) : (s.setLnk x).ctu = s.ctu := rfl
@[simp] theorem setLnk_sws (s : State) (x : Lnk) : (s.setLnk x).sws = s.sws := rfl
@[simp] theorem setLnk_acu (s : State) (x : Lnk) : (s.setLnk x).acu = s.acu := rfl
@[simp] theorem setLnk_tmu (s : State) (x : Lnk) : (s.setLnk x).tmu = s.tmu := rfl
@[simp] theorem setLnk_pml (s : State) (x : Lnk) : (s.setLnk x).pml = s.pml := rfl
@[simp] theorem setLnk_sst (s : State) (x : Lnk) : (s.setLnk x).sst = s.sst := rfl
@[simp] theorem setLnk_lnk (s : State) (x : Lnk) : (s.setLnk x).lnk = x := rfl

end Sys2Proof.Machine
end

