-- ==== Sys2Proof/Laws/Fields.lean ====
section
/-!
SUPPORT. Laws/Fields.lean: the fields that each shared operation of Ops.lean and Flags.lean leaves alone, one lemma a field and an
operation.
-/

namespace Sys2Proof.Machine

open Sys2Proof


/-! ## received -/

@[simp] theorem received_phase (s : State) (c : Instr) : (s.received c).phase = s.phase := rfl
@[simp] theorem received_pending (s : State) (c : Instr) : (s.received c).pending = s.pending := rfl
@[simp] theorem received_inputs (s : State) (c : Instr) : (s.received c).inputs = s.inputs := rfl
@[simp] theorem received_feed (s : State) (c : Instr) : (s.received c).feed = s.feed := rfl
@[simp] theorem received_draws (s : State) (c : Instr) : (s.received c).draws = s.draws := rfl
@[simp] theorem received_cfg (s : State) (c : Instr) : (s.received c).cfg = s.cfg := rfl
@[simp] theorem received_ltr (s : State) (c : Instr) : (s.received c).ltr = s.ltr := rfl
@[simp] theorem received_fmu (s : State) (c : Instr) : (s.received c).fmu = s.fmu := rfl
@[simp] theorem received_ctu (s : State) (c : Instr) : (s.received c).ctu = s.ctu := rfl
@[simp] theorem received_sws (s : State) (c : Instr) : (s.received c).sws = s.sws := rfl
@[simp] theorem received_acu (s : State) (c : Instr) : (s.received c).acu = s.acu := rfl
@[simp] theorem received_tmu (s : State) (c : Instr) : (s.received c).tmu = s.tmu := rfl
@[simp] theorem received_pml (s : State) (c : Instr) : (s.received c).pml = s.pml := rfl
@[simp] theorem received_sst (s : State) (c : Instr) : (s.received c).sst = s.sst := rfl
@[simp] theorem received_lnk (s : State) (c : Instr) : (s.received c).lnk = s.lnk := rfl

/-! ## send -/

@[simp] theorem send_phase (s : State) (c : Instr) : (s.send c).phase = s.phase := rfl
@[simp] theorem send_pending (s : State) (c : Instr) : (s.send c).pending = s.pending := rfl
@[simp] theorem send_inputs (s : State) (c : Instr) : (s.send c).inputs = s.inputs := rfl
@[simp] theorem send_feed (s : State) (c : Instr) : (s.send c).feed = s.feed := rfl
@[simp] theorem send_draws (s : State) (c : Instr) : (s.send c).draws = s.draws := rfl
@[simp] theorem send_cfg (s : State) (c : Instr) : (s.send c).cfg = s.cfg := rfl
@[simp] theorem send_ltr (s : State) (c : Instr) : (s.send c).ltr = s.ltr := rfl
@[simp] theorem send_fmu (s : State) (c : Instr) : (s.send c).fmu = s.fmu := rfl
@[simp] theorem send_ctu (s : State) (c : Instr) : (s.send c).ctu = s.ctu := rfl
@[simp] theorem send_sws (s : State) (c : Instr) : (s.send c).sws = s.sws := rfl
@[simp] theorem send_acu (s : State) (c : Instr) : (s.send c).acu = s.acu := rfl
@[simp] theorem send_tmu (s : State) (c : Instr) : (s.send c).tmu = s.tmu := rfl
@[simp] theorem send_pml (s : State) (c : Instr) : (s.send c).pml = s.pml := rfl
@[simp] theorem send_sst (s : State) (c : Instr) : (s.send c).sst = s.sst := rfl
@[simp] theorem send_lnk (s : State) (c : Instr) : (s.send c).lnk = s.lnk := rfl

/-! ## sendAll -/

@[simp] theorem sendAll_phase (s : State) (cs : List Instr) : (s.sendAll cs).phase = s.phase := rfl
@[simp] theorem sendAll_pending (s : State) (cs : List Instr) : (s.sendAll cs).pending = s.pending := rfl
@[simp] theorem sendAll_inputs (s : State) (cs : List Instr) : (s.sendAll cs).inputs = s.inputs := rfl
@[simp] theorem sendAll_feed (s : State) (cs : List Instr) : (s.sendAll cs).feed = s.feed := rfl
@[simp] theorem sendAll_draws (s : State) (cs : List Instr) : (s.sendAll cs).draws = s.draws := rfl
@[simp] theorem sendAll_cfg (s : State) (cs : List Instr) : (s.sendAll cs).cfg = s.cfg := rfl
@[simp] theorem sendAll_ltr (s : State) (cs : List Instr) : (s.sendAll cs).ltr = s.ltr := rfl
@[simp] theorem sendAll_fmu (s : State) (cs : List Instr) : (s.sendAll cs).fmu = s.fmu := rfl
@[simp] theorem sendAll_ctu (s : State) (cs : List Instr) : (s.sendAll cs).ctu = s.ctu := rfl
@[simp] theorem sendAll_sws (s : State) (cs : List Instr) : (s.sendAll cs).sws = s.sws := rfl
@[simp] theorem sendAll_acu (s : State) (cs : List Instr) : (s.sendAll cs).acu = s.acu := rfl
@[simp] theorem sendAll_tmu (s : State) (cs : List Instr) : (s.sendAll cs).tmu = s.tmu := rfl
@[simp] theorem sendAll_pml (s : State) (cs : List Instr) : (s.sendAll cs).pml = s.pml := rfl
@[simp] theorem sendAll_sst (s : State) (cs : List Instr) : (s.sendAll cs).sst = s.sst := rfl
@[simp] theorem sendAll_lnk (s : State) (cs : List Instr) : (s.sendAll cs).lnk = s.lnk := rfl

/-! ## post -/

@[simp] theorem post_phase (s : State) (n : Notice) : (s.post n).phase = s.phase := rfl
@[simp] theorem post_pending (s : State) (n : Notice) : (s.post n).pending = s.pending := rfl
@[simp] theorem post_reports (s : State) (n : Notice) : (s.post n).reports = s.reports := rfl
@[simp] theorem post_inputs (s : State) (n : Notice) : (s.post n).inputs = s.inputs := rfl
@[simp] theorem post_feed (s : State) (n : Notice) : (s.post n).feed = s.feed := rfl
@[simp] theorem post_draws (s : State) (n : Notice) : (s.post n).draws = s.draws := rfl
@[simp] theorem post_cfg (s : State) (n : Notice) : (s.post n).cfg = s.cfg := rfl
@[simp] theorem post_ltr (s : State) (n : Notice) : (s.post n).ltr = s.ltr := rfl
@[simp] theorem post_fmu (s : State) (n : Notice) : (s.post n).fmu = s.fmu := rfl
@[simp] theorem post_ctu (s : State) (n : Notice) : (s.post n).ctu = s.ctu := rfl
@[simp] theorem post_sws (s : State) (n : Notice) : (s.post n).sws = s.sws := rfl
@[simp] theorem post_acu (s : State) (n : Notice) : (s.post n).acu = s.acu := rfl
@[simp] theorem post_tmu (s : State) (n : Notice) : (s.post n).tmu = s.tmu := rfl
@[simp] theorem post_pml (s : State) (n : Notice) : (s.post n).pml = s.pml := rfl
@[simp] theorem post_sst (s : State) (n : Notice) : (s.post n).sst = s.sst := rfl

/-! ## answer -/

@[simp] theorem answer_phase (s : State) (a : Answer) : (s.answer a).phase = s.phase := by
  simp only [State.answer]; split <;> rfl
@[simp] theorem answer_pending (s : State) (a : Answer) : (s.answer a).pending = s.pending := by
  simp only [State.answer]; split <;> rfl
@[simp] theorem answer_reports (s : State) (a : Answer) : (s.answer a).reports = s.reports := by
  simp only [State.answer]; split <;> rfl
@[simp] theorem answer_inputs (s : State) (a : Answer) : (s.answer a).inputs = s.inputs := by
  simp only [State.answer]; split <;> rfl
@[simp] theorem answer_feed (s : State) (a : Answer) : (s.answer a).feed = s.feed := by
  simp only [State.answer]; split <;> rfl
@[simp] theorem answer_draws (s : State) (a : Answer) : (s.answer a).draws = s.draws := by
  simp only [State.answer]; split <;> rfl
@[simp] theorem answer_cfg (s : State) (a : Answer) : (s.answer a).cfg = s.cfg := by
  simp only [State.answer]; split <;> rfl
@[simp] theorem answer_ltr (s : State) (a : Answer) : (s.answer a).ltr = s.ltr := by
  simp only [State.answer]; split <;> rfl
@[simp] theorem answer_fmu (s : State) (a : Answer) : (s.answer a).fmu = s.fmu := by
  simp only [State.answer]; split <;> rfl
@[simp] theorem answer_ctu (s : State) (a : Answer) : (s.answer a).ctu = s.ctu := by
  simp only [State.answer]; split <;> rfl
@[simp] theorem answer_sws (s : State) (a : Answer) : (s.answer a).sws = s.sws := by
  simp only [State.answer]; split <;> rfl
@[simp] theorem answer_acu (s : State) (a : Answer) : (s.answer a).acu = s.acu := by
  simp only [State.answer]; split <;> rfl
@[simp] theorem answer_tmu (s : State) (a : Answer) : (s.answer a).tmu = s.tmu := by
  simp only [State.answer]; split <;> rfl
@[simp] theorem answer_pml (s : State) (a : Answer) : (s.answer a).pml = s.pml := by
  simp only [State.answer]; split <;> rfl
@[simp] theorem answer_sst (s : State) (a : Answer) : (s.answer a).sst = s.sst := by
  simp only [State.answer]; split <;> rfl

/-! ## replyOk -/

@[simp] theorem replyOk_phase (s : State) (b : List Byte) : (s.replyOk b).phase = s.phase := by
  simp only [State.replyOk, State.answer]; split <;> rfl
@[simp] theorem replyOk_pending (s : State) (b : List Byte) : (s.replyOk b).pending = s.pending := by
  simp only [State.replyOk, State.answer]; split <;> rfl
@[simp] theorem replyOk_reports (s : State) (b : List Byte) : (s.replyOk b).reports = s.reports := by
  simp only [State.replyOk, State.answer]; split <;> rfl
@[simp] theorem replyOk_inputs (s : State) (b : List Byte) : (s.replyOk b).inputs = s.inputs := by
  simp only [State.replyOk, State.answer]; split <;> rfl
@[simp] theorem replyOk_feed (s : State) (b : List Byte) : (s.replyOk b).feed = s.feed := by
  simp only [State.replyOk, State.answer]; split <;> rfl
@[simp] theorem replyOk_draws (s : State) (b : List Byte) : (s.replyOk b).draws = s.draws := by
  simp only [State.replyOk, State.answer]; split <;> rfl
@[simp] theorem replyOk_cfg (s : State) (b : List Byte) : (s.replyOk b).cfg = s.cfg := by
  simp only [State.replyOk, State.answer]; split <;> rfl
@[simp] theorem replyOk_ltr (s : State) (b : List Byte) : (s.replyOk b).ltr = s.ltr := by
  simp only [State.replyOk, State.answer]; split <;> rfl
@[simp] theorem replyOk_fmu (s : State) (b : List Byte) : (s.replyOk b).fmu = s.fmu := by
  simp only [State.replyOk, State.answer]; split <;> rfl
@[simp] theorem replyOk_ctu (s : State) (b : List Byte) : (s.replyOk b).ctu = s.ctu := by
  simp only [State.replyOk, State.answer]; split <;> rfl
@[simp] theorem replyOk_sws (s : State) (b : List Byte) : (s.replyOk b).sws = s.sws := by
  simp only [State.replyOk, State.answer]; split <;> rfl
@[simp] theorem replyOk_acu (s : State) (b : List Byte) : (s.replyOk b).acu = s.acu := by
  simp only [State.replyOk, State.answer]; split <;> rfl
@[simp] theorem replyOk_tmu (s : State) (b : List Byte) : (s.replyOk b).tmu = s.tmu := by
  simp only [State.replyOk, State.answer]; split <;> rfl
@[simp] theorem replyOk_pml (s : State) (b : List Byte) : (s.replyOk b).pml = s.pml := by
  simp only [State.replyOk, State.answer]; split <;> rfl
@[simp] theorem replyOk_sst (s : State) (b : List Byte) : (s.replyOk b).sst = s.sst := by
  simp only [State.replyOk, State.answer]; split <;> rfl

/-! ## replyAccepted -/

@[simp] theorem replyAccepted_phase (s : State) (b : List Byte) : (s.replyAccepted b).phase = s.phase := by
  simp only [State.replyAccepted, State.answer]; split <;> rfl
@[simp] theorem replyAccepted_pending (s : State) (b : List Byte) : (s.replyAccepted b).pending = s.pending := by
  simp only [State.replyAccepted, State.answer]; split <;> rfl
@[simp] theorem replyAccepted_reports (s : State) (b : List Byte) : (s.replyAccepted b).reports = s.reports := by
  simp only [State.replyAccepted, State.answer]; split <;> rfl
@[simp] theorem replyAccepted_inputs (s : State) (b : List Byte) : (s.replyAccepted b).inputs = s.inputs := by
  simp only [State.replyAccepted, State.answer]; split <;> rfl
@[simp] theorem replyAccepted_feed (s : State) (b : List Byte) : (s.replyAccepted b).feed = s.feed := by
  simp only [State.replyAccepted, State.answer]; split <;> rfl
@[simp] theorem replyAccepted_draws (s : State) (b : List Byte) : (s.replyAccepted b).draws = s.draws := by
  simp only [State.replyAccepted, State.answer]; split <;> rfl
@[simp] theorem replyAccepted_cfg (s : State) (b : List Byte) : (s.replyAccepted b).cfg = s.cfg := by
  simp only [State.replyAccepted, State.answer]; split <;> rfl
@[simp] theorem replyAccepted_ltr (s : State) (b : List Byte) : (s.replyAccepted b).ltr = s.ltr := by
  simp only [State.replyAccepted, State.answer]; split <;> rfl
@[simp] theorem replyAccepted_fmu (s : State) (b : List Byte) : (s.replyAccepted b).fmu = s.fmu := by
  simp only [State.replyAccepted, State.answer]; split <;> rfl
@[simp] theorem replyAccepted_ctu (s : State) (b : List Byte) : (s.replyAccepted b).ctu = s.ctu := by
  simp only [State.replyAccepted, State.answer]; split <;> rfl
@[simp] theorem replyAccepted_sws (s : State) (b : List Byte) : (s.replyAccepted b).sws = s.sws := by
  simp only [State.replyAccepted, State.answer]; split <;> rfl
@[simp] theorem replyAccepted_acu (s : State) (b : List Byte) : (s.replyAccepted b).acu = s.acu := by
  simp only [State.replyAccepted, State.answer]; split <;> rfl
@[simp] theorem replyAccepted_tmu (s : State) (b : List Byte) : (s.replyAccepted b).tmu = s.tmu := by
  simp only [State.replyAccepted, State.answer]; split <;> rfl
@[simp] theorem replyAccepted_pml (s : State) (b : List Byte) : (s.replyAccepted b).pml = s.pml := by
  simp only [State.replyAccepted, State.answer]; split <;> rfl
@[simp] theorem replyAccepted_sst (s : State) (b : List Byte) : (s.replyAccepted b).sst = s.sst := by
  simp only [State.replyAccepted, State.answer]; split <;> rfl

/-! ## refuse -/

@[simp] theorem refuse_phase (s : State) (r : Reason) : (s.refuse r).phase = s.phase := by
  simp only [State.refuse, State.answer]; split <;> rfl
@[simp] theorem refuse_pending (s : State) (r : Reason) : (s.refuse r).pending = s.pending := by
  simp only [State.refuse, State.answer]; split <;> rfl
@[simp] theorem refuse_reports (s : State) (r : Reason) : (s.refuse r).reports = s.reports := by
  simp only [State.refuse, State.answer]; split <;> rfl
@[simp] theorem refuse_inputs (s : State) (r : Reason) : (s.refuse r).inputs = s.inputs := by
  simp only [State.refuse, State.answer]; split <;> rfl
@[simp] theorem refuse_feed (s : State) (r : Reason) : (s.refuse r).feed = s.feed := by
  simp only [State.refuse, State.answer]; split <;> rfl
@[simp] theorem refuse_draws (s : State) (r : Reason) : (s.refuse r).draws = s.draws := by
  simp only [State.refuse, State.answer]; split <;> rfl
@[simp] theorem refuse_cfg (s : State) (r : Reason) : (s.refuse r).cfg = s.cfg := by
  simp only [State.refuse, State.answer]; split <;> rfl
@[simp] theorem refuse_ltr (s : State) (r : Reason) : (s.refuse r).ltr = s.ltr := by
  simp only [State.refuse, State.answer]; split <;> rfl
@[simp] theorem refuse_fmu (s : State) (r : Reason) : (s.refuse r).fmu = s.fmu := by
  simp only [State.refuse, State.answer]; split <;> rfl
@[simp] theorem refuse_ctu (s : State) (r : Reason) : (s.refuse r).ctu = s.ctu := by
  simp only [State.refuse, State.answer]; split <;> rfl
@[simp] theorem refuse_sws (s : State) (r : Reason) : (s.refuse r).sws = s.sws := by
  simp only [State.refuse, State.answer]; split <;> rfl
@[simp] theorem refuse_acu (s : State) (r : Reason) : (s.refuse r).acu = s.acu := by
  simp only [State.refuse, State.answer]; split <;> rfl
@[simp] theorem refuse_tmu (s : State) (r : Reason) : (s.refuse r).tmu = s.tmu := by
  simp only [State.refuse, State.answer]; split <;> rfl
@[simp] theorem refuse_pml (s : State) (r : Reason) : (s.refuse r).pml = s.pml := by
  simp only [State.refuse, State.answer]; split <;> rfl
@[simp] theorem refuse_sst (s : State) (r : Reason) : (s.refuse r).sst = s.sst := by
  simp only [State.refuse, State.answer]; split <;> rfl

/-! ## markDirty -/

@[simp] theorem markDirty_phase (s : State) : (s.markDirty).phase = s.phase := rfl
@[simp] theorem markDirty_pending (s : State) : (s.markDirty).pending = s.pending := rfl
@[simp] theorem markDirty_reports (s : State) : (s.markDirty).reports = s.reports := rfl
@[simp] theorem markDirty_inputs (s : State) : (s.markDirty).inputs = s.inputs := rfl
@[simp] theorem markDirty_feed (s : State) : (s.markDirty).feed = s.feed := rfl
@[simp] theorem markDirty_draws (s : State) : (s.markDirty).draws = s.draws := rfl
@[simp] theorem markDirty_cfg (s : State) : (s.markDirty).cfg = s.cfg := rfl
@[simp] theorem markDirty_ltr (s : State) : (s.markDirty).ltr = s.ltr := rfl
@[simp] theorem markDirty_fmu (s : State) : (s.markDirty).fmu = s.fmu := rfl
@[simp] theorem markDirty_ctu (s : State) : (s.markDirty).ctu = s.ctu := rfl
@[simp] theorem markDirty_sws (s : State) : (s.markDirty).sws = s.sws := rfl
@[simp] theorem markDirty_acu (s : State) : (s.markDirty).acu = s.acu := rfl
@[simp] theorem markDirty_tmu (s : State) : (s.markDirty).tmu = s.tmu := rfl
@[simp] theorem markDirty_pml (s : State) : (s.markDirty).pml = s.pml := rfl
@[simp] theorem markDirty_lnk (s : State) : (s.markDirty).lnk = s.lnk := rfl

/-! ## configure -/

@[simp] theorem configure_phase (s : State) (c : Settings) : (s.configure c).phase = s.phase := rfl
@[simp] theorem configure_pending (s : State) (c : Settings) : (s.configure c).pending = s.pending := rfl
@[simp] theorem configure_reports (s : State) (c : Settings) : (s.configure c).reports = s.reports := rfl
@[simp] theorem configure_inputs (s : State) (c : Settings) : (s.configure c).inputs = s.inputs := rfl
@[simp] theorem configure_feed (s : State) (c : Settings) : (s.configure c).feed = s.feed := rfl
@[simp] theorem configure_draws (s : State) (c : Settings) : (s.configure c).draws = s.draws := rfl
@[simp] theorem configure_ltr (s : State) (c : Settings) : (s.configure c).ltr = s.ltr := rfl
@[simp] theorem configure_fmu (s : State) (c : Settings) : (s.configure c).fmu = s.fmu := rfl
@[simp] theorem configure_ctu (s : State) (c : Settings) : (s.configure c).ctu = s.ctu := rfl
@[simp] theorem configure_sws (s : State) (c : Settings) : (s.configure c).sws = s.sws := rfl
@[simp] theorem configure_acu (s : State) (c : Settings) : (s.configure c).acu = s.acu := rfl
@[simp] theorem configure_tmu (s : State) (c : Settings) : (s.configure c).tmu = s.tmu := rfl
@[simp] theorem configure_pml (s : State) (c : Settings) : (s.configure c).pml = s.pml := rfl
@[simp] theorem configure_lnk (s : State) (c : Settings) : (s.configure c).lnk = s.lnk := rfl

/-! ## setAxis -/

@[simp] theorem setAxis_phase (s : State) (k : AxisNo) (a : Axis) : (s.setAxis k a).phase = s.phase := rfl
@[simp] theorem setAxis_pending (s : State) (k : AxisNo) (a : Axis) : (s.setAxis k a).pending = s.pending := rfl
@[simp] theorem setAxis_reports (s : State) (k : AxisNo) (a : Axis) : (s.setAxis k a).reports = s.reports := rfl
@[simp] theorem setAxis_inputs (s : State) (k : AxisNo) (a : Axis) : (s.setAxis k a).inputs = s.inputs := rfl
@[simp] theorem setAxis_feed (s : State) (k : AxisNo) (a : Axis) : (s.setAxis k a).feed = s.feed := rfl
@[simp] theorem setAxis_draws (s : State) (k : AxisNo) (a : Axis) : (s.setAxis k a).draws = s.draws := rfl
@[simp] theorem setAxis_cfg (s : State) (k : AxisNo) (a : Axis) : (s.setAxis k a).cfg = s.cfg := rfl
@[simp] theorem setAxis_ltr (s : State) (k : AxisNo) (a : Axis) : (s.setAxis k a).ltr = s.ltr := rfl
@[simp] theorem setAxis_ctu (s : State) (k : AxisNo) (a : Axis) : (s.setAxis k a).ctu = s.ctu := rfl
@[simp] theorem setAxis_sws (s : State) (k : AxisNo) (a : Axis) : (s.setAxis k a).sws = s.sws := rfl
@[simp] theorem setAxis_acu (s : State) (k : AxisNo) (a : Axis) : (s.setAxis k a).acu = s.acu := rfl
@[simp] theorem setAxis_tmu (s : State) (k : AxisNo) (a : Axis) : (s.setAxis k a).tmu = s.tmu := rfl
@[simp] theorem setAxis_pml (s : State) (k : AxisNo) (a : Axis) : (s.setAxis k a).pml = s.pml := rfl
@[simp] theorem setAxis_sst (s : State) (k : AxisNo) (a : Axis) : (s.setAxis k a).sst = s.sst := rfl
@[simp] theorem setAxis_lnk (s : State) (k : AxisNo) (a : Axis) : (s.setAxis k a).lnk = s.lnk := rfl

/-! ## setCamera -/

@[simp] theorem setCamera_phase (s : State) (k : CameraNo) (c : Camera) : (s.setCamera k c).phase = s.phase := rfl
@[simp] theorem setCamera_pending (s : State) (k : CameraNo) (c : Camera) : (s.setCamera k c).pending = s.pending := rfl
@[simp] theorem setCamera_reports (s : State) (k : CameraNo) (c : Camera) : (s.setCamera k c).reports = s.reports := rfl
@[simp] theorem setCamera_inputs (s : State) (k : CameraNo) (c : Camera) : (s.setCamera k c).inputs = s.inputs := rfl
@[simp] theorem setCamera_feed (s : State) (k : CameraNo) (c : Camera) : (s.setCamera k c).feed = s.feed := rfl
@[simp] theorem setCamera_draws (s : State) (k : CameraNo) (c : Camera) : (s.setCamera k c).draws = s.draws := rfl
@[simp] theorem setCamera_cfg (s : State) (k : CameraNo) (c : Camera) : (s.setCamera k c).cfg = s.cfg := rfl
@[simp] theorem setCamera_ltr (s : State) (k : CameraNo) (c : Camera) : (s.setCamera k c).ltr = s.ltr := rfl
@[simp] theorem setCamera_fmu (s : State) (k : CameraNo) (c : Camera) : (s.setCamera k c).fmu = s.fmu := rfl
@[simp] theorem setCamera_sws (s : State) (k : CameraNo) (c : Camera) : (s.setCamera k c).sws = s.sws := rfl
@[simp] theorem setCamera_acu (s : State) (k : CameraNo) (c : Camera) : (s.setCamera k c).acu = s.acu := rfl
@[simp] theorem setCamera_tmu (s : State) (k : CameraNo) (c : Camera) : (s.setCamera k c).tmu = s.tmu := rfl
@[simp] theorem setCamera_pml (s : State) (k : CameraNo) (c : Camera) : (s.setCamera k c).pml = s.pml := rfl
@[simp] theorem setCamera_sst (s : State) (k : CameraNo) (c : Camera) : (s.setCamera k c).sst = s.sst := rfl
@[simp] theorem setCamera_lnk (s : State) (k : CameraNo) (c : Camera) : (s.setCamera k c).lnk = s.lnk := rfl

/-! ## setPort -/

@[simp] theorem setPort_phase (s : State) (p : PortIx) (x : Port) : (s.setPort p x).phase = s.phase := rfl
@[simp] theorem setPort_pending (s : State) (p : PortIx) (x : Port) : (s.setPort p x).pending = s.pending := rfl
@[simp] theorem setPort_reports (s : State) (p : PortIx) (x : Port) : (s.setPort p x).reports = s.reports := rfl
@[simp] theorem setPort_inputs (s : State) (p : PortIx) (x : Port) : (s.setPort p x).inputs = s.inputs := rfl
@[simp] theorem setPort_feed (s : State) (p : PortIx) (x : Port) : (s.setPort p x).feed = s.feed := rfl
@[simp] theorem setPort_draws (s : State) (p : PortIx) (x : Port) : (s.setPort p x).draws = s.draws := rfl
@[simp] theorem setPort_cfg (s : State) (p : PortIx) (x : Port) : (s.setPort p x).cfg = s.cfg := rfl
@[simp] theorem setPort_ltr (s : State) (p : PortIx) (x : Port) : (s.setPort p x).ltr = s.ltr := rfl
@[simp] theorem setPort_fmu (s : State) (p : PortIx) (x : Port) : (s.setPort p x).fmu = s.fmu := rfl
@[simp] theorem setPort_ctu (s : State) (p : PortIx) (x : Port) : (s.setPort p x).ctu = s.ctu := rfl
@[simp] theorem setPort_acu (s : State) (p : PortIx) (x : Port) : (s.setPort p x).acu = s.acu := rfl
@[simp] theorem setPort_tmu (s : State) (p : PortIx) (x : Port) : (s.setPort p x).tmu = s.tmu := rfl
@[simp] theorem setPort_pml (s : State) (p : PortIx) (x : Port) : (s.setPort p x).pml = s.pml := rfl
@[simp] theorem setPort_sst (s : State) (p : PortIx) (x : Port) : (s.setPort p x).sst = s.sst := rfl
@[simp] theorem setPort_lnk (s : State) (p : PortIx) (x : Port) : (s.setPort p x).lnk = s.lnk := rfl

/-! ## setStationSet -/

@[simp] theorem setStationSet_phase (s : State) (n : Fin 16) (x : StationSet) : (s.setStationSet n x).phase = s.phase := rfl
@[simp] theorem setStationSet_pending (s : State) (n : Fin 16) (x : StationSet) : (s.setStationSet n x).pending = s.pending := rfl
@[simp] theorem setStationSet_reports (s : State) (n : Fin 16) (x : StationSet) : (s.setStationSet n x).reports = s.reports := rfl
@[simp] theorem setStationSet_inputs (s : State) (n : Fin 16) (x : StationSet) : (s.setStationSet n x).inputs = s.inputs := rfl
@[simp] theorem setStationSet_feed (s : State) (n : Fin 16) (x : StationSet) : (s.setStationSet n x).feed = s.feed := rfl
@[simp] theorem setStationSet_draws (s : State) (n : Fin 16) (x : StationSet) : (s.setStationSet n x).draws = s.draws := rfl
@[simp] theorem setStationSet_cfg (s : State) (n : Fin 16) (x : StationSet) : (s.setStationSet n x).cfg = s.cfg := rfl
@[simp] theorem setStationSet_ltr (s : State) (n : Fin 16) (x : StationSet) : (s.setStationSet n x).ltr = s.ltr := rfl
@[simp] theorem setStationSet_fmu (s : State) (n : Fin 16) (x : StationSet) : (s.setStationSet n x).fmu = s.fmu := rfl
@[simp] theorem setStationSet_ctu (s : State) (n : Fin 16) (x : StationSet) : (s.setStationSet n x).ctu = s.ctu := rfl
@[simp] theorem setStationSet_acu (s : State) (n : Fin 16) (x : StationSet) : (s.setStationSet n x).acu = s.acu := rfl
@[simp] theorem setStationSet_tmu (s : State) (n : Fin 16) (x : StationSet) : (s.setStationSet n x).tmu = s.tmu := rfl
@[simp] theorem setStationSet_pml (s : State) (n : Fin 16) (x : StationSet) : (s.setStationSet n x).pml = s.pml := rfl
@[simp] theorem setStationSet_sst (s : State) (n : Fin 16) (x : StationSet) : (s.setStationSet n x).sst = s.sst := rfl
@[simp] theorem setStationSet_lnk (s : State) (n : Fin 16) (x : StationSet) : (s.setStationSet n x).lnk = s.lnk := rfl

/-! ## setGrant -/

@[simp] theorem setGrant_phase (s : State) (i : Fin 4) (g : Option Grant) : (s.setGrant i g).phase = s.phase := rfl
@[simp] theorem setGrant_pending (s : State) (i : Fin 4) (g : Option Grant) : (s.setGrant i g).pending = s.pending := rfl
@[simp] theorem setGrant_reports (s : State) (i : Fin 4) (g : Option Grant) : (s.setGrant i g).reports = s.reports := rfl
@[simp] theorem setGrant_inputs (s : State) (i : Fin 4) (g : Option Grant) : (s.setGrant i g).inputs = s.inputs := rfl
@[simp] theorem setGrant_feed (s : State) (i : Fin 4) (g : Option Grant) : (s.setGrant i g).feed = s.feed := rfl
@[simp] theorem setGrant_draws (s : State) (i : Fin 4) (g : Option Grant) : (s.setGrant i g).draws = s.draws := rfl
@[simp] theorem setGrant_cfg (s : State) (i : Fin 4) (g : Option Grant) : (s.setGrant i g).cfg = s.cfg := rfl
@[simp] theorem setGrant_ltr (s : State) (i : Fin 4) (g : Option Grant) : (s.setGrant i g).ltr = s.ltr := rfl
@[simp] theorem setGrant_fmu (s : State) (i : Fin 4) (g : Option Grant) : (s.setGrant i g).fmu = s.fmu := rfl
@[simp] theorem setGrant_ctu (s : State) (i : Fin 4) (g : Option Grant) : (s.setGrant i g).ctu = s.ctu := rfl
@[simp] theorem setGrant_sws (s : State) (i : Fin 4) (g : Option Grant) : (s.setGrant i g).sws = s.sws := rfl
@[simp] theorem setGrant_tmu (s : State) (i : Fin 4) (g : Option Grant) : (s.setGrant i g).tmu = s.tmu := rfl
@[simp] theorem setGrant_pml (s : State) (i : Fin 4) (g : Option Grant) : (s.setGrant i g).pml = s.pml := rfl
@[simp] theorem setGrant_sst (s : State) (i : Fin 4) (g : Option Grant) : (s.setGrant i g).sst = s.sst := rfl
@[simp] theorem setGrant_lnk (s : State) (i : Fin 4) (g : Option Grant) : (s.setGrant i g).lnk = s.lnk := rfl

/-! ## setWatch -/

@[simp] theorem setWatch_phase (s : State) (w : WatchNo) (x : Option Watch) : (s.setWatch w x).phase = s.phase := rfl
@[simp] theorem setWatch_pending (s : State) (w : WatchNo) (x : Option Watch) : (s.setWatch w x).pending = s.pending := rfl
@[simp] theorem setWatch_reports (s : State) (w : WatchNo) (x : Option Watch) : (s.setWatch w x).reports = s.reports := rfl
@[simp] theorem setWatch_inputs (s : State) (w : WatchNo) (x : Option Watch) : (s.setWatch w x).inputs = s.inputs := rfl
@[simp] theorem setWatch_feed (s : State) (w : WatchNo) (x : Option Watch) : (s.setWatch w x).feed = s.feed := rfl
@[simp] theorem setWatch_draws (s : State) (w : WatchNo) (x : Option Watch) : (s.setWatch w x).draws = s.draws := rfl
@[simp] theorem setWatch_cfg (s : State) (w : WatchNo) (x : Option Watch) : (s.setWatch w x).cfg = s.cfg := rfl
@[simp] theorem setWatch_ltr (s : State) (w : WatchNo) (x : Option Watch) : (s.setWatch w x).ltr = s.ltr := rfl
@[simp] theorem setWatch_fmu (s : State) (w : WatchNo) (x : Option Watch) : (s.setWatch w x).fmu = s.fmu := rfl
@[simp] theorem setWatch_ctu (s : State) (w : WatchNo) (x : Option Watch) : (s.setWatch w x).ctu = s.ctu := rfl
@[simp] theorem setWatch_sws (s : State) (w : WatchNo) (x : Option Watch) : (s.setWatch w x).sws = s.sws := rfl
@[simp] theorem setWatch_tmu (s : State) (w : WatchNo) (x : Option Watch) : (s.setWatch w x).tmu = s.tmu := rfl
@[simp] theorem setWatch_pml (s : State) (w : WatchNo) (x : Option Watch) : (s.setWatch w x).pml = s.pml := rfl
@[simp] theorem setWatch_sst (s : State) (w : WatchNo) (x : Option Watch) : (s.setWatch w x).sst = s.sst := rfl
@[simp] theorem setWatch_lnk (s : State) (w : WatchNo) (x : Option Watch) : (s.setWatch w x).lnk = s.lnk := rfl

/-! ## setHolder -/

@[simp] theorem setHolder_phase (s : State) (k : AxisNo) (w : Option WatchNo) : (s.setHolder k w).phase = s.phase := rfl
@[simp] theorem setHolder_pending (s : State) (k : AxisNo) (w : Option WatchNo) : (s.setHolder k w).pending = s.pending := rfl
@[simp] theorem setHolder_reports (s : State) (k : AxisNo) (w : Option WatchNo) : (s.setHolder k w).reports = s.reports := rfl
@[simp] theorem setHolder_inputs (s : State) (k : AxisNo) (w : Option WatchNo) : (s.setHolder k w).inputs = s.inputs := rfl
@[simp] theorem setHolder_feed (s : State) (k : AxisNo) (w : Option WatchNo) : (s.setHolder k w).feed = s.feed := rfl
@[simp] theorem setHolder_draws (s : State) (k : AxisNo) (w : Option WatchNo) : (s.setHolder k w).draws = s.draws := rfl
@[simp] theorem setHolder_cfg (s : State) (k : AxisNo) (w : Option WatchNo) : (s.setHolder k w).cfg = s.cfg := rfl
@[simp] theorem setHolder_ltr (s : State) (k : AxisNo) (w : Option WatchNo) : (s.setHolder k w).ltr = s.ltr := rfl
@[simp] theorem setHolder_fmu (s : State) (k : AxisNo) (w : Option WatchNo) : (s.setHolder k w).fmu = s.fmu := rfl
@[simp] theorem setHolder_ctu (s : State) (k : AxisNo) (w : Option WatchNo) : (s.setHolder k w).ctu = s.ctu := rfl
@[simp] theorem setHolder_sws (s : State) (k : AxisNo) (w : Option WatchNo) : (s.setHolder k w).sws = s.sws := rfl
@[simp] theorem setHolder_tmu (s : State) (k : AxisNo) (w : Option WatchNo) : (s.setHolder k w).tmu = s.tmu := rfl
@[simp] theorem setHolder_pml (s : State) (k : AxisNo) (w : Option WatchNo) : (s.setHolder k w).pml = s.pml := rfl
@[simp] theorem setHolder_sst (s : State) (k : AxisNo) (w : Option WatchNo) : (s.setHolder k w).sst = s.sst := rfl
@[simp] theorem setHolder_lnk (s : State) (k : AxisNo) (w : Option WatchNo) : (s.setHolder k w).lnk = s.lnk := rfl

/-! ## reportSource -/

@[simp] theorem reportSource_phase (s : State) (src : FaultSource) (a b : Bool) : (s.reportSource src a b).phase = s.phase := by
  simp only [State.reportSource]; split <;> rfl
@[simp] theorem reportSource_pending (s : State) (src : FaultSource) (a b : Bool) : (s.reportSource src a b).pending = s.pending := by
  simp only [State.reportSource]; split <;> rfl
@[simp] theorem reportSource_inputs (s : State) (src : FaultSource) (a b : Bool) : (s.reportSource src a b).inputs = s.inputs := by
  simp only [State.reportSource]; split <;> rfl
@[simp] theorem reportSource_feed (s : State) (src : FaultSource) (a b : Bool) : (s.reportSource src a b).feed = s.feed := by
  simp only [State.reportSource]; split <;> rfl
@[simp] theorem reportSource_draws (s : State) (src : FaultSource) (a b : Bool) : (s.reportSource src a b).draws = s.draws := by
  simp only [State.reportSource]; split <;> rfl
@[simp] theorem reportSource_cfg (s : State) (src : FaultSource) (a b : Bool) : (s.reportSource src a b).cfg = s.cfg := by
  simp only [State.reportSource]; split <;> rfl
@[simp] theorem reportSource_ltr (s : State) (src : FaultSource) (a b : Bool) : (s.reportSource src a b).ltr = s.ltr := by
  simp only [State.reportSource]; split <;> rfl
@[simp] theorem reportSource_fmu (s : State) (src : FaultSource) (a b : Bool) : (s.reportSource src a b).fmu = s.fmu := by
  simp only [State.reportSource]; split <;> rfl
@[simp] theorem reportSource_ctu (s : State) (src : FaultSource) (a b : Bool) : (s.reportSource src a b).ctu = s.ctu := by
  simp only [State.reportSource]; split <;> rfl
@[simp] theorem reportSource_sws (s : State) (src : FaultSource) (a b : Bool) : (s.reportSource src a b).sws = s.sws := by
  simp only [State.reportSource]; split <;> rfl
@[simp] theorem reportSource_acu (s : State) (src : FaultSource) (a b : Bool) : (s.reportSource src a b).acu = s.acu := by
  simp only [State.reportSource]; split <;> rfl
@[simp] theorem reportSource_tmu (s : State) (src : FaultSource) (a b : Bool) : (s.reportSource src a b).tmu = s.tmu := by
  simp only [State.reportSource]; split <;> rfl
@[simp] theorem reportSource_pml (s : State) (src : FaultSource) (a b : Bool) : (s.reportSource src a b).pml = s.pml := by
  simp only [State.reportSource]; split <;> rfl
@[simp] theorem reportSource_sst (s : State) (src : FaultSource) (a b : Bool) : (s.reportSource src a b).sst = s.sst := by
  simp only [State.reportSource]; split <;> rfl
@[simp] theorem reportSource_lnk (s : State) (src : FaultSource) (a b : Bool) : (s.reportSource src a b).lnk = s.lnk := by
  simp only [State.reportSource]; split <;> rfl

/-! ## setSource -/

@[simp] theorem setSource_phase (s : State) (n : Fin 16) (x : Source) : (s.setSource n x).phase = s.phase := rfl
@[simp] theorem setSource_pending (s : State) (n : Fin 16) (x : Source) : (s.setSource n x).pending = s.pending := rfl
@[simp] theorem setSource_reports (s : State) (n : Fin 16) (x : Source) : (s.setSource n x).reports = s.reports := rfl
@[simp] theorem setSource_inputs (s : State) (n : Fin 16) (x : Source) : (s.setSource n x).inputs = s.inputs := rfl
@[simp] theorem setSource_feed (s : State) (n : Fin 16) (x : Source) : (s.setSource n x).feed = s.feed := rfl
@[simp] theorem setSource_draws (s : State) (n : Fin 16) (x : Source) : (s.setSource n x).draws = s.draws := rfl
@[simp] theorem setSource_cfg (s : State) (n : Fin 16) (x : Source) : (s.setSource n x).cfg = s.cfg := rfl
@[simp] theorem setSource_ltr (s : State) (n : Fin 16) (x : Source) : (s.setSource n x).ltr = s.ltr := rfl
@[simp] theorem setSource_fmu (s : State) (n : Fin 16) (x : Source) : (s.setSource n x).fmu = s.fmu := rfl
@[simp] theorem setSource_ctu (s : State) (n : Fin 16) (x : Source) : (s.setSource n x).ctu = s.ctu := rfl
@[simp] theorem setSource_sws (s : State) (n : Fin 16) (x : Source) : (s.setSource n x).sws = s.sws := rfl
@[simp] theorem setSource_acu (s : State) (n : Fin 16) (x : Source) : (s.setSource n x).acu = s.acu := rfl
@[simp] theorem setSource_tmu (s : State) (n : Fin 16) (x : Source) : (s.setSource n x).tmu = s.tmu := rfl
@[simp] theorem setSource_sst (s : State) (n : Fin 16) (x : Source) : (s.setSource n x).sst = s.sst := rfl
@[simp] theorem setSource_lnk (s : State) (n : Fin 16) (x : Source) : (s.setSource n x).lnk = s.lnk := rfl

/-! ## weigh -/

@[simp] theorem weigh_phase (s : State) (n : Fin 16) : (s.weigh n).phase = s.phase := rfl
@[simp] theorem weigh_pending (s : State) (n : Fin 16) : (s.weigh n).pending = s.pending := rfl
@[simp] theorem weigh_reports (s : State) (n : Fin 16) : (s.weigh n).reports = s.reports := rfl
@[simp] theorem weigh_inputs (s : State) (n : Fin 16) : (s.weigh n).inputs = s.inputs := rfl
@[simp] theorem weigh_feed (s : State) (n : Fin 16) : (s.weigh n).feed = s.feed := rfl
@[simp] theorem weigh_draws (s : State) (n : Fin 16) : (s.weigh n).draws = s.draws := rfl
@[simp] theorem weigh_cfg (s : State) (n : Fin 16) : (s.weigh n).cfg = s.cfg := rfl
@[simp] theorem weigh_ltr (s : State) (n : Fin 16) : (s.weigh n).ltr = s.ltr := rfl
@[simp] theorem weigh_fmu (s : State) (n : Fin 16) : (s.weigh n).fmu = s.fmu := rfl
@[simp] theorem weigh_ctu (s : State) (n : Fin 16) : (s.weigh n).ctu = s.ctu := rfl
@[simp] theorem weigh_sws (s : State) (n : Fin 16) : (s.weigh n).sws = s.sws := rfl
@[simp] theorem weigh_acu (s : State) (n : Fin 16) : (s.weigh n).acu = s.acu := rfl
@[simp] theorem weigh_tmu (s : State) (n : Fin 16) : (s.weigh n).tmu = s.tmu := rfl
@[simp] theorem weigh_sst (s : State) (n : Fin 16) : (s.weigh n).sst = s.sst := rfl
@[simp] theorem weigh_lnk (s : State) (n : Fin 16) : (s.weigh n).lnk = s.lnk := rfl

/-! ## settlePermit -/

@[simp] theorem settlePermit_phase (s : State) (src : FaultSource) (c : PermitCause) : (s.settlePermit src c).phase = s.phase := by
  simp only [State.settlePermit]; split <;> rfl
@[simp] theorem settlePermit_pending (s : State) (src : FaultSource) (c : PermitCause) : (s.settlePermit src c).pending = s.pending := by
  simp only [State.settlePermit]; split <;> rfl
@[simp] theorem settlePermit_reports (s : State) (src : FaultSource) (c : PermitCause) : (s.settlePermit src c).reports = s.reports := by
  simp only [State.settlePermit]; split <;> rfl
@[simp] theorem settlePermit_inputs (s : State) (src : FaultSource) (c : PermitCause) : (s.settlePermit src c).inputs = s.inputs := by
  simp only [State.settlePermit]; split <;> rfl
@[simp] theorem settlePermit_feed (s : State) (src : FaultSource) (c : PermitCause) : (s.settlePermit src c).feed = s.feed := by
  simp only [State.settlePermit]; split <;> rfl
@[simp] theorem settlePermit_draws (s : State) (src : FaultSource) (c : PermitCause) : (s.settlePermit src c).draws = s.draws := by
  simp only [State.settlePermit]; split <;> rfl
@[simp] theorem settlePermit_cfg (s : State) (src : FaultSource) (c : PermitCause) : (s.settlePermit src c).cfg = s.cfg := by
  simp only [State.settlePermit]; split <;> rfl
@[simp] theorem settlePermit_ltr (s : State) (src : FaultSource) (c : PermitCause) : (s.settlePermit src c).ltr = s.ltr := by
  simp only [State.settlePermit]; split <;> rfl
@[simp] theorem settlePermit_fmu (s : State) (src : FaultSource) (c : PermitCause) : (s.settlePermit src c).fmu = s.fmu := by
  simp only [State.settlePermit]; split <;> rfl
@[simp] theorem settlePermit_ctu (s : State) (src : FaultSource) (c : PermitCause) : (s.settlePermit src c).ctu = s.ctu := by
  simp only [State.settlePermit]; split <;> rfl
@[simp] theorem settlePermit_sws (s : State) (src : FaultSource) (c : PermitCause) : (s.settlePermit src c).sws = s.sws := by
  simp only [State.settlePermit]; split <;> rfl
@[simp] theorem settlePermit_acu (s : State) (src : FaultSource) (c : PermitCause) : (s.settlePermit src c).acu = s.acu := by
  simp only [State.settlePermit]; split <;> rfl
@[simp] theorem settlePermit_tmu (s : State) (src : FaultSource) (c : PermitCause) : (s.settlePermit src c).tmu = s.tmu := by
  simp only [State.settlePermit]; split <;> rfl
@[simp] theorem settlePermit_sst (s : State) (src : FaultSource) (c : PermitCause) : (s.settlePermit src c).sst = s.sst := by
  simp only [State.settlePermit]; split <;> rfl

/-! ## postFault -/

@[simp] theorem postFault_phase (s : State) (src : FaultSource) (r : Raise) : (s.postFault src r).phase = s.phase := rfl
@[simp] theorem postFault_pending (s : State) (src : FaultSource) (r : Raise) : (s.postFault src r).pending = s.pending := rfl
@[simp] theorem postFault_reports (s : State) (src : FaultSource) (r : Raise) : (s.postFault src r).reports = s.reports := rfl
@[simp] theorem postFault_inputs (s : State) (src : FaultSource) (r : Raise) : (s.postFault src r).inputs = s.inputs := rfl
@[simp] theorem postFault_feed (s : State) (src : FaultSource) (r : Raise) : (s.postFault src r).feed = s.feed := rfl
@[simp] theorem postFault_draws (s : State) (src : FaultSource) (r : Raise) : (s.postFault src r).draws = s.draws := rfl
@[simp] theorem postFault_cfg (s : State) (src : FaultSource) (r : Raise) : (s.postFault src r).cfg = s.cfg := rfl
@[simp] theorem postFault_ltr (s : State) (src : FaultSource) (r : Raise) : (s.postFault src r).ltr = s.ltr := rfl
@[simp] theorem postFault_fmu (s : State) (src : FaultSource) (r : Raise) : (s.postFault src r).fmu = s.fmu := rfl
@[simp] theorem postFault_ctu (s : State) (src : FaultSource) (r : Raise) : (s.postFault src r).ctu = s.ctu := rfl
@[simp] theorem postFault_sws (s : State) (src : FaultSource) (r : Raise) : (s.postFault src r).sws = s.sws := rfl
@[simp] theorem postFault_acu (s : State) (src : FaultSource) (r : Raise) : (s.postFault src r).acu = s.acu := rfl
@[simp] theorem postFault_tmu (s : State) (src : FaultSource) (r : Raise) : (s.postFault src r).tmu = s.tmu := rfl
@[simp] theorem postFault_pml (s : State) (src : FaultSource) (r : Raise) : (s.postFault src r).pml = s.pml := rfl
@[simp] theorem postFault_sst (s : State) (src : FaultSource) (r : Raise) : (s.postFault src r).sst = s.sst := rfl

/-! ## activateSource -/

@[simp] theorem activateSource_phase (s : State) (src : FaultSource) : (s.activateSource src).phase = s.phase := by
  simp only [State.activateSource]; split <;> simp
@[simp] theorem activateSource_pending (s : State) (src : FaultSource) : (s.activateSource src).pending = s.pending := by
  simp only [State.activateSource]; split <;> simp
@[simp] theorem activateSource_reports (s : State) (src : FaultSource) : (s.activateSource src).reports = s.reports := by
  simp only [State.activateSource]; split <;> simp
@[simp] theorem activateSource_inputs (s : State) (src : FaultSource) : (s.activateSource src).inputs = s.inputs := by
  simp only [State.activateSource]; split <;> simp
@[simp] theorem activateSource_feed (s : State) (src : FaultSource) : (s.activateSource src).feed = s.feed := by
  simp only [State.activateSource]; split <;> simp
@[simp] theorem activateSource_draws (s : State) (src : FaultSource) : (s.activateSource src).draws = s.draws := by
  simp only [State.activateSource]; split <;> simp
@[simp] theorem activateSource_cfg (s : State) (src : FaultSource) : (s.activateSource src).cfg = s.cfg := by
  simp only [State.activateSource]; split <;> simp
@[simp] theorem activateSource_ltr (s : State) (src : FaultSource) : (s.activateSource src).ltr = s.ltr := by
  simp only [State.activateSource]; split <;> simp
@[simp] theorem activateSource_fmu (s : State) (src : FaultSource) : (s.activateSource src).fmu = s.fmu := by
  simp only [State.activateSource]; split <;> simp
@[simp] theorem activateSource_ctu (s : State) (src : FaultSource) : (s.activateSource src).ctu = s.ctu := by
  simp only [State.activateSource]; split <;> simp
@[simp] theorem activateSource_sws (s : State) (src : FaultSource) : (s.activateSource src).sws = s.sws := by
  simp only [State.activateSource]; split <;> simp
@[simp] theorem activateSource_acu (s : State) (src : FaultSource) : (s.activateSource src).acu = s.acu := by
  simp only [State.activateSource]; split <;> simp
@[simp] theorem activateSource_tmu (s : State) (src : FaultSource) : (s.activateSource src).tmu = s.tmu := by
  simp only [State.activateSource]; split <;> simp
@[simp] theorem activateSource_sst (s : State) (src : FaultSource) : (s.activateSource src).sst = s.sst := by
  simp only [State.activateSource]; split <;> simp

/-! ## deactivateSource -/

@[simp] theorem deactivateSource_phase (s : State) (src : FaultSource) : (s.deactivateSource src).phase = s.phase := by
  simp only [State.deactivateSource]; split <;> simp
@[simp] theorem deactivateSource_pending (s : State) (src : FaultSource) : (s.deactivateSource src).pending = s.pending := by
  simp only [State.deactivateSource]; split <;> simp
@[simp] theorem deactivateSource_reports (s : State) (src : FaultSource) : (s.deactivateSource src).reports = s.reports := by
  simp only [State.deactivateSource]; split <;> simp
@[simp] theorem deactivateSource_inputs (s : State) (src : FaultSource) : (s.deactivateSource src).inputs = s.inputs := by
  simp only [State.deactivateSource]; split <;> simp
@[simp] theorem deactivateSource_feed (s : State) (src : FaultSource) : (s.deactivateSource src).feed = s.feed := by
  simp only [State.deactivateSource]; split <;> simp
@[simp] theorem deactivateSource_draws (s : State) (src : FaultSource) : (s.deactivateSource src).draws = s.draws := by
  simp only [State.deactivateSource]; split <;> simp
@[simp] theorem deactivateSource_cfg (s : State) (src : FaultSource) : (s.deactivateSource src).cfg = s.cfg := by
  simp only [State.deactivateSource]; split <;> simp
@[simp] theorem deactivateSource_ltr (s : State) (src : FaultSource) : (s.deactivateSource src).ltr = s.ltr := by
  simp only [State.deactivateSource]; split <;> simp
@[simp] theorem deactivateSource_fmu (s : State) (src : FaultSource) : (s.deactivateSource src).fmu = s.fmu := by
  simp only [State.deactivateSource]; split <;> simp
@[simp] theorem deactivateSource_ctu (s : State) (src : FaultSource) : (s.deactivateSource src).ctu = s.ctu := by
  simp only [State.deactivateSource]; split <;> simp
@[simp] theorem deactivateSource_sws (s : State) (src : FaultSource) : (s.deactivateSource src).sws = s.sws := by
  simp only [State.deactivateSource]; split <;> simp
@[simp] theorem deactivateSource_acu (s : State) (src : FaultSource) : (s.deactivateSource src).acu = s.acu := by
  simp only [State.deactivateSource]; split <;> simp
@[simp] theorem deactivateSource_tmu (s : State) (src : FaultSource) : (s.deactivateSource src).tmu = s.tmu := by
  simp only [State.deactivateSource]; split <;> simp
@[simp] theorem deactivateSource_sst (s : State) (src : FaultSource) : (s.deactivateSource src).sst = s.sst := by
  simp only [State.deactivateSource]; split <;> simp

/-! ## latchSource -/

@[simp] theorem latchSource_phase (s : State) (src : FaultSource) : (s.latchSource src).phase = s.phase := by
  simp only [State.latchSource]; split <;> simp
@[simp] theorem latchSource_pending (s : State) (src : FaultSource) : (s.latchSource src).pending = s.pending := by
  simp only [State.latchSource]; split <;> simp
@[simp] theorem latchSource_reports (s : State) (src : FaultSource) : (s.latchSource src).reports = s.reports := by
  simp only [State.latchSource]; split <;> simp
@[simp] theorem latchSource_inputs (s : State) (src : FaultSource) : (s.latchSource src).inputs = s.inputs := by
  simp only [State.latchSource]; split <;> simp
@[simp] theorem latchSource_feed (s : State) (src : FaultSource) : (s.latchSource src).feed = s.feed := by
  simp only [State.latchSource]; split <;> simp
@[simp] theorem latchSource_draws (s : State) (src : FaultSource) : (s.latchSource src).draws = s.draws := by
  simp only [State.latchSource]; split <;> simp
@[simp] theorem latchSource_cfg (s : State) (src : FaultSource) : (s.latchSource src).cfg = s.cfg := by
  simp only [State.latchSource]; split <;> simp
@[simp] theorem latchSource_ltr (s : State) (src : FaultSource) : (s.latchSource src).ltr = s.ltr := by
  simp only [State.latchSource]; split <;> simp
@[simp] theorem latchSource_fmu (s : State) (src : FaultSource) : (s.latchSource src).fmu = s.fmu := by
  simp only [State.latchSource]; split <;> simp
@[simp] theorem latchSource_ctu (s : State) (src : FaultSource) : (s.latchSource src).ctu = s.ctu := by
  simp only [State.latchSource]; split <;> simp
@[simp] theorem latchSource_sws (s : State) (src : FaultSource) : (s.latchSource src).sws = s.sws := by
  simp only [State.latchSource]; split <;> simp
@[simp] theorem latchSource_acu (s : State) (src : FaultSource) : (s.latchSource src).acu = s.acu := by
  simp only [State.latchSource]; split <;> simp
@[simp] theorem latchSource_tmu (s : State) (src : FaultSource) : (s.latchSource src).tmu = s.tmu := by
  simp only [State.latchSource]; split <;> simp
@[simp] theorem latchSource_sst (s : State) (src : FaultSource) : (s.latchSource src).sst = s.sst := by
  simp only [State.latchSource]; split <;> simp

/-! ## countLine -/

@[simp] theorem countLine_phase (s : State) (c : LineCounter) (n : Nat) : (s.countLine c n).phase = s.phase := by
  simp only [State.countLine]; split <;> rfl
@[simp] theorem countLine_pending (s : State) (c : LineCounter) (n : Nat) : (s.countLine c n).pending = s.pending := by
  simp only [State.countLine]; split <;> rfl
@[simp] theorem countLine_reports (s : State) (c : LineCounter) (n : Nat) : (s.countLine c n).reports = s.reports := by
  simp only [State.countLine]; split <;> rfl
@[simp] theorem countLine_inputs (s : State) (c : LineCounter) (n : Nat) : (s.countLine c n).inputs = s.inputs := by
  simp only [State.countLine]; split <;> rfl
@[simp] theorem countLine_feed (s : State) (c : LineCounter) (n : Nat) : (s.countLine c n).feed = s.feed := by
  simp only [State.countLine]; split <;> rfl
@[simp] theorem countLine_cfg (s : State) (c : LineCounter) (n : Nat) : (s.countLine c n).cfg = s.cfg := by
  simp only [State.countLine]; split <;> rfl
@[simp] theorem countLine_fmu (s : State) (c : LineCounter) (n : Nat) : (s.countLine c n).fmu = s.fmu := by
  simp only [State.countLine]; split <;> rfl
@[simp] theorem countLine_ctu (s : State) (c : LineCounter) (n : Nat) : (s.countLine c n).ctu = s.ctu := by
  simp only [State.countLine]; split <;> rfl
@[simp] theorem countLine_sws (s : State) (c : LineCounter) (n : Nat) : (s.countLine c n).sws = s.sws := by
  simp only [State.countLine]; split <;> rfl
@[simp] theorem countLine_acu (s : State) (c : LineCounter) (n : Nat) : (s.countLine c n).acu = s.acu := by
  simp only [State.countLine]; split <;> rfl
@[simp] theorem countLine_tmu (s : State) (c : LineCounter) (n : Nat) : (s.countLine c n).tmu = s.tmu := by
  simp only [State.countLine]; split <;> rfl
@[simp] theorem countLine_pml (s : State) (c : LineCounter) (n : Nat) : (s.countLine c n).pml = s.pml := by
  simp only [State.countLine]; split <;> rfl
@[simp] theorem countLine_sst (s : State) (c : LineCounter) (n : Nat) : (s.countLine c n).sst = s.sst := by
  simp only [State.countLine]; split <;> rfl
@[simp] theorem countLine_lnk (s : State) (c : LineCounter) (n : Nat) : (s.countLine c n).lnk = s.lnk := by
  simp only [State.countLine]; split <;> rfl

/-! ## countSwitch -/

@[simp] theorem countSwitch_phase (s : State) (c : SwitchCounter) : (s.countSwitch c).phase = s.phase := rfl
@[simp] theorem countSwitch_pending (s : State) (c : SwitchCounter) : (s.countSwitch c).pending = s.pending := rfl
@[simp] theorem countSwitch_reports (s : State) (c : SwitchCounter) : (s.countSwitch c).reports = s.reports := rfl
@[simp] theorem countSwitch_inputs (s : State) (c : SwitchCounter) : (s.countSwitch c).inputs = s.inputs := rfl
@[simp] theorem countSwitch_feed (s : State) (c : SwitchCounter) : (s.countSwitch c).feed = s.feed := rfl
@[simp] theorem countSwitch_draws (s : State) (c : SwitchCounter) : (s.countSwitch c).draws = s.draws := rfl
@[simp] theorem countSwitch_cfg (s : State) (c : SwitchCounter) : (s.countSwitch c).cfg = s.cfg := rfl
@[simp] theorem countSwitch_ltr (s : State) (c : SwitchCounter) : (s.countSwitch c).ltr = s.ltr := rfl
@[simp] theorem countSwitch_fmu (s : State) (c : SwitchCounter) : (s.countSwitch c).fmu = s.fmu := rfl
@[simp] theorem countSwitch_ctu (s : State) (c : SwitchCounter) : (s.countSwitch c).ctu = s.ctu := rfl
@[simp] theorem countSwitch_acu (s : State) (c : SwitchCounter) : (s.countSwitch c).acu = s.acu := rfl
@[simp] theorem countSwitch_tmu (s : State) (c : SwitchCounter) : (s.countSwitch c).tmu = s.tmu := rfl
@[simp] theorem countSwitch_pml (s : State) (c : SwitchCounter) : (s.countSwitch c).pml = s.pml := rfl
@[simp] theorem countSwitch_sst (s : State) (c : SwitchCounter) : (s.countSwitch c).sst = s.sst := rfl
@[simp] theorem countSwitch_lnk (s : State) (c : SwitchCounter) : (s.countSwitch c).lnk = s.lnk := rfl

/-! ## countLink -/

@[simp] theorem countLink_phase (s : State) (c : LinkCounter) : (s.countLink c).phase = s.phase := rfl
@[simp] theorem countLink_pending (s : State) (c : LinkCounter) : (s.countLink c).pending = s.pending := rfl
@[simp] theorem countLink_reports (s : State) (c : LinkCounter) : (s.countLink c).reports = s.reports := rfl
@[simp] theorem countLink_inputs (s : State) (c : LinkCounter) : (s.countLink c).inputs = s.inputs := rfl
@[simp] theorem countLink_feed (s : State) (c : LinkCounter) : (s.countLink c).feed = s.feed := rfl
@[simp] theorem countLink_draws (s : State) (c : LinkCounter) : (s.countLink c).draws = s.draws := rfl
@[simp] theorem countLink_cfg (s : State) (c : LinkCounter) : (s.countLink c).cfg = s.cfg := rfl
@[simp] theorem countLink_ltr (s : State) (c : LinkCounter) : (s.countLink c).ltr = s.ltr := rfl
@[simp] theorem countLink_fmu (s : State) (c : LinkCounter) : (s.countLink c).fmu = s.fmu := rfl
@[simp] theorem countLink_ctu (s : State) (c : LinkCounter) : (s.countLink c).ctu = s.ctu := rfl
@[simp] theorem countLink_sws (s : State) (c : LinkCounter) : (s.countLink c).sws = s.sws := rfl
@[simp] theorem countLink_acu (s : State) (c : LinkCounter) : (s.countLink c).acu = s.acu := rfl
@[simp] theorem countLink_tmu (s : State) (c : LinkCounter) : (s.countLink c).tmu = s.tmu := rfl
@[simp] theorem countLink_pml (s : State) (c : LinkCounter) : (s.countLink c).pml = s.pml := rfl
@[simp] theorem countLink_sst (s : State) (c : LinkCounter) : (s.countLink c).sst = s.sst := rfl

end Sys2Proof.Machine
end

