-- ==== Sys2Proof/Laws/Ops.lean ====
section
/-!
SUPPORT. Laws/Ops.lean: what each shared operation can do, once: the taking of a command, the checks of a request, the outcome of a
request, a posting, a report of a source, a count, and a member read after a member is written.
-/

namespace Sys2Proof.Machine

open Sys2Proof

/-! ## Taking a command -/

theorem taken_running {s : State} (h : s.phase = .running) (c : Instr) (f : State → State) :
    taken c s f = .next (f (s.received c)) := if_pos h

theorem taken_before {s : State} (h : s.phase ≠ .running) (c : Instr) (f : State → State) : taken c s f = .next s :=
  if_neg h

theorem takenOnSwitchLink_awake {s : State} (h : s.phase ≠ .held) (c : Instr) (f : State → State) :
    takenOnSwitchLink c s f = .next (f (s.received c)) := if_neg h

theorem takenOnSwitchLink_held {s : State} (h : s.phase = .held) (c : Instr) (f : State → State) :
    takenOnSwitchLink c s f = .next s := if_pos h

theorem received_eq (s : State) (c : Instr) : s.received c = { s with reports := s.reports.erase c } := rfl

/-- A command that is no report in flight is taken with the reports as they are. -/
theorem received_of_not_mem {s : State} {c : Instr} (h : c ∉ s.reports) : s.received c = s := by
  rw [received_eq, List.erase_of_not_mem h]

/-! ## The checks of a request -/

theorem withLevel_reached {s : State} {need : Nat} (h : need ≤ s.acu.level) (f : State → State) :
    s.withLevel need f = f s := if_neg (by omega)

theorem withLevel_below {s : State} {need : Nat} (h : s.acu.level < need) (f : State → State) :
    s.withLevel need f = s.refuse .level := if_pos h

@[simp] theorem require_true (s : State) (r : Reason) (f : State → State) : s.require true r f = f s := rfl

@[simp] theorem require_false (s : State) (r : Reason) (f : State → State) : s.require false r f = s.refuse r := rfl

@[simp] theorem requireSome_some {α : Type} (s : State) (x : α) (r : Reason) (f : α → State → State) :
    s.requireSome (some x) r f = f x s := rfl

@[simp] theorem requireSome_none {α : Type} (s : State) (r : Reason) (f : α → State → State) :
    s.requireSome none r f = s.refuse r := rfl

theorem finOf_some {n v : Nat} (h : v < n) : finOf n v = some ⟨v, h⟩ := dif_pos h

theorem finOf_none {n v : Nat} (h : n ≤ v) : finOf n v = none := dif_neg (by omega)

theorem portOf_some {p : Nat} (h : 1 ≤ p ∧ p ≤ 8) : portOf p = some ⟨p - 1, by omega⟩ := dif_pos h

theorem portOf_none {p : Nat} (h : ¬ (1 ≤ p ∧ p ≤ 8)) : portOf p = none := dif_neg h

/-! ## The outcome of a request -/

theorem answer_in_hand {s : State} {r : InHand} (h : s.lnk.inHand = some r) (h' : s.lnk.reply = none) (a : Answer) :
    (s.answer a).lnk = { s.lnk with
      outcome := some a, reply := some ⟨r.message == fetchNoticesCode, r.tag, r.message, a, s.lnk.drops⟩, drops := 0 } := by
  simp only [State.answer, h, h', setLnk_lnk]

theorem answer_not_in_hand {s : State} (h : s.lnk.inHand = none ∨ s.lnk.reply ≠ none) (a : Answer) :
    (s.answer a).lnk = { s.lnk with outcome := some a } := by
  simp only [State.answer]
  split
  · simp_all
  · rfl

@[simp] theorem answer_outcome (s : State) (a : Answer) : (s.answer a).lnk.outcome = some a := by
  simp only [State.answer]; split <;> rfl

@[simp] theorem answer_notices (s : State) (a : Answer) : (s.answer a).lnk.notices = s.lnk.notices := by
  simp only [State.answer]; split <;> rfl

@[simp] theorem answer_attn (s : State) (a : Answer) : (s.answer a).lnk.attn = s.lnk.attn := by
  simp only [State.answer]; split <;> rfl

@[simp] theorem answer_queue (s : State) (a : Answer) : (s.answer a).lnk.queue = s.lnk.queue := by
  simp only [State.answer]; split <;> rfl

@[simp] theorem answer_counters (s : State) (a : Answer) : (s.answer a).lnk.counters = s.lnk.counters := by
  simp only [State.answer]; split <;> rfl

theorem replyOk_eq (s : State) (b : List Byte) : s.replyOk b = s.answer ⟨.ok, none, b⟩ := rfl

theorem replyAccepted_eq (s : State) (b : List Byte) : s.replyAccepted b = s.answer ⟨.accepted, none, b⟩ := rfl

theorem refuse_eq (s : State) (r : Reason) : s.refuse r = s.answer ⟨.refused, some r, []⟩ := rfl

/-! ## Postings -/

@[simp] theorem count_notices (l : Lnk) (c : LinkCounter) : (l.count c).notices = l.notices := rfl

@[simp] theorem count_attn (l : Lnk) (c : LinkCounter) : (l.count c).attn = l.attn := rfl

theorem post_lnk (s : State) (n : Notice) :
    (s.post n).lnk = s.lnk.post ⟨n, s.tmu.now, s.stamp⟩ (s.phase == .running) := rfl

theorem post_queue_eq (l : Lnk) (p : PostedNotice) (running : Bool) :
    (l.post p running).notices = (placeNotice l.notices p).1 := by
  simp only [Lnk.post]; split <;> split <;> rfl

theorem post_attn_eq (l : Lnk) (p : PostedNotice) (running : Bool) :
    (l.post p running).attn = (running && !(placeNotice l.notices p).1.isEmpty) := by
  simp only [Lnk.post]; split <;> split <;> rfl

/-- A posting leaves at least one notice in the queue. -/
theorem placeNotice_ne_nil (q : List PostedNotice) (p : PostedNotice) : (placeNotice q p).1 ≠ [] := by
  unfold placeNotice
  split
  · simp
  · rename_i h
    have hq : q ≠ [] := by rintro rfl; simp [Config.noticeRoom] at h
    split
    · simp
    · split
      · simp
      · exact hq

/-- The notice queue never holds more than 32 notices (R189). -/
theorem placeNotice_length {q : List PostedNotice} (h : q.length ≤ 32) (p : PostedNotice) :
    (placeNotice q p).1.length ≤ 32 := by
  unfold placeNotice
  split
  · rename_i h1; simp [Config.noticeRoom] at h1 ⊢; omega
  · rename_i h1
    split
    · simp; omega
    · split
      · rename_i h2; simp [Config.noticeRoom] at h2 ⊢; omega
      · exact h

/-! ## Reports of sources -/

theorem reportSource_same (s : State) (src : FaultSource) (a : Bool) : s.reportSource src a a = s := if_pos rfl

theorem reportSource_raises (s : State) (src : FaultSource) :
    s.reportSource src false true = s.send (.sourceActivation src) := rfl

theorem reportSource_clears (s : State) (src : FaultSource) :
    s.reportSource src true false = s.send (.sourceDeactivation src) := rfl

/-- PERMIT is what the sources give after the PML has settled it (R177). -/
theorem settlePermit_permit (s : State) (src : FaultSource) (c : PermitCause) :
    (s.settlePermit src c).pml.permit = permitOf s.pml := by
  simp only [State.settlePermit]
  split
  · rename_i h; exact h.symm
  · rfl

theorem settlePermit_sources (s : State) (src : FaultSource) (c : PermitCause) :
    (s.settlePermit src c).pml.sources = s.pml.sources := by
  simp only [State.settlePermit]; split <;> rfl

/-- PERMIT as the sources give it, source by source (R177). -/
theorem permitOf_iff (p : Pml) : permitOf p = true ↔ ∀ n : Fin 16, p.sources[n].inEffect = false := by
  simp [permitOf, sixteenNos, Fin.forall_fin_succ]

/-! ## Counts -/

theorem countLine_below {s : State} {c : LineCounter} {n : Nat}
    (h : s.ltr.counters[lineCounterIx c] + n ≤ Config.top64) :
    s.countLine c n = { s with ltr := { s.ltr with
      counters := s.ltr.counters.set (lineCounterIx c) (s.ltr.counters[lineCounterIx c] + n) } } := if_pos h

/-- Beyond 64 bits the count is a free value, and one more is drawn (log 5). -/
theorem countLine_past {s : State} {c : LineCounter} {n : Nat}
    (h : ¬ s.ltr.counters[lineCounterIx c] + n ≤ Config.top64) :
    s.countLine c n = { s with
      ltr := { s.ltr with counters := s.ltr.counters.set (lineCounterIx c) (Config.countPastTop s.draws).toNat }
      draws := s.draws + 1 } := if_neg h

theorem saturate_le (top n : Nat) : saturate top n ≤ top := Nat.min_le_right _ _

/-! ## Members read after a member is written -/

@[simp] theorem setAxis_axis_self (s : State) (k : AxisNo) (a : Axis) : (s.setAxis k a).axis k = a := by
  simp [State.setAxis, State.axis]

theorem setAxis_axis_ne {s : State} {j k : AxisNo} (h : j ≠ k) (a : Axis) : (s.setAxis k a).axis j = s.axis j := by
  simp only [State.setAxis, State.axis, setFmu_fmu, Fin.getElem_fin]
  exact Vector.getElem_set_ne _ _ fun e => h (Fin.ext e.symm)

@[simp] theorem setCamera_camera_self (s : State) (k : CameraNo) (c : Camera) : (s.setCamera k c).camera k = c := by
  simp [State.setCamera, State.camera]

theorem setCamera_camera_ne {s : State} {j k : CameraNo} (h : j ≠ k) (c : Camera) :
    (s.setCamera k c).camera j = s.camera j := by
  simp only [State.setCamera, State.camera, setCtu_ctu, Fin.getElem_fin]
  exact Vector.getElem_set_ne _ _ fun e => h (Fin.ext e.symm)

@[simp] theorem setPort_port_self (s : State) (p : PortIx) (x : Port) : (s.setPort p x).port p = x := by
  simp [State.setPort, State.port]

@[simp] theorem setGrant_grant_self (s : State) (i : Fin 4) (g : Option Grant) : (s.setGrant i g).grant i = g := by
  simp [State.setGrant, State.grant]

@[simp] theorem setWatch_watch_self (s : State) (w : WatchNo) (x : Option Watch) : (s.setWatch w x).watch w = x := by
  simp [State.setWatch, State.watch]

@[simp] theorem setHolder_holder_self (s : State) (k : AxisNo) (w : Option WatchNo) : (s.setHolder k w).holder k = w := by
  simp [State.setHolder, State.holder]

@[simp] theorem setSource_source_self (s : State) (n : Fin 16) (x : Source) : (s.setSource n x).source n = x := by
  simp [State.setSource, State.source]

/-! ## Members of sets -/

theorem mem_axisNos (k : AxisNo) : k ∈ axisNos := by revert k; decide

theorem mem_cameraNos (k : CameraNo) : k ∈ cameraNos := by revert k; decide

theorem mem_axisMembers {set : AxisSet} {k : AxisNo} : k ∈ axisMembers set ↔ set.getLsbD k = true := by
  simp [axisMembers, mem_axisNos]

theorem mem_cameraMembers {set : CameraSet} {k : CameraNo} : k ∈ cameraMembers set ↔ set.getLsbD k = true := by
  simp [cameraMembers, mem_cameraNos]

end Sys2Proof.Machine
end

