-- ==== Sys2Proof/Laws/Frames.lean ====
section
/-!
SUPPORT. Laws/Frames.lean: what the operations on one axis and on one camera leave alone: every part but the owner's block, the
reports and the notices, and every other axis or camera; and the algebra of the writes they are made of.
-/

namespace Sys2Proof.Machine

open Sys2Proof Sys2Proof.Safety

/-! ## The algebra of writes -/

theorem send_eq_sendAll (s : State) (c : Instr) : s.send c = s.sendAll [c] := rfl

@[simp] theorem sendAll_nil (s : State) : s.sendAll [] = s := by simp [State.sendAll, State.setReports]

theorem sendAll_sendAll (s : State) (cs ds : List Instr) : (s.sendAll cs).sendAll ds = s.sendAll (cs ++ ds) := by
  simp [State.sendAll, State.setReports]

@[simp] theorem setAxis_setAxis (s : State) (k : AxisNo) (a b : Axis) : (s.setAxis k a).setAxis k b = s.setAxis k b := by
  simp [State.setAxis, State.setFmu]

@[simp] theorem setAxis_axis (s : State) (k : AxisNo) : s.setAxis k (s.axis k) = s := by
  simp [State.setAxis, State.setFmu, State.axis]

@[simp] theorem setCamera_setCamera (s : State) (k : CameraNo) (a b : Camera) :
    (s.setCamera k a).setCamera k b = s.setCamera k b := by
  simp [State.setCamera, State.setCtu]

@[simp] theorem setCamera_camera (s : State) (k : CameraNo) : s.setCamera k (s.camera k) = s := by
  simp [State.setCamera, State.setCtu, State.camera]

theorem sendAll_setAxis (s : State) (cs : List Instr) (k : AxisNo) (a : Axis) :
    (s.sendAll cs).setAxis k a = (s.setAxis k a).sendAll cs := rfl

theorem post_setAxis (s : State) (n : Notice) (k : AxisNo) (a : Axis) : (s.post n).setAxis k a = (s.setAxis k a).post n := rfl

theorem sendAll_setCamera (s : State) (cs : List Instr) (k : CameraNo) (c : Camera) :
    (s.sendAll cs).setCamera k c = (s.setCamera k c).sendAll cs := rfl

theorem post_setCamera (s : State) (n : Notice) (k : CameraNo) (c : Camera) :
    (s.post n).setCamera k c = (s.setCamera k c).post n := rfl

theorem post_sendAll (s : State) (n : Notice) (cs : List Instr) : (s.post n).sendAll cs = (s.sendAll cs).post n := rfl

@[simp] theorem send_axis (s : State) (c : Instr) (k : AxisNo) : (s.send c).axis k = s.axis k := rfl

@[simp] theorem sendAll_axis (s : State) (cs : List Instr) (k : AxisNo) : (s.sendAll cs).axis k = s.axis k := rfl

@[simp] theorem post_axis (s : State) (n : Notice) (k : AxisNo) : (s.post n).axis k = s.axis k := rfl

@[simp] theorem reportSource_axis (s : State) (src : FaultSource) (a b : Bool) (k : AxisNo) :
    (s.reportSource src a b).axis k = s.axis k := by
  cases a <;> cases b <;> rfl

@[simp] theorem send_camera (s : State) (c : Instr) (k : CameraNo) : (s.send c).camera k = s.camera k := rfl

@[simp] theorem sendAll_camera (s : State) (cs : List Instr) (k : CameraNo) : (s.sendAll cs).camera k = s.camera k := rfl

@[simp] theorem post_camera (s : State) (n : Notice) (k : CameraNo) : (s.post n).camera k = s.camera k := rfl

@[simp] theorem reportSource_camera (s : State) (src : FaultSource) (a b : Bool) (k : CameraNo) :
    (s.reportSource src a b).camera k = s.camera k := by
  cases a <;> cases b <;> rfl

/-! ## Frames in general -/

theorem same_refl (s : State) (p : Part) : same s s p := by
  cases p <;> simp [same]

theorem same_trans {s t u : State} {p : Part} (h : same s t p) (h' : same t u p) : same s u p := by
  cases p <;> simp_all [same]

theorem onlyChanged_refl (parts : List Part) (s : State) : onlyChanged parts s s := fun p _ => same_refl s p

theorem onlyChanged_trans {parts : List Part} {s t u : State} (h : onlyChanged parts s t) (h' : onlyChanged parts t u) :
    onlyChanged parts s u := fun p hp => same_trans (h p hp) (h' p hp)

theorem onlyChanged_mono {parts more : List Part} {s t : State} (h : onlyChanged parts s t) (hm : ∀ p ∈ parts, p ∈ more) :
    onlyChanged more s t := fun p hp => h p fun hq => hp (hm p hq)

/-- A fold of steps that each keep a frame keeps it. -/
theorem onlyChanged_foldl {α : Type} {parts : List Part} {f : State → α → State} (hf : ∀ s x, onlyChanged parts s (f s x))
    (l : List α) (s : State) : onlyChanged parts s (l.foldl f s) := by
  induction l generalizing s with
  | nil => exact onlyChanged_refl _ _
  | cons x l ih => exact onlyChanged_trans (hf s x) (ih _)

theorem sansNotices_count_posted (l : Lnk) : sansNotices (l.count .noticesPosted) = sansNotices l := by
  simp [sansNotices, Lnk.count, linkCounterIx]

theorem sansNotices_count_dropped (l : Lnk) : sansNotices (l.count .noticesDropped) = sansNotices l := by
  simp only [sansNotices, Lnk.count, linkCounterIx]
  congr 1
  apply Vector.ext
  intro i hi
  simp only [Vector.getElem_set]
  split <;> simp_all

/-- A posting changes the notices, ATTN and the two counters of postings, and nothing else of the LNK. -/
theorem sansNotices_post (l : Lnk) (p : PostedNotice) (running : Bool) : sansNotices (l.post p running) = sansNotices l := by
  simp only [Lnk.post]
  split <;> split <;> (try simp only [sansNotices_count_posted, sansNotices_count_dropped]) <;> rfl

/-! ## The writes -/

theorem onlyChanged_send (s : State) (c : Instr) : onlyChanged [.reports] s (s.send c) := by
  intro p hp; cases p <;> simp_all [same]

theorem onlyChanged_sendAll (s : State) (cs : List Instr) : onlyChanged [.reports] s (s.sendAll cs) := by
  intro p hp; cases p <;> simp_all [same]

theorem onlyChanged_reportSource (s : State) (src : FaultSource) (a b : Bool) :
    onlyChanged [.reports] s (s.reportSource src a b) := by
  cases a <;> cases b <;> first | exact onlyChanged_refl _ _ | exact onlyChanged_send _ _

theorem onlyChanged_post (s : State) (n : Notice) : onlyChanged [.notices] s (s.post n) := by
  intro p hp
  cases p <;> simp_all [same]
  exact sansNotices_post _ _ _

theorem onlyChanged_setAxis (s : State) (k : AxisNo) (a : Axis) : onlyChanged [.fmu] s (s.setAxis k a) := by
  intro p hp; cases p <;> simp_all [same]

theorem onlyChanged_setCamera (s : State) (k : CameraNo) (c : Camera) : onlyChanged [.ctu] s (s.setCamera k c) := by
  intro p hp; cases p <;> simp_all [same]

/-! ## One axis: what its operations may change -/

/-- What an operation on axis k may change: the FMU's record of that axis, the reports in flight and the notices. -/
def axisOnly (k : AxisNo) (s t : State) : Prop :=
  onlyChanged [.fmu, .reports, .notices] s t ∧ (∀ j, j ≠ k → t.axis j = s.axis j) ∧ t.fmu = { s.fmu with axes := t.fmu.axes }

theorem axisOnly_refl (k : AxisNo) (s : State) : axisOnly k s s := ⟨onlyChanged_refl _ _, fun _ _ => rfl, rfl⟩

theorem axisOnly_trans {k : AxisNo} {s t u : State} (h : axisOnly k s t) (h' : axisOnly k t u) : axisOnly k s u := by
  refine ⟨onlyChanged_trans h.1 h'.1, fun j hj => (h'.2.1 j hj).trans (h.2.1 j hj), ?_⟩
  rw [h'.2.2, h.2.2]

theorem axisOnly_send (k : AxisNo) (s : State) (c : Instr) : axisOnly k s (s.send c) :=
  ⟨onlyChanged_mono (onlyChanged_send _ _) (by simp), fun _ _ => rfl, rfl⟩

theorem axisOnly_sendAll (k : AxisNo) (s : State) (cs : List Instr) : axisOnly k s (s.sendAll cs) :=
  ⟨onlyChanged_mono (onlyChanged_sendAll _ _) (by simp), fun _ _ => rfl, rfl⟩

theorem axisOnly_reportSource (k : AxisNo) (s : State) (src : FaultSource) (a b : Bool) :
    axisOnly k s (s.reportSource src a b) := by
  cases a <;> cases b <;> first | exact axisOnly_refl _ _ | exact axisOnly_send _ _ _

theorem axisOnly_post (k : AxisNo) (s : State) (n : Notice) : axisOnly k s (s.post n) :=
  ⟨onlyChanged_mono (onlyChanged_post _ _) (by simp), fun _ _ => rfl, rfl⟩

theorem axisOnly_setAxis (k : AxisNo) (s : State) (a : Axis) : axisOnly k s (s.setAxis k a) :=
  ⟨onlyChanged_mono (onlyChanged_setAxis _ _ _) (by simp), fun _ hj => setAxis_axis_ne hj _, rfl⟩

theorem axisOnly_ite {k : AxisNo} {s t u : State} {c : Prop} [Decidable c] (h : axisOnly k s t) (h' : axisOnly k s u) :
    axisOnly k s (if c then t else u) := by
  split <;> assumption

theorem axisOnly_dropFill (k : AxisNo) (s : State) : axisOnly k s (s.dropFill k) :=
  axisOnly_trans (axisOnly_setAxis _ _ _) (axisOnly_sendAll _ _ _)

theorem axisOnly_reportRest (k : AxisNo) (s : State) : axisOnly k s (s.reportRest k) := by
  unfold State.reportRest
  split
  · exact axisOnly_send _ _ _
  · exact axisOnly_refl _ _

theorem axisOnly_notifyRest (k : AxisNo) (s : State) (c : EndCause) : axisOnly k s (s.notifyRest k c) := by
  unfold State.notifyRest
  dsimp only
  exact axisOnly_ite (axisOnly_trans (axisOnly_setAxis _ _ _) (axisOnly_post _ _ _)) (axisOnly_refl _ _)

theorem axisOnly_haltAxis (k : AxisNo) (s : State) (c : HaltCause) : axisOnly k s (s.haltAxis k c) := by
  unfold State.haltAxis
  dsimp only
  split
  · exact axisOnly_refl _ _
  · refine axisOnly_trans ?_ (axisOnly_reportSource _ _ _ _ _)
    refine axisOnly_trans ?_ (axisOnly_post _ _ _)
    have h : axisOnly k s (((s.dropFill k).setAxis k { ((s.dropFill k).axis k).atRest with
        motion := .halted, position := none, haltCause := some c, valve := false, valveTestEnd := none
        notify := false }).send (.acuReport (.halt k c (s.axis k).motion))) :=
      axisOnly_trans (axisOnly_dropFill _ _) (axisOnly_trans (axisOnly_setAxis _ _ _) (axisOnly_send _ _ _))
    exact axisOnly_ite (axisOnly_trans h (axisOnly_reportRest _ _)) h

theorem axisOnly_beginMove (k : AxisNo) (s : State) (down : Bool) (count : Option Nat) (p : Profile) (flat : Bool) :
    axisOnly k s (s.beginMove k down count p flat) :=
  axisOnly_ite (axisOnly_trans (axisOnly_setAxis _ _ _) (axisOnly_haltAxis _ _ _)) (axisOnly_setAxis _ _ _)

theorem axisOnly_beginSlowing (k : AxisNo) (s : State) : axisOnly k s (s.beginSlowing k) :=
  axisOnly_ite (axisOnly_trans (axisOnly_setAxis _ _ _) (axisOnly_haltAxis _ _ _)) (axisOnly_setAxis _ _ _)

theorem axisOnly_comeToRest (k : AxisNo) (s : State) (m : Motion) (c : EndCause) : axisOnly k s (s.comeToRest k m c) :=
  axisOnly_trans (axisOnly_trans (axisOnly_setAxis _ _ _) (axisOnly_reportRest _ _)) (axisOnly_notifyRest _ _ _)

theorem axisOnly_stopSlowly (k : AxisNo) (s : State) : axisOnly k s (s.stopSlowly k) :=
  axisOnly_ite (axisOnly_comeToRest _ _ _ _) (axisOnly_trans (axisOnly_setAxis _ _ _) (axisOnly_beginSlowing _ _))

theorem axisOnly_stopAtOnce (k : AxisNo) (s : State) : axisOnly k s (s.stopAtOnce k) :=
  axisOnly_trans (axisOnly_setAxis _ _ _) (axisOnly_comeToRest _ _ _ _)

theorem axisOnly_endValveTest (k : AxisNo) (s : State) : axisOnly k s (s.endValveTest k) := by
  unfold State.endValveTest
  dsimp only
  split
  · exact axisOnly_setAxis _ _ _
  · exact axisOnly_refl _ _

theorem axisOnly_completeRaise (k : AxisNo) (s : State) : axisOnly k s (s.completeRaise k) := by
  unfold State.completeRaise
  dsimp only
  split
  · exact axisOnly_setAxis _ _ _
  · exact axisOnly_trans (axisOnly_trans (axisOnly_setAxis _ _ _) (axisOnly_sendAll _ _ _)) (axisOnly_reportRest _ _)

theorem axisOnly_beginSegment (k : AxisNo) (s : State) (phase : FillPhase) : axisOnly k s (s.beginSegment k phase) := by
  unfold State.beginSegment
  dsimp only
  split
  · exact axisOnly_refl _ _
  · cases phase
    · exact axisOnly_beginMove _ _ _ _ _ _
    · exact axisOnly_setAxis _ _ _
    · exact axisOnly_ite (axisOnly_completeRaise _ _) (axisOnly_beginMove _ _ _ _ _ _)

theorem axisOnly_phaseEntry (k : AxisNo) (s : State) (phase : FillPhase) : axisOnly k s (s.phaseEntry k phase) := by
  unfold State.phaseEntry
  dsimp only
  split
  · exact axisOnly_trans (axisOnly_setAxis _ _ _) (axisOnly_send _ _ _)
  · exact axisOnly_trans (axisOnly_trans (axisOnly_setAxis _ _ _) (axisOnly_send _ _ _)) (axisOnly_beginSegment _ _ _)

theorem axisOnly_consultAgain (k : AxisNo) (s : State) : axisOnly k s (s.consultAgain k) := by
  unfold State.consultAgain
  dsimp only
  split
  · exact axisOnly_setAxis _ _ _
  · split
    · exact axisOnly_trans (axisOnly_setAxis _ _ _) (axisOnly_send _ _ _)
    · exact axisOnly_trans (axisOnly_setAxis _ _ _) (axisOnly_beginSegment _ _ _)

theorem axisOnly_completeLowering (k : AxisNo) (s : State) : axisOnly k s (s.completeLowering k) :=
  axisOnly_trans (axisOnly_trans (axisOnly_setAxis _ _ _) (axisOnly_reportRest _ _)) (axisOnly_phaseEntry _ _ _)

theorem axisOnly_closeFill (k : AxisNo) (s : State) : axisOnly k s (s.closeFill k) := by
  unfold State.closeFill
  extract_lets a s1
  refine axisOnly_trans (t := s1) (axisOnly_trans (axisOnly_setAxis _ _ _) (axisOnly_sendAll _ _ _)) ?_
  split
  · split
    · exact axisOnly_ite (axisOnly_completeLowering _ _) (axisOnly_beginSlowing _ _)
    · exact axisOnly_phaseEntry _ _ _
  · exact axisOnly_trans (axisOnly_setAxis _ _ _) (axisOnly_phaseEntry _ _ _)
  · exact axisOnly_ite (axisOnly_refl _ _) (axisOnly_beginSegment _ _ _)
  · exact axisOnly_refl _ _

theorem axisOnly_windowExpiry (k : AxisNo) (s : State) (pitch : Pitch) : axisOnly k s (s.windowExpiry k pitch) := by
  unfold State.windowExpiry
  split
  · exact axisOnly_ite (axisOnly_trans (axisOnly_trans (axisOnly_setAxis _ _ _) (axisOnly_send _ _ _)) (axisOnly_closeFill _ _))
      (axisOnly_refl _ _)
  · exact axisOnly_refl _ _

theorem axisOnly_startDue (k : AxisNo) (s : State) (pitch : Pitch) : axisOnly k s (s.startDue k pitch) := by
  unfold State.startDue
  dsimp only
  split
  · exact axisOnly_refl _ _
  · exact axisOnly_ite (axisOnly_trans (axisOnly_trans (axisOnly_setAxis _ _ _) (axisOnly_send _ _ _)) (axisOnly_phaseEntry _ _ _))
      (axisOnly_trans (axisOnly_setAxis _ _ _) (axisOnly_send _ _ _))

/-- A pitch event on one axis changes that axis alone. -/
theorem axisOnly_axisPitch (k : AxisNo) (s : State) (pitch : Pitch) : axisOnly k s (s.axisPitch pitch k) :=
  axisOnly_trans (axisOnly_windowExpiry _ _ _) (axisOnly_startDue _ _ _)

/-! ## One axis: what it holds after a halt and an at-rest event -/

theorem haltAxis_halted {s : State} {k : AxisNo} (h : (s.axis k).motion = .halted) (c : HaltCause) : s.haltAxis k c = s :=
  if_pos h

/-- The record of an axis after its halt (R36). -/
theorem haltAxis_axis {s : State} {k : AxisNo} (h : (s.axis k).motion ≠ .halted) (c : HaltCause) :
    (s.haltAxis k c).axis k = { ({ s.axis k with
        assignments := [], held := none, fill := none, dwellEnd := none }.settleRetire).atRest with
      motion := .halted, position := none, haltCause := some c, valve := false, valveTestEnd := none, notify := false } := by
  have hr (t : State) : (t.reportRest k).axis k = t.axis k := by unfold State.reportRest; split <;> rfl
  simp only [State.haltAxis, if_neg h, State.dropFill]
  split <;> simp [hr]

/-- The record of an axis after an at-rest event without a notice (R27, R47). -/
theorem comeToRest_axis {s : State} {k : AxisNo} (h : (s.axis k).notify = false) (m : Motion) (c : EndCause) :
    (s.comeToRest k m c).axis k = { (s.axis k).atRest with motion := m } := by
  have hr (t : State) : (t.reportRest k).axis k = t.axis k := by unfold State.reportRest; split <;> rfl
  have hn : ((s.axis k).atRest).notify = false := h
  simp [State.comeToRest, State.notifyRest, hr, hn]

/-! ## The slot of a grant -/

/-- With no slot that holds an id, none is found. -/
theorem slotOf_none {s : State} {id : Nat} (h : ∀ (i : Fin 4) (g : Grant), s.grant i = some g → g.id ≠ id) :
    s.slotOf id = none := by
  simp only [State.slotOf, List.find?_eq_none]
  intro i _ hc
  obtain ⟨g, hg, e⟩ := (Option.any_eq_true _ _).mp hc
  exact h i g hg (by simpa using e)

/-- The one slot that holds an id is found. -/
theorem slotOf_some {s : State} {id : Nat} {slot : Fin 4} {g : Grant} (hg : s.grant slot = some g) (he : g.id = id)
    (h : ∀ (i : Fin 4) (x : Grant), i ≠ slot → s.grant i = some x → x.id ≠ id) : s.slotOf id = some slot := by
  have hi : ∀ i : Fin 4, ((s.grant i).any fun g => g.id == id) = true → i = slot := by
    intro i hi
    by_contra hne
    obtain ⟨x, hx, hxe⟩ := (Option.any_eq_true _ _).mp hi
    exact h i x hne hx (by simpa using hxe)
  have hs : ((s.grant slot).any fun g => g.id == id) = true := by simp [hg, he]
  cases e : s.slotOf id with
  | none =>
    simp only [State.slotOf, List.find?_eq_none] at e
    exact absurd hs (e slot (by fin_cases slot <;> decide))
  | some j =>
    have := List.find?_some e
    rw [hi j this]

/-! ## One camera: what its operations may change -/

/-- What an operation on camera k may change: the CTU's record of that camera, the reports in flight and the notices. -/
def cameraOnly (k : CameraNo) (s t : State) : Prop :=
  onlyChanged [.ctu, .reports, .notices] s t ∧ (∀ j, j ≠ k → t.camera j = s.camera j)
    ∧ t.ctu = { s.ctu with cameras := t.ctu.cameras }

theorem cameraOnly_refl (k : CameraNo) (s : State) : cameraOnly k s s := ⟨onlyChanged_refl _ _, fun _ _ => rfl, rfl⟩

theorem cameraOnly_trans {k : CameraNo} {s t u : State} (h : cameraOnly k s t) (h' : cameraOnly k t u) : cameraOnly k s u := by
  refine ⟨onlyChanged_trans h.1 h'.1, fun j hj => (h'.2.1 j hj).trans (h.2.1 j hj), ?_⟩
  rw [h'.2.2, h.2.2]

theorem cameraOnly_send (k : CameraNo) (s : State) (c : Instr) : cameraOnly k s (s.send c) :=
  ⟨onlyChanged_mono (onlyChanged_send _ _) (by simp), fun _ _ => rfl, rfl⟩

theorem cameraOnly_sendAll (k : CameraNo) (s : State) (cs : List Instr) : cameraOnly k s (s.sendAll cs) :=
  ⟨onlyChanged_mono (onlyChanged_sendAll _ _) (by simp), fun _ _ => rfl, rfl⟩

theorem cameraOnly_reportSource (k : CameraNo) (s : State) (src : FaultSource) (a b : Bool) :
    cameraOnly k s (s.reportSource src a b) := by
  cases a <;> cases b <;> first | exact cameraOnly_refl _ _ | exact cameraOnly_send _ _ _

theorem cameraOnly_post (k : CameraNo) (s : State) (n : Notice) : cameraOnly k s (s.post n) :=
  ⟨onlyChanged_mono (onlyChanged_post _ _) (by simp), fun _ _ => rfl, rfl⟩

theorem cameraOnly_setCamera (k : CameraNo) (s : State) (c : Camera) : cameraOnly k s (s.setCamera k c) :=
  ⟨onlyChanged_mono (onlyChanged_setCamera _ _ _) (by simp), fun _ hj => setCamera_camera_ne hj _, rfl⟩

theorem cameraOnly_ite {k : CameraNo} {s t u : State} {c : Prop} [Decidable c] (h : cameraOnly k s t) (h' : cameraOnly k s u) :
    cameraOnly k s (if c then t else u) := by
  split <;> assumption

theorem cameraOnly_foldl {α : Type} {k : CameraNo} {f : State → α → State} (hf : ∀ s x, cameraOnly k s (f s x)) (l : List α)
    (s : State) : cameraOnly k s (l.foldl f s) := by
  induction l generalizing s with
  | nil => exact cameraOnly_refl _ _
  | cons x l ih => exact cameraOnly_trans (hf s x) (ih _)

theorem cameraOnly_reportCameraSources (k : CameraNo) (s : State) (before : Ctu) :
    cameraOnly k s (s.reportCameraSources before) :=
  cameraOnly_trans (cameraOnly_reportSource _ _ _ _ _) (cameraOnly_reportSource _ _ _ _ _)

theorem cameraOnly_setCameraState (k : CameraNo) (s : State) (new : CameraState) (c : CameraCause) :
    cameraOnly k s (s.setCameraState k new c) := by
  unfold State.setCameraState
  dsimp only
  exact cameraOnly_ite (cameraOnly_refl _ _) (cameraOnly_trans
    (cameraOnly_trans (cameraOnly_setCamera _ _ _) (cameraOnly_post _ _ _)) (cameraOnly_reportCameraSources _ _ _))

theorem cameraOnly_firePulse (k : CameraNo) (s : State) (serial : Option Nat) (pitch : Pitch) (expiry : Option Pitch) :
    cameraOnly k s (s.firePulse k serial pitch expiry) :=
  cameraOnly_trans (cameraOnly_setCamera _ _ _) (cameraOnly_send _ _ _)

theorem cameraOnly_reportPending (k : CameraNo) (s : State) (v : Verdict) (c : Option CameraCounter) :
    cameraOnly k s (s.reportPending k v c) := by
  refine cameraOnly_foldl (fun s e => ?_) _ _
  split
  · exact cameraOnly_trans (cameraOnly_sendAll _ _ _) (cameraOnly_setCamera _ _ _)
  · exact cameraOnly_sendAll _ _ _
  · exact cameraOnly_refl _ _

theorem cameraOnly_resolvePending (k : CameraNo) (s : State) (v : Verdict) (c : Option CameraCounter) :
    cameraOnly k s (s.resolvePending k v c) :=
  cameraOnly_trans (cameraOnly_reportPending _ _ _ _) (cameraOnly_setCamera _ _ _)

theorem cameraOnly_triggerCases (k : CameraNo) (s : State) (sc : Scheduled) : cameraOnly k s (s.triggerCases k sc) := by
  unfold State.triggerCases
  dsimp only
  split
  · exact cameraOnly_sendAll _ _ _
  · exact cameraOnly_sendAll _ _ _
  · exact cameraOnly_trans (cameraOnly_sendAll _ _ _) (cameraOnly_setCamera _ _ _)
  · refine cameraOnly_ite ?_ (cameraOnly_ite ?_ (cameraOnly_firePulse _ _ _ _ _))
    · exact cameraOnly_trans (cameraOnly_trans (cameraOnly_trans (cameraOnly_setCameraState _ _ _ _) (cameraOnly_sendAll _ _ _))
        (cameraOnly_setCamera _ _ _)) (cameraOnly_resolvePending _ _ _ _)
    · exact cameraOnly_trans (cameraOnly_sendAll _ _ _) (cameraOnly_setCamera _ _ _)

theorem cameraOnly_takeTrigger (k : CameraNo) (s : State) : cameraOnly k s (s.takeTrigger k) := by
  unfold State.takeTrigger
  dsimp only
  split
  · exact cameraOnly_refl _ _
  · exact cameraOnly_trans (cameraOnly_trans (cameraOnly_setCamera _ _ _) (cameraOnly_send _ _ _)) (cameraOnly_triggerCases _ _ _)

theorem cameraOnly_expireWindows (k : CameraNo) (s : State) (pitch : Pitch) : cameraOnly k s (s.expireWindows k pitch) := by
  refine cameraOnly_foldl (fun s e => ?_) _ _
  unfold State.expireEntry
  refine cameraOnly_trans (cameraOnly_trans ?_ (cameraOnly_setCamera _ _ _)) (cameraOnly_setCamera _ _ _)
  split
  · exact cameraOnly_sendAll _ _ _
  · exact cameraOnly_refl _ _

/-- A pitch event on one camera changes that camera alone. -/
theorem cameraOnly_cameraPitch (k : CameraNo) (s : State) (pitch : Pitch) (records : List Announced) :
    cameraOnly k s (s.cameraPitch pitch records k) := by
  have h : cameraOnly k s ((s.expireWindows k pitch).schedule k pitch records) := by
    refine cameraOnly_trans (cameraOnly_expireWindows k s pitch) ?_
    unfold State.schedule
    split
    · exact cameraOnly_setCamera _ _ _
    · exact cameraOnly_refl _ _
  exact cameraOnly_ite (cameraOnly_trans h (cameraOnly_takeTrigger _ _)) h

theorem cameraOnly_leaveTest (k : CameraNo) (s : State) (c : CameraCause) : cameraOnly k s (s.leaveTest k c) :=
  cameraOnly_trans (cameraOnly_setCamera _ _ _) (cameraOnly_setCameraState _ _ _ _)

end Sys2Proof.Machine
end

