-- ==== Sys2Proof/Tests/Slice0.lean ====
section
/-!
SUPPORT. Slice0.lean: the model's own tests. A term that is not well formed for each check of WellFormed; small steps of the
commands and of the encodings; and, for each statement with hypotheses, concrete states that meet them, clause by clause.
-/

namespace Sys2Proof.Tests

/- The tests are elaborated one after another: many at once would need more threads than the memory limit allows. -/
set_option Elab.async false

open Sys2Proof Sys2Proof.Machine Sys2Proof.Safety Sys2Proof.Claims

/-! ## WellFormed: a term each check refuses -/

theorem test_wf_fill_report : (Instr.fillReport 0 (.axis 0)).wellFormed = false
    ∧ (Instr.fillReport 4294967296 (.axis 0)).wellFormed = false ∧ (Instr.fillReport 1 (.result .pending)).wellFormed = false := by
  decide

theorem test_wf_verdict_and_watch_report : (Instr.verdictReport 0 0 .ok).wellFormed = false
    ∧ (Instr.verdictReport 1 0 .pending).wellFormed = false ∧ (Instr.watchReport 0 0 true).wellFormed = false := by
  decide

theorem test_wf_line_geometry : (Instr.lineGeometry 65536 16 5 0).wellFormed = false
    ∧ (Instr.lineGeometry 3 65536 5 0).wellFormed = false ∧ (Instr.lineGeometry 3 16 256 0).wellFormed = false
    ∧ (Instr.lineGeometry 3 16 5 256).wellFormed = false := by
  decide

theorem test_wf_track_reads : (Instr.trackRead 4294967296).wellFormed = false
    ∧ (Instr.rejectLogRead 256).wellFormed = false ∧ (Instr.assignmentArbiter 0 0 0).wellFormed = false := by
  decide

theorem test_wf_announcement : (Instr.fmuPitchEvent 1 [⟨2, 1, 0⟩, ⟨2, 0, 0⟩]).wellFormed = false
    ∧ (Instr.ctuPitchEvent 1 [⟨0, 1, 0⟩]).wellFormed = false
    ∧ (Instr.fmuPitchEvent 1 ((List.range 129).map fun n => ⟨n + 1, 0, 0⟩)).wellFormed = false := by
  decide +kernel

theorem test_wf_axis_stop_and_config : (Instr.axisStop 1 256 0).wellFormed = false
    ∧ (Instr.axisStop 1 0 256).wellFormed = false ∧ (Instr.axisConfig 256 1 10 10 1 1).wellFormed = false
    ∧ (Instr.axisConfig 0 65536 10 10 1 1).wellFormed = false ∧ (Instr.axisConfig 0 1 65536 10 1 1).wellFormed = false
    ∧ (Instr.axisConfig 0 1 10 4294967296 1 1).wellFormed = false ∧ (Instr.axisConfig 0 1 10 10 65536 1).wellFormed = false
    ∧ (Instr.axisConfig 0 1 10 10 1 4294967296).wellFormed = false := by
  decide

theorem test_wf_axis_grant_requests : (Instr.axisDuty 1 256 0).wellFormed = false
    ∧ (Instr.axisDuty 1 1 256).wellFormed = false ∧ (Instr.axisMove 1 256 [0]).wellFormed = false
    ∧ (Instr.axisMove 3 1 [0]).wellFormed = false ∧ (Instr.axisMove 1 1 [2147483648]).wellFormed = false
    ∧ (Instr.axisMove 1 1 [-2147483649]).wellFormed = false ∧ (Instr.axisJog 1 256 0).wellFormed = false
    ∧ (Instr.axisJog 1 1 256).wellFormed = false ∧ (Instr.valveTest 1 256 1).wellFormed = false
    ∧ (Instr.valveTest 1 1 65536).wellFormed = false := by
  decide +kernel

theorem test_wf_serials_and_ids : (Instr.fmuDeparture 0).wellFormed = false ∧ (Instr.ctuDeparture 0).wellFormed = false
    ∧ (Instr.fmuGrantClosingStart 0 1).wellFormed = false ∧ (Instr.ctuGrantClosingStart 256).wellFormed = false
    ∧ (Instr.swsGrantOpened 0 1).wellFormed = false ∧ (Instr.swsGrantClosingStart 256).wellFormed = false
    ∧ (Instr.swsGrantClosed 0).wellFormed = false := by
  decide

theorem test_wf_recipes : (Instr.recipeWrite 256 ⟨1, 10, 10, 1, 10, 0, 1, 0⟩).wellFormed = false
    ∧ (Instr.recipeWrite 0 ⟨4294967296, 10, 10, 1, 10, 0, 1, 0⟩).wellFormed = false
    ∧ (Instr.recipeWrite 0 ⟨1, 65536, 10, 1, 10, 0, 1, 0⟩).wellFormed = false
    ∧ (Instr.recipeWrite 0 ⟨1, 10, 4294967296, 1, 10, 0, 1, 0⟩).wellFormed = false
    ∧ (Instr.recipeWrite 0 ⟨1, 10, 10, 65536, 10, 0, 1, 0⟩).wellFormed = false
    ∧ (Instr.recipeWrite 0 ⟨1, 10, 10, 1, 65536, 0, 1, 0⟩).wellFormed = false
    ∧ (Instr.recipeWrite 0 ⟨1, 10, 10, 1, 10, 256, 1, 0⟩).wellFormed = false
    ∧ (Instr.recipeWrite 0 ⟨1, 10, 10, 1, 10, 0, 256, 0⟩).wellFormed = false ∧ (Instr.recipeSelect 256).wellFormed = false
    ∧ (Instr.recipeRead 256).wellFormed = false := by
  decide

theorem test_wf_trims_and_temperature : (Instr.trimWrite 256 [0]).wellFormed = false
    ∧ (Instr.trimWrite 0 (List.replicate 256 0)).wellFormed = false ∧ (Instr.trimWrite 0 [32768]).wellFormed = false
    ∧ (Instr.trimMode 256 none).wellFormed = false ∧ (Instr.trimMode 1 (some 256)).wellFormed = false
    ∧ (Instr.productTemp 32768).wellFormed = false ∧ (Instr.productTemp (-32769)).wellFormed = false := by
  decide +kernel

theorem test_wf_cameras : (Instr.lineTrigger 4096).wellFormed = false ∧ (Instr.activeCameraSetReport 64).wellFormed = false
    ∧ (Instr.activeCameraSetReport 128).wellFormed = false ∧ (Instr.cameraConfig 256 1 0 1).wellFormed = false
    ∧ (Instr.cameraConfig 0 65536 0 1).wellFormed = false ∧ (Instr.cameraConfig 0 1 65536 1).wellFormed = false
    ∧ (Instr.cameraConfig 0 1 0 256).wellFormed = false ∧ (Instr.cameraTest 1 256 0).wellFormed = false
    ∧ (Instr.cameraTest 1 1 256).wellFormed = false ∧ (Instr.testTrigger 1 256).wellFormed = false := by
  decide

theorem test_wf_switch_messages : (Instr.switchBadFrame (.complete [])).wellFormed = false
    ∧ (Instr.switchBadFrame (.complete [1, 0, 0, 0, 0, 0])).wellFormed = false
    ∧ (Instr.requestFrame (241 :: List.replicate 246 0)).wellFormed = false ∧ (Instr.query 1 256 0).wellFormed = false
    ∧ (Instr.linkReport 256 .up).wellFormed = false ∧ (Instr.errorReport 256 0).wellFormed = false
    ∧ (Instr.errorReport 1 4294967296).wellFormed = false ∧ (Instr.frameAbandonedForLength 240).wellFormed = false := by
  decide +kernel

theorem test_wf_ports_and_stations : (Instr.portConfig 256 0 0 0).wellFormed = false
    ∧ (Instr.portConfig 1 256 0 0).wellFormed = false ∧ (Instr.portConfig 1 0 65536 0).wellFormed = false
    ∧ (Instr.portConfig 1 0 0 65536).wellFormed = false ∧ (Instr.stationPin 1 256 0 none).wellFormed = false
    ∧ (Instr.stationPin 1 1 256 none).wellFormed = false ∧ (Instr.stationPin 1 1 0 (some 256)).wellFormed = false
    ∧ (Instr.stationRead 256).wellFormed = false ∧ (Instr.portUnblock 256).wellFormed = false
    ∧ (Instr.forgetRead 256).wellFormed = false ∧ (Instr.stationFlush (.port 256)).wellFormed = false
    ∧ (Instr.stationFlush (.unknown 256)).wellFormed = false ∧ (Instr.stationFlush (.unknown 2)).wellFormed = false := by
  decide

theorem test_wf_access : (Instr.unlock 256 []).wellFormed = false ∧ (Instr.unlock 1 (List.replicate 256 0)).wellFormed = false
    ∧ (Instr.passcodeSet 256 none).wellFormed = false ∧ (Instr.passcodeSet 1 (some [])).wellFormed = false
    ∧ (Instr.passcodeSet 1 (some (List.replicate 256 0))).wellFormed = false
    ∧ (Instr.grantOpen 256 0 0 0 0 1).wellFormed = false ∧ (Instr.grantOpen 1 0 0 0 256 1).wellFormed = false
    ∧ (Instr.grantOpen 1 0 0 0 0 65536).wellFormed = false ∧ (Instr.grantExtend 256 1).wellFormed = false
    ∧ (Instr.grantExtend 1 65536).wellFormed = false ∧ (Instr.grantClose 256).wellFormed = false
    ∧ (Instr.accountReset 256 0).wellFormed = false ∧ (Instr.accountReset 1 256).wellFormed = false := by
  decide +kernel

theorem test_wf_closing_reports : (Instr.closingReport (.axesInMotion 0 0)).wellFormed = false
    ∧ (Instr.closingReport (.closingForgets 256 0)).wellFormed = false
    ∧ (Instr.closingReport (.resolvedDone 1 33)).wellFormed = false
    ∧ (Instr.closingReport (.resolvedExpired 0 1)).wellFormed = false
    ∧ (Instr.closingReport (.terminals 1 5)).wellFormed = false ∧ (Instr.closingReport (.terminals 0 1)).wellFormed = false := by
  decide

theorem test_wf_watches : (Instr.watchSet 256 (.station 1) 0 0 0 0).wellFormed = false
    ∧ (Instr.watchSet 0 (.station 1) 256 0 0 0).wellFormed = false ∧ (Instr.watchSet 0 (.station 1) 0 256 0 0).wellFormed = false
    ∧ (Instr.watchSet 0 (.station 1) 0 0 256 0).wellFormed = false ∧ (Instr.watchSet 0 (.station 1) 0 0 0 256).wellFormed = false
    ∧ (Instr.watchSet 0 (.serial 4294967296 0) 0 0 0 0).wellFormed = false
    ∧ (Instr.watchSet 0 (.serial 1 256) 0 0 0 0).wellFormed = false
    ∧ (Instr.watchSet 0 (.axisPhase 256 0) 0 0 0 0).wellFormed = false
    ∧ (Instr.watchSet 0 (.axisPhase 0 256) 0 0 0 0).wellFormed = false
    ∧ (Instr.watchSet 0 (.cameraNg 256 1) 0 0 0 0).wellFormed = false
    ∧ (Instr.watchSet 0 (.cameraNg 0 256) 0 0 0 0).wellFormed = false
    ∧ (Instr.watchSet 0 (.unknown 256) 0 0 0 0).wellFormed = false
    ∧ (Instr.watchSet 0 (.unknown 3) 0 0 0 0).wellFormed = false ∧ (Instr.watchClear 256 0 0).wellFormed = false
    ∧ (Instr.watchClear 0 256 0).wellFormed = false ∧ (Instr.watchClear 0 0 256).wellFormed = false
    ∧ (Instr.watchAck 256).wellFormed = false := by
  decide

theorem test_wf_reports : (Instr.acuReport (.newRecord 0)).wellFormed = false
    ∧ (Instr.acuReport (.fillStart 0 0)).wellFormed = false ∧ (Instr.acuReport (.lineStage 0 0)).wellFormed = false
    ∧ (Instr.acuReport (.departure 0 .passed none)).wellFormed = false
    ∧ (Instr.acuReport (.departure 1 .rejected none)).wellFormed = false
    ∧ (Instr.acuReport (.departure 1 .passed (some .fill))).wellFormed = false
    ∧ (Instr.acuReport (.phaseEntry 0 .filling 0 none)).wellFormed = false
    ∧ (Instr.acuReport (.holdAfterRelease 0 .filling 0 0)).wellFormed = false
    ∧ (Instr.acuReport (.halt 0 .limit .halted)).wellFormed = false ∧ (Instr.acuReport (.verdict 0 0 .ok)).wellFormed = false
    ∧ (Instr.acuReport (.verdict 1 0 .pending)).wellFormed = false := by
  decide

theorem test_wf_time_accounts_permit_link : (Instr.timeSet 18446744073709551616).wellFormed = false
    ∧ (Instr.timeMark 18446744073709551616).wellFormed = false ∧ (Instr.accountConfig 256 0 0).wellFormed = false
    ∧ (Instr.accountConfig 0 4294967296 0).wellFormed = false ∧ (Instr.accountConfig 0 0 4294967296).wellFormed = false
    ∧ (Instr.sourceActivation .watchStop).wellFormed = false ∧ (Instr.sourceDeactivation .restarted).wellFormed = false
    ∧ (Instr.extensionExpiry .storeFailed).wellFormed = false ∧ (Instr.eventSourceLatch .trackFull).wellFormed = false
    ∧ (Instr.faultAck [256]).wellFormed = false ∧ (Instr.faultAck (List.replicate 256 0)).wellFormed = false
    ∧ (Instr.permitConfig 256 0 0 0).wellFormed = false ∧ (Instr.permitConfig 0 256 0 0).wellFormed = false
    ∧ (Instr.permitConfig 0 0 256 0).wellFormed = false ∧ (Instr.permitConfig 0 0 0 65536).wellFormed = false
    ∧ (Instr.fetchNotices 256).wellFormed = false := by
  decide +kernel

/-! ## Small steps and encodings -/

/-- The next state of an outcome. -/
def next? (r : Result) : Option State :=
  match r with
  | .next t => some t
  | _ => none

/-- The part at reset with start-up complete. -/
def base : State := { State.reset with phase := .running }

/-- The running part with one block's state given. -/
def line (x : Ltr) : State := { base with ltr := x }
def axis3 (x : Axis) : State := base.setAxis 3 x
def camera2 (x : Camera) : State := base.setCamera 2 x
def switch (x : Sws) : State := { base with sws := x }
def access (x : Acu) : State := { base with acu := x }
def clocks (x : Tmu) : State := { base with tmu := x }
def link (x : Lnk) : State := { base with lnk := x }
def store (x : Sst) : State := { base with sst := x }

theorem test_crc_of_the_check_string :
    crc16 [0x31, 0x32, 0x33, 0x34, 0x35, 0x36, 0x37, 0x38, 0x39] = 0x29B1 := by
  decide +kernel

theorem test_frame_of_an_ok_reply :
    (replyFrame ⟨false, 7, 0x62, ⟨.ok, none, []⟩, 2⟩).map (fun b => b.take 9) = some [0xA5, 4, 2, 7, 0x62, 0, 0, 1, 2] := by
  decide +kernel

theorem test_parse_unlock : parseRequest 0x61 [2, 4, 9, 8, 7, 6] = .request (.unlock 2 [9, 8, 7, 6])
    ∧ parseRequest 0x61 [2, 5, 9, 8, 7, 6] = .badLength ∧ parseRequest 0x69 [] = .unknownMessage := by
  decide +kernel

theorem test_parse_signed_values : parseRequest 0x36 [0xFF, 0xFE] = .request (.productTemp (-2))
    ∧ parseRequest 0x26 [3, 1, 0, 0, 0, 1, 0xFF, 0xFF, 0xFF, 0xFF] = .request (.axisMove 3 1 [1, -1]) := by
  decide +kernel

theorem test_parse_watch_set :
    parseRequest 0x71 [3, 1, 4, 0, 2, 0, 0, 1] = .request (.watchSet 3 (.axisPhase 4 0) 2 0 0 1) := by
  decide +kernel

theorem test_pulses_needed_to_slow : neededPulses ⟨200, 2000, 20⟩ 2000000 = 99 := by decide

theorem test_pin_reset_of_reset : next? (exec .pinReset State.reset) = some State.reset := by decide +kernel

theorem test_reset_release : ((next? (exec .resetRelease State.reset)).map fun t => (t.phase, t.sws.sent, t.tmu.now))
    = some (.starting, [⟨0, .forgetAll⟩], 0) := by
  decide +kernel

theorem test_start_up_latches_restarted :
    ((next? (exec (.startUpComplete true false) { State.reset with phase := .starting })).map fun t =>
      (t.lnk.notices.map (fun p => p.notice), t.pml.permit, t.lnk.attn))
      = some ([.fault .restarted .latch true .latch 0 true, .fault .storeFailed .latch true .latch 0 true], false, true) := by
  decide +kernel

theorem test_forward_step : ((next? (exec (.stepEvent .a) base)).map fun t => (t.ltr.refA, t.ltr.step, t.ltr.debt, t.reports))
    = some (true, 1, 0, [.lineTrigger 1]) := by
  decide +kernel

theorem test_backward_step : ((next? (exec (.stepEvent .b) base)).map fun t => (t.ltr.refB, t.ltr.step, t.ltr.debt))
    = some (true, 0, 1) := by
  decide +kernel

theorem test_infeed_makes_a_record :
    ((next? (exec (.stepEvent .a) { line { step := 1023 } with inputs := { infeed := true } })).map fun t =>
      (t.ltr.track.map (fun b => b.serial), t.ltr.nextSerial, t.ltr.pitch, t.reports.length)) = some ([1], some 2, 1, 5) := by
  decide +kernel

theorem test_home_at_the_switch :
    ((next? (exec (.axisHome 8) { axis3 { binding := .up } with
      acu := { level := 1 }, inputs := { home := 8 } })).map fun t => ((t.axis 3).motion, (t.axis 3).position))
      = some (.idle, some 0) := by
  decide +kernel

theorem test_limit_halts : ((next? (exec (.limitActive 3) (axis3 {
    motion := .lowering, binding := .up, position := some 5, profile := some ⟨200, 2000, 20⟩ }))).map fun t =>
      ((t.axis 3).motion, (t.axis 3).position, (t.axis 3).haltCause)) = some (.halted, none, some .limit) := by
  decide +kernel

theorem test_verdict_arrival_late : ((next? (exec (.verdictArrival 2 true 1) (camera2 { stale := 2 }))).map fun t =>
    ((t.camera 2).stale, (t.camera 2).counters[6])) = some (0, 1) := by
  decide +kernel

theorem test_query_on_a_locked_port : ((next? (exec .answer (switch { queries := [⟨0x111, 2, 9⟩] }))).map fun t =>
    (t.sws.sent, (t.sws.table[1].ways[0]).map fun e => e.state)) = some ([⟨9, .answer 0x111 2 false⟩], some .quarantined) := by
  decide +kernel

theorem test_three_wrong_passcodes_lock_out :
    ((next? (exec (.unlock 1 [1, 2, 3, 4]) { access { failures := 2 } with
      cfg := { Settings.defaults with passcode1 := some [4, 3, 2, 1] } })).map fun t => (t.acu.failures, t.acu.lockoutEnd))
      = some (0, some 60000000) := by
  decide +kernel

theorem test_watch_hit_withdraws :
    ((next? (exec (.acuReport (.newRecord 5)) (access { watches := #v[some {
      kind := .serial 5 .infeed, action := .withdraw, scope := .global, enabled := true }, none, none, none] }))).map fun t =>
        t.reports) = some [.watchReport 5 0 false, .eventSourceLatch .watchStop] := by
  decide +kernel

theorem test_mark_slews_by_four : ((next? (exec (.timeMark 110) (clocks {
    clock := .locked, hallParts := some 100000000000 }))).map fun t => (t.tmu.frequency, t.tmu.phaseTerm, t.tmu.phaseEnd))
      = some (40, 1250, some 8000000) := by
  decide +kernel

theorem test_axis_account_enters_alarm :
    ((next? (exec (.accountConfig 3 1 2) { clocks { accounts := (Vector.replicate 15 {}).set 3 { count := 2 } } with
      acu := { level := 2 } })).map fun t => (t.reports, t.sst.dirty)) = some ([.accountAlarmEntry 3], true) := by
  decide +kernel

theorem test_activation_takes_permit_low :
    ((next? (exec (.sourceActivation .trackFull) { base with pml := { permit := true } })).map fun t =>
      (t.pml.permit, t.lnk.notices.length)) = some (false, 2) := by
  decide +kernel

theorem test_a_bad_check_is_counted :
    ((next? (exec (.requestFrame [0, 1, 7, 0x62, 0, 0]) (link { receive := .inFrame }))).map fun t => t.lnk.counters[1])
      = some 1 := by
  decide +kernel

theorem test_save_writes_bank_a :
    ((next? (exec .save { base with acu := { level := 2 } })).map fun t => (t.sst.saving, t.sst.writing.map fun w => (w.1, w.2.1)))
      = some (some .save, some (.a, 1)) := by
  decide +kernel

theorem test_step_takes_the_front :
    ((next? (step { base with pending := [.lock, .lineClear], acu := { level := 2 } })).map fun t =>
      (t.pending, t.acu.level)) = some ([.lineClear], 0) := by
  decide +kernel

/-! ## The hypotheses of the statements are met, clause by clause -/

/-- A record at position L of a line with L 40, with fields given. -/
def ripe (fill : FillResult) (v : Verdict) (sample : Option WatchNo) : Bottle :=
  ⟨7, 0, none, 0, none, fill, [(0, .ok), (2, v)], sample, 0⟩

/-- The line with a ripe record. -/
def atL (b : Bottle) : Ltr := { pitch := 40, track := [b] }

theorem test_met_EncoderChangesAreStepsOrErrors : running base
    ∧ (line { counters := (Vector.replicate 11 0).set 10 18446744073709551614 }).ltr.counters[10] < 18446744073709551615
    ∧ ¬ running State.reset ∧ ({ base with phase := .starting } : State).phase = .starting := by
  unfold running; decide +kernel

theorem test_met_StepsLeadToPitchEvents :
    (line { step := 1022 }).ltr.debt = 0 ∧ (line { step := 1022 }).ltr.step + 1 < base.cfg.geometry.stepsPerPitch
    ∧ base.cfg.geometry.stepsPerPitch ≤ (line { step := 1023 }).ltr.step + 1 ∧ 0 < (line { debt := 1 }).ltr.debt := by
  decide +kernel

theorem test_met_VerifyAndTheEndOfTheGatePulse :
    let e : RejectEntry := ⟨some 7, .fill, 0, some .late, none, false⟩
    let s := { line { verify := some ⟨some 7⟩, log := [e], gateEnd := some 30000 } with inputs := { gateVfy := true } }
    base.ltr.verify = none ∧ base.inputs.gateVfy = false ∧ s.ltr.verify = some ⟨some 7⟩ ∧ s.inputs.gateVfy = true
    ∧ s.ltr.log = [] ++ [e] ∧ s.ltr.counters[9] < 18446744073709551615 ∧ running s
    ∧ (s.ltr.gateEnd = some 30000 ∧ 30000 ≤ ({ s with tmu := { now := 30000 } } : State).tmu.now)
    ∧ base.ltr.gateEnd = none ∧ s.tmu.now < 30000 := by
  unfold running; decide +kernel

theorem test_met_GateDecidesTheRecordAtL :
    atGate (line (atL (ripe .ok .ok none))) (ripe .ok .ok none) [] ∧ fitToPass (ripe .ok .ok none)
    ∧ rejectedFor (ripe .late .ng (some 0)) .fill 2 ∧ rejectedFor (ripe .ok .ng (some 0)) (.camera 2) 3
    ∧ rejectedFor (ripe .ok .ok (some 0)) .sample 4
    ∧ (∀ k : CameraNo, BitVec.getLsbD 4#8 k = (ripe .ok .ng none).verdicts.any fun v => v.1 == k && v.2 != .ok)
    ∧ (4#8 : CameraSet) < 64#8 ∧ counts base 1 ∧ counts base 5 ∧ counts base 8
    ∧ ({ base with inputs := { gatePres := true } } : State).inputs.gatePres = true ∧ base.inputs.gatePres = false
    ∧ ¬ ∃ b rest, atGate base b rest := by
  refine ⟨⟨rfl, rfl⟩, ⟨rfl, by decide, rfl⟩, .inl (by decide), .inr (.inl ⟨rfl, rfl, [(0, .ok)], 2, .ng, [], rfl, ?_⟩),
    .inr (.inr ⟨rfl, ?_⟩), ?_, ?_, ?_, ?_, ?_, ?_, ?_, ?_⟩
  all_goals first
    | (rintro ⟨b, rest, h, _⟩; exact absurd h (by simp [base, State.reset]))
    | decide
    | (unfold counts; decide +kernel)

theorem test_met_InfeedMakesARecordOrCountsAMiss :
    let b := ripe .ok .ok none
    base.inputs.infeed = false ∧ ({ base with inputs := { infeed := true } } : State).inputs.infeed = true
    ∧ (line { track := List.replicate 127 b }).ltr.track.length < 128
    ∧ 128 ≤ (line { track := List.replicate 128 b }).ltr.track.length
    ∧ serialTaken { nextSerial := some 4294967295 } 4294967295 none ∧ serialTaken { nextSerial := some 1 } 1 (some 2)
    ∧ serialTaken { nextSerial := none } 1 (some 2) ∧ counts base 0 ∧ counts base 7
    ∧ (line { track := [b], nextSerial := none }).ltr.track ≠ [] := by
  unfold serialTaken counts; decide +kernel

theorem test_met_ReportsFillTheRecord : running (line (atL (ripe .pending .pending none))) := rfl

theorem test_met_LineAndUnitsAreConfiguredWhenFree :
    let s := { base with acu := { level := 2 } }
    running s ∧ 2 ≤ s.acu.level ∧ geometryFits s 35 16 5 1 ∧ geometryFits s 1000 4096 200 0 ∧ ¬ geometryFits s 34 16 5 0
    ∧ s.ltr.track = [] ∧ s.ltr.verify = none ∧ (line (atL (ripe .ok .ok none))).ltr.track ≠ []
    ∧ ((axis3 { assignments := [⟨1, 0, 0⟩], motion := .lowering }).axis 3).assignments ≠ []
    ∧ ((axis3 { assignments := [⟨1, 0, 0⟩], motion := .lowering }).axis 3).motion = .lowering
    ∧ s.ltr.counters[6] + s.ltr.track.length ≤ 18446744073709551615 := by
  unfold running geometryFits; decide +kernel

theorem test_met_UnitsAreConfiguredWhenFree :
    profileFits ⟨10, 100000, 1⟩ ∧ profileFits ⟨10000, 10000, 10000⟩ ∧ ¬ profileFits ⟨9, 10, 1⟩
    ∧ 39 < base.cfg.geometry.gateOffset ∧ 1023 < base.cfg.geometry.stepsPerPitch ∧ base.acu.level < 2
    ∧ ((axis3 { valveTestEnd := some 5 }).axis 3).valveTestEnd ≠ none ∧ (base.axis 3).assignments = []
    ∧ (base.axis 3).profile = none ∧ (∃ b ∈ (line (atL (ripe .ok .ok none))).ltr.track, ∃ v ∈ b.verdicts, v.1 = 2)
    ∧ ((camera2 { pending := [⟨none, 0, 0, none, none⟩] }).camera 2).pending ≠ [] := by
  refine ⟨?_, ?_, ?_, ?_, ?_, ?_, ?_, ?_, ?_, ⟨_, .head _, _, .tail _ (.head _), rfl⟩, ?_⟩
  all_goals first | decide +kernel | (unfold profileFits; decide)

/-- An axis in motion with a count given. -/
def going (m : Motion) (count : Option Nat) : Axis :=
  { motion := m, profile := some ⟨200, 2000, 20⟩, remaining := count, speed := 2000000, ramp := some .cruise, binding := .up }

theorem test_met_MovesRunPulseByPulseToTheirEnd :
    let a := going .moving (some 100)
    running (axis3 a) ∧ a.profile = some ⟨200, 2000, 20⟩ ∧ a.remaining ≠ some 0 ∧ 1 ≤ (⟨200, 2000, 20⟩ : Profile).acceleration
    ∧ a.ramp ≠ some .decel ∧ a.remaining = some (99 + 1) ∧ (base.axis 3).profile = none
    ∧ (going .moving (some 0)).remaining = some 0 ∧ (going .moving none).remaining = none
    ∧ ((axis3 (going .homing (some 0))).axis 3).motion = .homing ∧ ((axis3 (going .stopping (some 0))).axis 3).motion = .stopping
    ∧ ((axis3 { valveTestEnd := some 5 }).axis 3).valveTestEnd = some 5 ∧ 5 ≤ (clocks { now := 5 }).tmu.now ∧ base.tmu.now < 5
    ∧ (base.axis 3).valveTestEnd = none ∧ (base.axis 3).remaining ≠ some 0 ∧ (base.axis 3).motion ≠ .homing ∧ 9 < 10 := by
  unfold running; decide +kernel

theorem test_met_ramp_down_both_ways : rampDown ⟨200, 2000, 20⟩ 2000000 99 ∧ ¬ rampDown ⟨200, 2000, 20⟩ 2000000 100 := by
  refine ⟨?_, ?_⟩
  · intro n hn he; simp only [enoughToSlow] at he; omega
  · intro h; exact h 99 (by omega) (by simp only [enoughToSlow]; omega)

theorem test_met_HaltsAndTheirCauses :
    let moving := axis3 (going .lowering (some 5))
    running moving ∧ (moving.axis 3).profile ≠ none ∧ (moving.axis 3).motion ≠ .halted ∧ (moving.axis 3).binding = .up
    ∧ ((axis3 { motion := .halted }).axis 3).motion = .halted ∧ (base.axis 3).profile = none ∧ (base.axis 3).binding = .down
    ∧ ((axis3 (going .homing (some 0))).axis 3).motion = .homing ∧ (going .homing (some 0)).remaining = some 0 := by
  unfold running; decide +kernel

theorem test_met_SetRequestsRunTheirMembers :
    axisRequest 8 (.axisHome 8) homeMember ∧ axisRequest 8 (.clearHalt 8) clearHaltMember
    ∧ axisRequest 8 (.axisResume 8) resumeMember ∧ axisRequest 8 (.axisStop 8 0 0) (stopMember .decelerate false)
    ∧ axisRequest 8 (.axisStop 8 1 1) (stopMember .immediate true) ∧ (8 : AxisSet) ≠ 0 ∧ base.acu.level = 0
    ∧ 1 ≤ (access { level := 1 }).acu.level
    ∧ grantRequest 8 255 (.axisDuty 8 255 0) (dutyMember .auto) ∧ grantRequest 8 1 (.axisJog 8 1 1) (jogMember true)
    ∧ grantRequest 8 1 (.valveTest 8 1 5000) (valveMember 5000) ∧ grantRequest 8 1 (.valveTest 8 1 1) (valveMember 1)
    ∧ ∃ f, grantRequest 8 1 (.axisMove 8 1 [5]) f := by
  refine ⟨by simp [axisRequest], by simp [axisRequest], by simp [axisRequest], by simp [axisRequest], by simp [axisRequest],
    by decide, by decide +kernel, by decide +kernel, by simp [grantRequest], by simp [grantRequest],
    .inr (.inr (.inr (.inr (.inl ⟨5000, by decide, by decide, rfl, rfl⟩)))),
    .inr (.inr (.inr (.inr (.inl ⟨1, by decide, by decide, rfl, rfl⟩)))),
    _, .inr (.inr (.inr (.inr (.inr ⟨[5], rfl, rfl⟩))))⟩

theorem test_met_HomeClearHaltAndStopMembers :
    let at3 (a : Axis) := (axis3 a).axis 3
    (at3 { binding := .up }).binding = .up ∧ (at3 { binding := .up }).motion = .unhomed ∧ (at3 {}).binding = .down
    ∧ (at3 { motion := .armed }).motion = .armed ∧ (at3 { motion := .idle, valveTestEnd := some 1 }).valveTestEnd ≠ none
    ∧ ({ base with inputs := { home := 8 } } : State).inputs.home.getLsbD (3 : AxisNo) = true
    ∧ base.inputs.home.getLsbD (3 : AxisNo) = false ∧ base.inputs.limit.getLsbD (3 : AxisNo) = false
    ∧ ({ base with inputs := { limit := 8 } } : State).inputs.limit.getLsbD (3 : AxisNo) = true
    ∧ (at3 { motion := .halted }).profile = none ∧ (at3 { motion := .filling }).motion = .filling
    ∧ (at3 { motion := .raising }).profile = none ∧ 0 < (going .raising (some 500)).needed
    ∧ ({ going .raising (some 500) with speed := 200000 } : Axis).needed = 0
    ∧ (at3 { going .lowering (some 5) with fill := some ⟨1, true, 0⟩ }).fill = some ⟨1, true, 0⟩
    ∧ (at3 (going .stopping (some 5))).motion = .stopping ∧ (at3 (going .moving (some 500))).motion = .moving := by
  decide +kernel

theorem test_met_ManualMembers :
    manualBar { duty := .auto } false (some .state) ∧ manualBar { duty := .manual } false (some .state)
    ∧ manualBar { duty := .manual, binding := .up, motion := .moving } true (some .busy)
    ∧ manualBar { duty := .manual, binding := .up } true none
    ∧ manualBar { duty := .manual, binding := .up, motion := .idle, position := some 8388607 } false none
    ∧ (-8388608 : Int) ≤ 8388607 ∧ (8388607 : Int) < 8388608 ∧ (-8388609 : Int) < -8388608
    ∧ ((axis3 { assignments := [⟨1, 0, 0⟩] }).axis 3).assignments ≠ [] ∧ (base.axis 3).duty = .auto
    ∧ ((axis3 { going .moving none with duty := .manual }).axis 3).profile ≠ none := by
  refine ⟨?_, ?_, ?_, ?_, ?_, ?_, ?_, ?_, ?_, ?_, ?_⟩ <;> first | decide +kernel | simp [manualBar]

/-! ### Chapter 3 -/

/-- A fill of the bottle 7, open or closing. -/
def fillOf (closing : Bool) : Fill := ⟨7, closing, 0⟩

/-- An axis with a fill under way in a motion state, at rest. -/
def filling (m : Motion) (closing : Bool) : Axis :=
  { motion := m, binding := .up, fill := some (fillOf closing), assignments := [⟨7, 4, 0⟩], position := some 9 }

/-- The same axis in motion. -/
def fillMoving (m : Motion) (speed : Nat) : Axis :=
  { filling m false with profile := some ⟨200, 2000, 20⟩, remaining := some 500, speed := speed }

theorem test_met_ArbiterGivesTheRecordInRotation :
    mayTake { motion := .idle, binding := .up } ∧ mayTake { filling .raising true with binding := .up }
    ∧ (∀ j : AxisNo, j < 3 → ¬ mayTake ((axis3 { motion := .idle, binding := .up }).axis ((axis3 {}).fmu.pointer + j)))
    ∧ (∀ k : AxisNo, ¬ mayTake (base.axis k)) ∧ running base := by
  unfold running mayTake; decide +kernel

theorem test_met_FillingRunsTheEffectiveDwell :
    ((axis3 (filling .filling false)).axis 3).fill = some (fillOf false)
    ∧ (∃ d, dwellOf base.cfg none base.cfg.recipes[(fillOf false).recipe] d)
    ∧ indexInUse base.cfg (some (-1)) 0 ∧ indexInUse base.cfg (some 0) 0 ∧ indexInUse base.cfg (some 639) 31
    ∧ indexInUse base.cfg (some 640) 31 ∧ indexInUse { base.cfg with trimMode := .pinned, pinnedIndex := 31 } (some 5) 31
    ∧ (10 : Int) = max 10 (10 + -500) := by
  refine ⟨by decide +kernel, ⟨500, 0, by decide, .inr (.inl ⟨rfl, rfl, rfl⟩), by decide +kernel⟩, ?_, ?_, ?_, ?_, .inl ⟨rfl, rfl⟩,
    by decide⟩
  all_goals exact .inr (.inr ⟨_, rfl, rfl, by decide⟩)

theorem test_met_PhaseEntriesHoldOrBegin :
    let held := { filling .armed false with holdList := [⟨2, .lowering⟩, ⟨1, .lowering⟩, ⟨0, .raising⟩] }
    ((axis3 held).axis 3).fill = some (fillOf false) ∧ ¬ ((fillOf false).closing = true ∧ FillPhase.lowering = .raising)
    ∧ holdsAt held 1 .lowering ∧ (∀ v : WatchNo, v < 1 → ¬ holdsAt held v .lowering)
    ∧ ((fillOf true).closing = true ∧ FillPhase.raising = .raising) ∧ (∀ w : WatchNo, ¬ holdsAt (filling .armed false) w .raising)
    ∧ (filling .raising false).motion = .raising ∧
    (filling .lowering false).motion = .lowering ∧ (filling .raising false).position = some 9 ∧ ({ filling .raising false with position := some 0 } : Axis).position = some 0 := by
  unfold holdsAt; decide +kernel

theorem test_met_FillSegmentsFollowOneAnother :
    let a := { filling .filling false with dwellEnd := some 5 }
    let m := { fillMoving .lowering 200000 with remaining := some 0 }
    running base ∧ a.dwellEnd = some 5 ∧ 5 ≤ (clocks { now := 5 }).tmu.now ∧ (clocks { now := 4 }).tmu.now < 5
    ∧ (filling .filling false).dwellEnd = none ∧ m.profile ≠ none ∧ m.remaining = some 0 ∧ m.motion = .lowering
    ∧ m.fill = some (fillOf false) ∧ m.duty = .auto
    ∧ ({ m with motion := .raising } : Axis).motion = .raising := by
  unfold running; decide +kernel

theorem test_met_every_early_end :
    let f := fillOf false
    let ends (a : Axis) : Prop := ∃ t, closes (axis3 a) 3 f t
    ends (fillMoving .lowering 2000000) ∧ ends (fillMoving .lowering 200000) ∧ ends (filling .lowering false)
    ∧ ends (filling .filling false) ∧ ends (fillMoving .raising 2000000) ∧ ends (filling .raising false) :=
  ⟨⟨_, .inl ⟨by decide +kernel, by decide +kernel, by decide +kernel, rfl⟩⟩,
    ⟨_, .inr (.inl ⟨by decide +kernel, by decide +kernel, by decide +kernel, by decide +kernel, rfl⟩)⟩,
    ⟨_, .inr (.inr (.inl ⟨by decide +kernel, by decide +kernel, rfl⟩))⟩,
    ⟨_, .inr (.inr (.inr (.inl ⟨by decide +kernel, rfl⟩)))⟩,
    ⟨_, .inr (.inr (.inr (.inr (.inl ⟨by decide +kernel, by decide +kernel, rfl⟩))))⟩,
    ⟨_, .inr (.inr (.inr (.inr (.inr ⟨by decide +kernel, by decide +kernel, rfl⟩))))⟩⟩

/-- The state in which axis 3 fills at the start pitch 4 with the window 6. -/
def late : State := axis3 { filling .filling false with dwellEnd := some 90 }

theorem test_met_WindowExpiryEndsTheFillLate :
    running late ∧ (late.axis 3).fill = some (fillOf false) ∧ (⟨7, 4, 0⟩ : Assignment) ∈ (late.axis 3).assignments
    ∧ (∀ y ∈ (late.axis 3).assignments, y.serial = 7 → y = ⟨7, 4, 0⟩)
    ∧ (4 : Pitch) + BitVec.ofNat 32 late.cfg.recipes[(0 : RecipeNo)].window = 10
    ∧ (∃ t, closes (sending (withAxis (late.received (.fillWindowExpiry 3 10)) 3 (without (late.axis 3) 7))
        [.fillReport 7 (.result .late)]) 3 (fillOf false) t)
    ∧ (base.axis 3).fill = none ∧ (filling .lowering true).fill = some (fillOf true)
    ∧ (∀ x ∈ ({ filling .filling false with assignments := [] } : Axis).assignments, x.serial ≠ 7)
    ∧ (late.axis 3).assignments.find? (fun y => y.serial == 7) = some ⟨7, 4, 0⟩
    ∧ (4 : Pitch) + BitVec.ofNat 32 late.cfg.recipes[(0 : RecipeNo)].window ≠ 11 := by
  refine ⟨rfl, ?_, ?_, ?_, ?_, ⟨_, .inr (.inr (.inr (.inl ⟨?_, rfl⟩)))⟩, ?_, ?_, ?_, ?_, ?_⟩
  all_goals decide +kernel

theorem test_met_PitchEventTakesEachAxisAlone :
    let a : Axis := { motion := .armed, binding := .up, assignments := [⟨7, 4, 0⟩, ⟨8, 9, 0⟩] }
    running base ∧ (∀ x ∈ a.assignments, x.startPitch ≠ 5) ∧ a.assignments = ⟨7, 4, 0⟩ :: [⟨8, 9, 0⟩] ∧ a.motion = .armed
    ∧ a.profile = none ∧ a.fill = none
    ∧ a.assignments = [⟨7, 4, 0⟩] ++ ⟨8, 9, 0⟩ :: [] ∧ (∀ y ∈ ([⟨7, 4, 0⟩] : List Assignment), y.startPitch ≠ 9)
    ∧ ((filling .raising true).motion ≠ .armed ∧ (filling .raising true).assignments = [] ++ ⟨7, 4, 0⟩ :: []) := by
  unfold running; decide +kernel

theorem test_met_HoldListChangesAndReleases :
    let a := { filling .lowering false with held := some 1, holdList := [⟨0, .raising⟩, ⟨1, .lowering⟩, ⟨2, .lowering⟩] }
    running (axis3 a) ∧ a.held ≠ some 0 ∧ a.held = some 1 ∧ a.motion = segmentMotion .lowering ∧ a.fill = some (fillOf false)
    ∧ (∃ t, consults (axis3 { a with excluded := 2 }) 3 .lowering (fillOf false) t)
    ∧ (∃ t, consults (axis3 { a with holdList := [⟨0, .raising⟩], excluded := 2 }) 3 .lowering (fillOf false) t) := by
  refine ⟨rfl, by decide, rfl, rfl, rfl, ⟨_, .inl ⟨2, ?_, ?_, rfl⟩⟩, ⟨_, .inr ⟨?_, rfl⟩⟩⟩ <;> unfold holdsAt <;> decide +kernel

theorem test_met_DeparturesClearsAndAccountsReachTheAxes :
    let b := { filling .lowering false with assignments := [⟨8, 9, 0⟩] }
    running base ∧ (∃ t, departs (axis3 (filling .lowering false)) 9 3 t) ∧ (∃ t, departs (axis3 b) 8 3 t)
    ∧ (∃ t, departs (axis3 (filling .lowering false)) 7 3 t)
    ∧ (∃ t, clears (axis3 (filling .lowering false)) 3 t) ∧ (∃ t, clears (axis3 (filling .lowering true)) 3 t)
    ∧ (base.axis 3).retire = .inService ∧ ((axis3 { retire := .retired }).axis 3).retire ≠ .inService := by
  refine ⟨rfl, ⟨_, .inl ⟨by decide +kernel, rfl⟩⟩, ⟨_, .inr (.inl ⟨by decide +kernel, ?_, rfl⟩)⟩,
    ⟨_, .inr (.inr ⟨fillOf false, by decide +kernel, by decide +kernel, rfl, .inr (.inr (.inl ⟨?_, ?_, rfl⟩))⟩)⟩,
    ⟨_, .inr ⟨fillOf false, by decide +kernel, rfl, .inr (.inr (.inl ⟨?_, ?_, rfl⟩))⟩⟩, ⟨_, .inl ⟨?_, rfl⟩⟩, by decide +kernel,
    by decide +kernel⟩
  all_goals decide +kernel

theorem test_met_RecipesTrimsAndTemperature :
    let low : RecipeValues := ⟨1, 10, 10, 1, 10, 0, 1, 0⟩
    let high : RecipeValues := ⟨2000000, 10000, 100000, 10000, 10000, 1, 32, 63⟩
    recipeFits low ∧ recipeFits high ∧ ¬ recipeFits { high with window := 33 }
    ∧ running (access { level := 2 }) ∧ 2 ≤ (access { level := 2 }).acu.level ∧ 1 ≤ (access { level := 1 }).acu.level
    ∧ (∃ x ∈ (line (atL (ripe .ok .ok none))).ltr.track, x.recipe = 0) ∧ (∀ x ∈ base.ltr.track, x.recipe ≠ 15)
    ∧ (-201 : Int) < -200 ∧ (-200 : Int) ≤ 1000
    ∧ base.fmu.temperatureDeadline ≤ base.tmu.now
    ∧ base.tmu.now < ({ base with fmu := { temperatureDeadline := 1 } } : State).fmu.temperatureDeadline
    ∧ (1 ≤ [(500 : Int)].length ∧ 31 + [(500 : Int)].length ≤ 32 ∧ ∀ t ∈ [(500 : Int)], -500 ≤ t ∧ t ≤ 500)
    ∧ ¬ (∀ t ∈ [(-501 : Int)], -500 ≤ t ∧ t ≤ 500) := by
  unfold running recipeFits; decide +kernel

theorem test_met_trim_index : (∀ i, some 31 = some i → i ≤ 31) ∧ (∀ i, (none : Option Nat) = some i → i ≤ 31)
    ∧ (∃ i, some 32 = some i ∧ 32 ≤ i) :=
  ⟨fun _ h => by injection h with h; omega, nofun, 32, rfl, by decide⟩

/-! ### Chapter 4 -/

/-- A camera with two pending entries, one of a test. -/
def busyCamera (st : CameraState) : Camera :=
  { state := st, binding := .up, pending := [⟨some 7, 2, 20, some 24, none⟩, ⟨none, 3, 20, none, none⟩], nextTag := 0
    scheduled := some ⟨8, 21⟩, testGrant := if st = .test then some 1 else none }

/-- Its stale tags once both entries are resolved. -/
theorem test_met_stale_tags : staleWith (busyCamera .ready) (busyCamera .ready).pending 12
    ∧ staleWith (busyCamera .ready) ((busyCamera .ready).pending.filter fun e => e.expiryPitch == some 24) 4
    ∧ staleWith (busyCamera .test) ((busyCamera .test).pending.filter fun e => e.serial.isNone) 8
    ∧ staleWith {} [] 0 := by
  unfold staleWith; decide +kernel

theorem test_met_LineTriggerTakesTheFirstCase :
    let c := { busyCamera .ready with scheduled := none }
    ((camera2 (busyCamera .ready)).camera 2).scheduled = some ⟨8, 21⟩ ∧ inRange c 5 ∧ tagFree c
    ∧ ¬ tagFree { c with nextTag := 2 } ∧ ¬ tagFree { c with stale := 1 } ∧ base.inputs.cflt.getLsbD (2 : CameraNo) = false
    ∧ ({ base with inputs := { cflt := 4 } } : State).inputs.cflt.getLsbD (2 : CameraNo) = true := by
  unfold tagFree inRange; decide +kernel

theorem test_met_PitchEventExpiresSchedulesTriggers :
    let c := busyCamera .ready
    let stands (a : Announced) : Prop := a.position = 24 ∧ (63 : CameraSet).getLsbD (2 : CameraNo) = true
    running base ∧ (c.pending.filter fun e => e.expiryPitch == some 24) ≠ [] ∧ inRange c 3
    ∧ (c.pending.filter fun e => e.expiryPitch == some 25) = [] ∧ ({} : Camera).scheduled = none
    ∧ base.cfg.cameras[(2 : CameraNo)].pitchOffset = 24
    ∧ stands ⟨9, 24, 0⟩ ∧ (∀ b ∈ ([⟨8, 23, 0⟩] : List Announced), ¬ stands b) := by
  unfold running inRange; decide +kernel

theorem test_met_VerdictArrivalsResolveByTag :
    let c := busyCamera .faulted
    let e : PendingEntry := ⟨some 7, 2, 20, some 24, none⟩
    let x : PendingEntry := ⟨none, 3, 20, none, none⟩
    running base ∧ c.pending = [] ++ e :: [x] ∧ c.pending = [e] ++ x :: [] ∧ e.tag = 2 ∧ (∀ y ∈ [] ++ [x], y.tag ≠ 2) ∧ e.serial = some 7
    ∧ x.tag = 3 ∧ (∀ y ∈ [e] ++ [], y.tag ≠ 3) ∧ x.serial = none
    ∧ (∀ y ∈ c.pending, y.tag ≠ 1) ∧ c.stale.getLsbD 1 = false ∧ ({ c with stale := 2 } : Camera).stale.getLsbD 1 = true
    ∧ ({ trigEnd := some 20 } : Camera).trigEnd = some 20 ∧ 20 ≤ (clocks { now := 20 }).tmu.now ∧ (clocks { now := 19 }).tmu.now < 20
    ∧ c.trigEnd = none := by
  unfold running; decide +kernel

theorem test_met_BindingsDeparturesAndClosingsAtTheCameras :
    running base ∧ ({} : Camera).binding = .down ∧ (busyCamera .ready).binding = .up ∧ (busyCamera .ready).state ≠ .offline
    ∧ ((camera2 (busyCamera .test)).camera 2).state = .test := by
  unfold running; decide +kernel

theorem test_met_CameraRequestsAndTheirMembers :
    let c := busyCamera .test
    (c.state = .test ∧ c.testGrant = some 1) ∧ c.testGrant ≠ some 2 ∧ tagFree c ∧ inRange c 5
    ∧ ¬ tagFree { c with nextTag := 3 } ∧ (busyCamera .ready).binding = .up ∧ ({} : Camera).state = .offline
    ∧ base.inputs.cflt.getLsbD (2 : CameraNo) = false
    ∧ ¬ ((63 : CameraSet) = 0 ∨ (64#8 : CameraSet) ≤ 63) ∧ (64#8 : CameraSet) ≤ 64 ∧ base.acu.level = 0
    ∧ 1 ≤ (access { level := 1 }).acu.level ∧ ¬ (255 = 0 ∨ 256 ≤ 255) ∧ ¬ (1 = 0 ∨ 256 ≤ 1) ∧ running base := by
  unfold running tagFree inRange; decide +kernel
/-! ### Chapter 5 -/

/-- A station on port index 1. -/
def station (a : Address) (kind : StationKind) (role : Role) (st : StationState) : Station := ⟨a, 1, kind, role, st, none, none, none⟩

/-- A learned stranger. -/
def learned (a : Address) (st : StationState) : Option Station := some (station a .learned .unknown st)

/-- The switch with the four ways of set 1 and its victim counter given. -/
def table1 (w0 w1 w2 w3 : Option Station) (victim : Fin 4) : State :=
  switch { table := (Vector.replicate 16 {}).set 1 ⟨#v[w0, w1, w2, w3], victim⟩ }

/-- The state with a number of forgets of other addresses. -/
def withForgets (s : State) (n : Nat) : State :=
  { s with sws := { s.sws with forgets := (List.range n).map fun i => ⟨BitVec.ofNat 48 (0x1000 + i), 0, .evict, none, 0⟩ } }

/-- What holds of every way of a set holds of every entry in it. -/
theorem in_way {o : Option Station} {p : Station → Bool} (h : o.all p = true) {e : Station} (he : o = some e) : p e = true := by
  subst he; exact h

theorem standsIn_of {s : State} {a : Address} {w : Fin 4} {e : Station} (h : s.sws.table[setFor a].ways[w] = some e)
    (ha : e.address = a) (ho : ∀ v : Fin 4, v ≠ w → (s.sws.table[setFor a].ways[v]).all (fun x => x.address != a) = true) :
    standsIn s a w e :=
  ⟨h, ha, fun v _ hv hx => by simpa using in_way (ho v hv) hx⟩

theorem misses_of {s : State} {a : Address}
    (ho : ∀ v : Fin 4, (s.sws.table[setFor a].ways[v]).all (fun x => x.address != a) = true) : misses s a :=
  fun v _ hx => by simpa using in_way (ho v) hx

/-- A full set: way 2 pinned, way 3 FLUSHING, way 0 in a state given, the victim counter at 2. -/
def fullSet (st : StationState) : State :=
  table1 (learned 0x111 st) (learned 0x121 .admitted) (some (station 0x131 .pinned .panel .admitted)) (learned 0x141 .flushing) 2

theorem test_met_standsIn : standsIn (fullSet .admitted) 0x111 0 (station 0x111 .learned .unknown .admitted)
    ∧ standsIn (fullSet .admitted) 0x131 2 (station 0x131 .pinned .panel .admitted)
    ∧ standsIn (fullSet .admitted) 0x141 3 (station 0x141 .learned .unknown .flushing)
    ∧ misses (fullSet .admitted) 0x151 ∧ misses base 0x111 :=
  ⟨standsIn_of (by decide +kernel) (by decide) (by decide +kernel), standsIn_of (by decide +kernel) (by decide) (by decide +kernel),
    standsIn_of (by decide +kernel) (by decide) (by decide +kernel), misses_of (by decide +kernel), misses_of (by decide +kernel)⟩

theorem test_met_victimIs (st : StationState) (h : st ≠ .flushing) :
    victimIs (fullSet st) 1 0 (station 0x111 .learned .unknown st)
    ∧ victimIs (withForgets (fullSet st) 16) 1 0 (station 0x111 .learned .unknown st) := by
  refine ⟨⟨?_, 2, ?_, ?_, ?_, ?_⟩, ⟨?_, 2, ?_, ?_, ?_, ?_⟩⟩
  case refine_4 | refine_9 =>
    rintro (h' | h')
    · cases h'
    · exact h h'
  case refine_5 | refine_10 =>
    intro j hj
    match j, hj with
    | 0, _ => exact ⟨station 0x131 .pinned .panel .admitted, by cases st <;> decide +kernel, .inl rfl⟩
    | 1, _ => exact ⟨station 0x141 .learned .unknown .flushing, by cases st <;> decide +kernel, .inr rfl⟩
  all_goals cases st <;> decide +kernel

theorem test_met_makesPlace : (∃ t, makesPlace base 1 0 t) ∧ (∃ t, makesPlace (table1 (learned 0x111 .admitted) none none none 0) 1 1 t)
    ∧ (∃ t, makesPlace (fullSet .quarantined) 1 0 t) ∧ ∃ t, makesPlace (fullSet .admitted) 1 0 t :=
  ⟨⟨_, .inl ⟨by decide +kernel, by decide +kernel, rfl⟩⟩, ⟨_, .inl ⟨by decide +kernel, by decide +kernel, rfl⟩⟩,
    ⟨_, .inr ⟨_, (test_met_victimIs .quarantined (by decide)).1, .inl ⟨rfl, rfl⟩⟩⟩,
    ⟨_, .inr ⟨_, (test_met_victimIs .admitted (by decide)).1, .inr ⟨rfl, by decide +kernel, rfl⟩⟩⟩⟩

/-- A set whose four ways are all pinned or FLUSHING. -/
def stuckSet : State :=
  table1 (learned 0x111 .flushing) (learned 0x121 .flushing) (some (station 0x131 .pinned .panel .admitted)) (learned 0x141 .flushing) 2

theorem test_met_noVictim : noVictim stuckSet 1 := by
  intro w
  match w with
  | 0 => exact ⟨_, rfl, .inr rfl⟩
  | 1 => exact ⟨_, rfl, .inr rfl⟩
  | 2 => exact ⟨_, rfl, .inl rfl⟩
  | 3 => exact ⟨_, rfl, .inr rfl⟩

/-- Every state has bindings recomputed. -/
theorem test_met_rebinds (s : State) : ∃ t, rebinds s t := by
  classical
  refine ⟨_, Vector.ofFn fun k => if bindsUp s.sws (.drive k) then .up else .down,
    Vector.ofFn fun k => if bindsUp s.sws (.camera k) then .up else .down, ?_, ?_, rfl⟩ <;>
  intro k <;> simp only [Fin.getElem_fin, Vector.getElem_ofFn] <;> split <;> simp_all

theorem test_met_stationDone (s : State) : ∃ u, stationDone s u :=
  (test_met_rebinds _).elim fun t ht => ⟨_, t, ht, rfl⟩

theorem test_met_QueriesQueueAndBadFramesCount : awake base ∧ portIs 8 7 ∧ portIs 1 0
    ∧ (switch { queries := List.replicate 7 ⟨1, 0, 0⟩ }).sws.queries.length < 8
    ∧ 8 ≤ (switch { queries := List.replicate 8 ⟨1, 0, 0⟩ }).sws.queries.length
    ∧ ((frameParts [0, 0x11, 7, 0, 0, 0]).map fun f => f.checkPasses) = some false
    ∧ ((frameParts (((frameBytes 9 0 0 []).getD []).tail)).map fun f => (f.checkPasses, switchCommand f)) = some (true, none)
    ∧ State.reset.phase = .held := by
  unfold awake portIs; decide +kernel

/-- A part whose first setting is due, with camera 2 bound by a pinned entry on a port that is up. -/
def settable : State := switch {
  reported := 255, ports := (Vector.replicate 8 {}).set 1 { link := .up }
  table := (Vector.replicate 16 {}).set 1 ⟨#v[some (station 0x111 .pinned (.camera 2) .admitted), none, none, none], 0⟩ }

theorem test_first_setting_readies_the_camera_bound : ((next? (exec .firstSetting settable)).map fun t =>
    (t.sws.firstDone, (t.camera 2).state, (t.camera 1).state, t.lnk.notices.map (fun p => p.notice)))
    = some (true, .ready, .offline, [.cameraState 2 .offline .ready .bindingSet]) := by
  decide +kernel

theorem test_met_BindingsFollowLinksAndTheFirstSetting : awake base ∧ base.sws.ports[(7 : PortIx)].link ≠ .up
    ∧ base.sws.ports[(7 : PortIx)].link = .down ∧ portIs 1 0 ∧ portIs 8 7 ∧ (0 = 0 ∨ 9 ≤ 0) ∧ (9 = 0 ∨ 9 ≤ 9) ∧ State.reset.phase = .held
    ∧ errorStateFor 6 5 6 = .warn ∧ errorStateFor 7 5 6 = .alarm ∧ errorStateFor 5 5 0 = .normal
    ∧ (settable.sws.firstDone = false ∧ settable.sws.reported = 0xFF#8) ∧ (settable.ctu.cameras[(2 : CameraNo)]).state ≠ .ready
    ∧ (5 ≠ 0 ∧ 5 < 6) ∧ ¬ (6 ≠ 0 ∧ 6 < 6)
    ∧ (base.sws.firstDone = false ∧ (switch { reported := 255 }).sws.reported = 0xFF#8)
    ∧ (switch { forgetAllAt := some 0 }).sws.forgetAllAt = some 0 ∧ 0 + 2000000 ≤ (clocks { now := 2000000 }).tmu.now
    ∧ base.sws.reported ≠ 0xFF#8 :=
  ⟨nofun, by decide +kernel, by decide +kernel, rfl, rfl, by decide, by decide, by decide +kernel, by decide, by decide, by decide,
    by decide +kernel, by decide +kernel, by decide, by decide, by decide +kernel, rfl, by decide +kernel, by decide +kernel⟩

theorem test_met_QueriesAreAnsweredAndLearned :
    running base ∧ base.sws.queries = [] ∧ (switch { queries := [⟨0x111, 1, 9⟩] }).sws.queries = [⟨0x111, 1, 9⟩]
    ∧ deniedFirst base ⟨0, 1, 9⟩ ∧ deniedFirst base ⟨BitVec.allOnes 48, 1, 9⟩ ∧ deniedFirst (withForgets base 1) ⟨0x1000, 1, 9⟩
    ∧ ¬ deniedFirst (fullSet .admitted) ⟨0x111, 1, 9⟩ ∧ ¬ deniedFirst (fullSet .admitted) ⟨0x151, 1, 9⟩
    ∧ (station 0x111 .learned .unknown .admitted).port = 1 ∧ (station 0x111 .learned .unknown .admitted).port ≠ 2
    ∧ base.cfg.ports[(1 : PortIx)].policy = .locked ∧ base.terminalCount 7 < 4
    ∧ (withForgets base 16).sws.forgets.length = 16 ∧ (withForgets base 15).sws.forgets.length = 15 := by
  unfold running deniedFirst forgotten; decide +kernel

/-- A part with one forget of an address. -/
def forgetting (sentAt : RunTime) (s : State) : State :=
  { s with sws := { s.sws with forgets := [⟨0x141, 1, .evict, some 3, sentAt⟩] } }

theorem test_met_ForgetsResolveByDoneOrExpiry :
    ¬ forgotten base 0x141 ∧ (forgetting 0 base).sws.forgets = [] ++ ⟨0x141, 1, .evict, some 3, 0⟩ :: []
    ∧ (∃ t, endsFlushing (fullSet .admitted) 0x141 (fun _ => none) t) ∧ (∃ t, endsFlushing base 0x141 (fun _ => none) t)
    ∧ (clocks { now := 1999999 }).tmu.now < 0 + 2000000 ∧ 0 + 2000000 ≤ (clocks { now := 2000000 }).tmu.now := by
  refine ⟨by unfold forgotten; decide +kernel, rfl, ⟨_, .inl ⟨3, _, test_met_standsIn.2.2.1, rfl, rfl⟩⟩,
    ⟨_, .inr ⟨fun w e h ha => absurd ha (misses_of (by decide +kernel) w e h), rfl⟩⟩, by decide +kernel, by decide +kernel⟩

/-- A state with the policy of the port of index 1 given. -/
def withPolicy (s : State) (new : Policy) : State :=
  { s with cfg := { s.cfg with ports := s.cfg.ports.set 1 ⟨new, 0, 0⟩ }, acu := { level := 2 } }

theorem test_leaving_LEARN_forgets_the_strangers : ((next? (exec (.portConfig 2 0 0 0) (withPolicy (fullSet .admitted) .learn))).map
    fun t => (t.sws.sent, t.sws.forgets.map (fun f => (f.address, f.reason)), t.sst.dirty))
    = some ([⟨0, .forget 0x111⟩, ⟨1, .forget 0x121⟩], [(0x111, .policyChange), (0x121, .policyChange)], true) := by
  decide +kernel

theorem test_met_PortsAreConfiguredAndUnblocked :
    policyCode .service = 2 ∧ (withPolicy base .service).cfg.ports[(1 : PortIx)].policy = .service
    ∧ (withPolicy (fullSet .admitted) .learn).cfg.ports[(1 : PortIx)].policy = .learn
    ∧ (withPolicy base .locked).cfg.ports[(1 : PortIx)].policy ≠ .learn
    ∧
    thresholdsFit 65535 0 ∧ thresholdsFit 5 5 ∧ ¬ thresholdsFit 6 5 ∧ ¬ thresholdsFit 65536 0 ∧ portIs 8 7
    ∧ (switch { ports := (Vector.replicate 8 {}).set 7 { service := some (3, .opened) } }).sws.ports[(7 : PortIx)].service ≠ none
    ∧ strangers (fullSet .admitted) 1 ≠ []
    ∧ 16 < (withForgets (fullSet .admitted) 15).sws.forgets.length + (strangers (fullSet .admitted) 1).length
    ∧ ¬ 16 < (withForgets (fullSet .admitted) 14).sws.forgets.length + (strangers (fullSet .admitted) 1).length
    ∧ (switch { ports := (Vector.replicate 8 {}).set 7 { blocked := true } }).sws.ports[(7 : PortIx)].blocked = true
    ∧ base.sws.ports[(7 : PortIx)].blocked = false ∧ 2 ≤ (access { level := 2 }).acu.level := by
  unfold thresholdsFit portIs; decide +kernel

theorem test_met_StationPinByItsTable :
    pinRole 0 (some 7) (.drive 7) ∧ pinRole 1 (some 5) (.camera 5) ∧ pinRole 2 none .panel ∧ pinRole 3 none .other
    ∧ (∀ r, ¬ pinRole 1 (some 6) r) ∧ (∀ r, ¬ pinRole 2 (some 0) r) ∧ forgotten (withForgets base 1) 0x1000
    ∧ ¬ boundByAnother base 0x111 (.drive 7)
    ∧ boundByAnother (table1 (some (station 0x121 .pinned (.drive 7) .admitted)) none none none 0) 0x111 (.drive 7)
    ∧ ((0x111 : Address) ≠ 0 ∧ (0x111 : Address) ≠ BitVec.allOnes 48) := by
  refine ⟨.inl ⟨7, rfl, rfl, rfl⟩, .inr (.inl ⟨5, rfl, rfl, rfl⟩), .inr (.inr (.inl ⟨rfl, rfl, rfl⟩)),
    .inr (.inr (.inr ⟨rfl, rfl, rfl⟩)), ?_, ?_, by unfold forgotten; decide +kernel, ?_,
    ⟨by decide, by decide, 1, 0, _, rfl, rfl, by decide⟩, by decide⟩
  · rintro r (⟨k, h, _⟩ | ⟨k, _, h, _⟩ | ⟨h, _⟩ | ⟨h, _⟩)
    · omega
    · have := k.isLt; injection h; omega
    · omega
    · omega
  · rintro r (⟨k, h, _⟩ | ⟨k, h, _⟩ | ⟨_, h, _⟩ | ⟨h, _⟩)
    · omega
    · omega
    · cases h
    · omega
  · rintro ⟨_, _, n, w, e, h, _⟩
    have hn : ∀ (n : Fin 16) (w : Fin 4), base.sws.table[n].ways[w] = none := by decide +kernel
    rw [hn n w] at h; cases h

theorem test_met_PinnedStationsLeaveAndReturn :
    (station 0x131 .pinned .panel .admitted).state = .admitted ∧ 16 ≤ (withForgets base 16).sws.forgets.length
    ∧ ¬ 16 ≤ (withForgets base 15).sws.forgets.length
    ∧ standsIn (table1 none (some (station 0x131 .pinned .panel .quarantined)) none none 0) 0x131 1
        (station 0x131 .pinned .panel .quarantined) :=
  ⟨rfl, by decide +kernel, by decide +kernel, standsIn_of (by decide +kernel) (by decide) (by decide +kernel)⟩

theorem test_met_StationFlushHandlesItsScope :
    (∃ (n : Fin 16) (w : Fin 4) (e : Station), (fullSet .admitted).sws.table[n].ways[w] = some e
      ∧ (e.kind == .learned) = true ∧ e.state = .admitted)
    ∧ (∀ (n : Fin 16) (w : Fin 4), base.sws.table[n].ways[w] = none) ∧ portIs 8 7
    ∧ (fullSet .admitted).sws.table[(1 : Fin 16)].ways[(3 : Fin 4)] = learned 0x141 .flushing := by
  refine ⟨⟨1, 0, _, rfl, rfl, rfl⟩, ?_, ?_, ?_⟩ <;> first | decide +kernel | rfl

/-- A part with a terminal of grant 3 and one of grant 4 admitted, and grant 3 OPEN on the port of index 1. -/
def serving : State := switch {
  ports := (Vector.replicate 8 {}).set 1 { service := some (3, .opened) }
  table := (Vector.replicate 16 {}).set 1 ⟨#v[some { station 0x111 .learned .serviceTerminal .admitted with grant := some 3 },
    some { station 0x121 .learned .serviceTerminal .admitted with grant := some 4 }, none, none], 0⟩ }

theorem test_met_GrantsAtTheSwitch : running serving ∧ servesGrant serving 3 1 = true ∧ servesGrant serving 4 1 = false
    ∧ (terminals serving 3).map (fun e => e.address) = [0x111] ∧ terminals serving 5 = [] ∧ (2 : PortSet).getLsbD (1 : PortIx) = true := by
  unfold running; decide +kernel

theorem test_closing_start_forgets_the_terminals : ((next? (exec (.swsGrantClosingStart 3) serving)).map fun t =>
    (t.sws.sent, t.sws.ports[1].service, t.sws.table[1].ways.toList.map fun e => e.map fun e => e.state))
    = some ([⟨0, .forget 0x111⟩], some (3, .closing), [some .flushing, some .admitted, none, none]) := by
  decide +kernel
/-! ### Chapters 6 and 7 -/

/-- A grant with an id, a level, a state and sets given. -/
def grant (id level : Nat) (st : GrantState) (axes : AxisSet) : Grant := {
  id := id, level := level, axes := axes, cameras := 4, ports := 2, gate := true, openedAt := 0, expiresAt := 60000000, state := st
  terminals := 0, closeCause := if st = .closing then some .request else none, closeResult := .clean, forgetsExpired := 0
  forgetsOutstanding := none, axesInMotion := none }

/-- The part with one grant in slot 1 and a level given. -/
def granted (level : Nat) (g : Grant) : State := access { level := level, grants := #v[none, some g, none, none] }

theorem holdsGrant_of {level : Nat} (g : Grant) : holdsGrant (granted level g) g.id 1 g := by
  refine ⟨rfl, rfl, fun i h hi he => ?_⟩
  match i, hi with
  | 0, _ => cases he
  | 2, _ => cases he
  | 3, _ => cases he

theorem freeOf_base (id : Nat) : freeOf base id := by
  intro i g h
  have hn : ∀ i : Fin 4, base.acu.grants[i] = none := by decide +kernel
  rw [hn i] at h; cases h

theorem test_met_LevelsFollowThePasscodes :
    mayName 1 ∧ mayName 2 ∧ ¬ mayName 3 ∧ codeFits (List.replicate 4 1) ∧ codeFits (List.replicate 16 1) ∧ ¬ codeFits [1, 2, 3]
    ∧ (access { lockoutEnd := some 5 }).acu.lockoutEnd ≠ none ∧ base.acu.lockoutEnd = none ∧ codeOf base 1 = none
    ∧ codeOf { base with cfg := { Settings.defaults with passcode2 := some [1, 2, 3, 4] } } 2 = some [1, 2, 3, 4]
    ∧ (access { failures := 1 }).acu.failures < 2 ∧ 2 ≤ (access { failures := 2 }).acu.failures
    ∧ base.inputs.setup = false ∧ ({ base with inputs := { setup := true } } : State).inputs.setup = true
    ∧ 5 ≤ (clocks { now := 5 }).tmu.now ∧ base.tmu.now < 5 ∧ base.acu.idleDeadline ≤ base.tmu.now ∧ 0 < (access { level := 1 }).acu.level
    ∧ base.tmu.now < (access { idleDeadline := 1 }).acu.idleDeadline ∧ (∀ x, (none : Option (List Byte)) = some x → codeFits x) := by
  refine ⟨.inl rfl, .inr rfl, nofun, ⟨?_, ?_⟩, ⟨?_, ?_⟩, ?_, nofun, rfl, rfl, rfl, ?_, ?_, rfl, rfl, ?_, ?_, ?_, ?_, ?_, nofun⟩
  all_goals first | decide +kernel | (rintro ⟨h, _⟩; revert h; decide)

theorem test_met_RequestsBelowTheirLevelAreRefused : needsLevel .lineClear 1 ∧ needsLevel (.portConfig 1 0 0 0) 2
    ∧ needsLevel (.stationFlush .all) 2 ∧ needsLevel (.faultAck []) 1 ∧ base.acu.level < 1 ∧ (access { level := 1 }).acu.level < 2 :=
  ⟨rfl, rfl, rfl, rfl, by decide +kernel, by decide +kernel⟩

theorem test_met_GrantsOpenAndExtendByTheirTables :
    grantFits 2 0 63 0 0 480 ∧ grantFits 1 0 0 0 1 1 ∧ ¬ grantFits 1 0 0 0 0 1 ∧ ¬ grantFits 1 1 0 0 0 481
    ∧ (∀ i : Fin 4, (access { grants := Vector.replicate 4 (some (grant 3 1 .opened 8)) }).acu.grants[i] ≠ none)
    ∧ scopeTaken (granted 2 (grant 3 1 .closing 8)) 8 0 0 0 ∧ ¬ scopeTaken base 255 63 255 1
    ∧ ((2 : PortSet).getLsbD (1 : PortIx) = true ∧ base.cfg.ports[(1 : PortIx)].policy ≠ .service)
    ∧ nextId base 1 ∧ nextId (granted 2 (grant 1 1 .opened 8)) 2 ∧ base.acu.grantCounter ≤ 255
    ∧ freeOf base 3 ∧ holdsGrant (granted 2 (grant 255 2 .opened 8)) 255 1 (grant 255 2 .opened 8)
    ∧ 60000000 + 479 * 60000000 ≤ 0 + 28800000000 ∧ 0 + 28800000000 < 60000000 + 480 * 60000000 := by
  refine ⟨?_, ?_, ?_, ?_, ?_, ⟨1, _, rfl, .inl (by decide)⟩, ?_, ?_, ⟨0, rfl, freeOf_base _, nofun⟩, ⟨1, rfl, ?_, ?_⟩, ?_, freeOf_base _,
    holdsGrant_of _, ?_, ?_⟩
  case refine_6 =>
    rintro ⟨i, g, h, _⟩
    have hn : ∀ i : Fin 4, base.acu.grants[i] = none := by decide +kernel
    rw [hn i] at h; cases h
  case refine_8 =>
    intro i g h he
    match i with
    | 0 => cases h
    | 1 => cases h; revert he; decide
    | 2 => cases h
    | 3 => cases h
  case refine_9 =>
    intro j hj hf
    match j, hj with
    | 0, _ => exact hf 1 _ rfl rfl
  all_goals first | decide +kernel | (unfold grantFits mayName; decide)

theorem test_met_ClosingsStartAndReachTheAxes :
    holdsGrant (granted 0 (grant 1 2 .opened 8)) 1 1 (grant 1 2 .opened 8)
    ∧ (grant 1 2 .opened 8).expiresAt ≤ (clocks { now := 60000000 }).tmu.now ∧ base.tmu.now < (grant 1 2 .opened 8).expiresAt
    ∧ (access { watches := #v[some { kind := .station 5, action := .notice, scope := .localTo 3, enabled := true }, none, none,
        none] }).acu.watches[(0 : WatchNo)]
      = some { kind := .station 5, action := .notice, scope := .localTo 3, enabled := true }
    ∧ (let a (m : Motion) (speed : Nat) : State := axis3 { going m (some 500) with duty := .manual, speed := speed }
      let closed (s : State) : Prop := ∃ t, closesAxis s 3 t
      closed base ∧ closed (axis3 { duty := .manual, valveTestEnd := some 5 }) ∧ closed (a .moving 2000000)
      ∧ closed (a .homing 200000) ∧ closed (axis3 { duty := .manual, motion := .stopped })) :=
  ⟨holdsGrant_of _, by decide +kernel, by decide +kernel, rfl,
    ⟨_, .inl ⟨by decide +kernel, rfl⟩⟩, ⟨_, .inr (.inl ⟨by decide +kernel, by decide +kernel, rfl⟩)⟩,
    ⟨_, .inr (.inr (.inl ⟨by decide +kernel, by decide +kernel, by decide +kernel, by decide +kernel, by decide +kernel, rfl⟩))⟩,
    ⟨_, .inr (.inr (.inr (.inl
      ⟨by decide +kernel, by decide +kernel, by decide +kernel, by decide +kernel, by decide +kernel, rfl⟩)))⟩,
    ⟨_, .inr (.inr (.inr (.inr ⟨by decide +kernel, by decide +kernel, by decide +kernel, rfl⟩)))⟩⟩

theorem test_met_ClosingReportsMoveTheGrantToItsCompletion :
    let g := grant 3 1 .closing 8
    let met (r : GrantReport) : Prop := reaches g r ∧ ∃ g', reported g r g'
    met (.axesInMotion 3 8) ∧ met (.homingStarted 3) ∧ met (.atRest 3 .stopped) ∧ met (.closingForgets 3 1) ∧ met (.resolvedDone 3 0)
    ∧ met (.resolvedExpired 3 0) ∧ met (.terminals 3 4) ∧ ¬ reaches g (.atRest 4 .stopped)
    ∧ (∃ g', reported { g with forgetsOutstanding := some 0 } (.axesInMotion 3 0) g' ∧ g'.state = .closing
      ∧ g'.axesInMotion = some 0 ∧ g'.forgetsOutstanding = some 0 ∧ g'.closeCause = some .request) :=
  ⟨⟨rfl, _, .inl ⟨3, 8, rfl, rfl, rfl⟩⟩, ⟨⟨rfl, by decide⟩, _, .inr (.inl ⟨3, rfl, rfl⟩)⟩,
    ⟨⟨rfl, by decide⟩, _, .inr (.inr (.inl ⟨3, _, rfl, rfl⟩))⟩, ⟨rfl, _, .inr (.inr (.inr (.inl ⟨3, 1, rfl, rfl, rfl⟩)))⟩,
    ⟨rfl, _, .inr (.inr (.inr (.inr (.inl ⟨3, 0, rfl, rfl⟩))))⟩, ⟨rfl, _, .inr (.inr (.inr (.inr (.inr (.inl ⟨3, 0, rfl, rfl⟩)))))⟩,
    ⟨rfl, _, .inr (.inr (.inr (.inr (.inr (.inr ⟨3, 4, rfl, rfl⟩)))))⟩, fun h => absurd h.2 (by decide),
    ⟨_, .inl ⟨3, 0, rfl, rfl, rfl⟩, rfl, rfl, rfl, rfl⟩⟩

theorem test_met_GrantChecksAndAccountResets :
    numberOf (.axis 7) = 7 ∧ numberOf (.camera 0) = 8 ∧ numberOf .gate = 14 ∧ coversUnit (grant 3 2 .opened 8) (.axis 3)
    ∧ ¬ coversUnit (grant 3 2 .opened 8) (.axis 4) ∧ coversUnit (grant 3 1 .closing 8) .gate
    ∧ holdsGrant (granted 0 (grant 3 2 .opened 8)) 3 1 (grant 3 2 .opened 8) ∧ freeOf base 3 :=
  ⟨rfl, rfl, rfl, rfl, nofun, rfl, holdsGrant_of _, freeOf_base _⟩

/-- A watch that is set and enabled. -/
def watch (kind : WatchKind) (action : WatchAction) (scope : WatchScope) : Watch :=
  { kind := kind, action := action, scope := scope, enabled := true }

/-- The part with watch 0 given. -/
def watched (x : Watch) : State := access { level := 2, watches := #v[some x, none, none, none] }

/-- Every watch can be dropped. -/
theorem test_met_drops (s : State) (w : WatchNo) : ∃ t, drops s w t := by
  cases h : s.acu.watches[w] with
  | none => exact ⟨s, .inl ⟨h, rfl⟩⟩
  | some x => exact ⟨_, .inr ⟨x, h, rfl⟩⟩

theorem test_met_WatchesAreSetClearedAndAcknowledged :
    settingOf (.serial 4294967295 2) 3 0 0 1 (watch (.serial 4294967295 (.camera 0)) .withdraw .global)
    ∧ settingOf (.axisPhase 7 2) 2 1 255 1 (watch (.axisPhase 7 (.fill .raising)) .hold (.localTo 255))
    ∧ settingOf (.cameraNg 5 15) 1 0 0 1 (watch (.cameraNg 5 15) .sample .global)
    ∧ settingOf (.station 0) 0 0 0 1 (watch (.station 0) .notice .global)
    ∧ watchCheck base .global none (some .level) ∧ watchCheck (access { level := 2 }) .global none none
    ∧ watchCheck base (.localTo 3) none (some .noGrant)
    ∧ watchCheck (granted 0 (grant 3 1 .opened 8)) (.localTo 3) (some 3) none
    ∧ watchCheck (granted 0 (grant 3 1 .opened 8)) (.localTo 3) (some 4) (some .noGrant)
    ∧ watchCheck (granted 0 (grant 3 1 .closing 8)) (.localTo 3) none (some .state)
    ∧ keptFrom base 3 (watch (.station 0) .notice .global) ∧ ¬ keptFrom base 3 (watch (.station 0) .notice (.localTo 3))
    ∧ ¬ keptFrom base 3 (watch (.station 0) .notice (.localTo 4)) ∧ scopeNames 0 0 .global ∧ scopeNames 1 255 (.localTo 255)
    ∧ (∀ x, ¬ scopeNames 2 0 x) ∧ (watched (watch (.station 0) .notice .global)).acu.watches[(0 : WatchNo)] ≠ none
    ∧ (access { holders := #v[none, none, none, some 1, none, none, none, none] }).acu.holders[(3 : AxisNo)] = some 1 := by
  have alone (id : Nat) (h : id ≠ 3 → freeOf base id) : keptFrom base 3 (watch (.station 0) .notice (.localTo id)) → False := by
    rintro (h' | ⟨_, h', hne, hf⟩)
    · cases h'
    · injection h' with h'; subst h'; exact hf (h hne)
  refine ⟨⟨.inl ⟨_, _, by decide, by decide, rfl, rfl⟩, rfl, .inr (.inl rfl), .inl ⟨rfl, rfl, rfl⟩, by decide, rfl⟩,
    ⟨.inr (.inl ⟨7, _, rfl, rfl⟩), rfl, .inr (.inr (.inr ⟨rfl, _, _, rfl⟩)), .inr ⟨rfl, by decide, by decide, rfl⟩, by decide, rfl⟩,
    ⟨.inr (.inr (.inl ⟨5, 15, by decide, by decide, rfl, rfl⟩)), rfl, .inr (.inr (.inl ⟨rfl, .inr ⟨_, _, rfl⟩⟩)),
      .inl ⟨rfl, rfl, rfl⟩, by decide, rfl⟩,
    ⟨.inr (.inr (.inr ⟨0, rfl, rfl⟩)), rfl, .inl rfl, .inl ⟨rfl, rfl, rfl⟩, by decide, rfl⟩,
    .inl ⟨rfl, by decide, rfl⟩, .inr (.inl ⟨rfl, by decide, rfl⟩), .inr (.inr ⟨3, rfl, .inl ⟨freeOf_base _, rfl⟩⟩),
    .inr (.inr ⟨3, rfl, .inr ⟨1, _, holdsGrant_of (grant 3 1 .opened 8), .inr (.inr ⟨?_, rfl, rfl⟩)⟩⟩),
    .inr (.inr ⟨3, rfl, .inr ⟨1, _, holdsGrant_of (grant 3 1 .opened 8), .inl ⟨4, rfl, by decide, rfl⟩⟩⟩),
    .inr (.inr ⟨3, rfl, .inr ⟨1, _, holdsGrant_of (grant 3 1 .closing 8), .inr (.inl ⟨nofun, rfl, rfl⟩)⟩⟩),
    .inl rfl, alone 3 (fun h => absurd rfl h), alone 4 (fun _ => freeOf_base _), .inl ⟨rfl, rfl, rfl⟩,
    .inr ⟨rfl, by decide, by decide, rfl⟩, ?_, by decide +kernel, rfl⟩
  · rintro k h; cases h; decide
  · rintro x (⟨h, _⟩ | ⟨h, _⟩) <;> omega

theorem test_met_ReportsGiveHitsInWatchOrder :
    let met (kind : WatchKind) (r : Report) : Prop := ∃ subject, hitBy 0 (watch kind .notice .global) r subject
    met (.serial 7 .infeed) (.newRecord 7) ∧ met (.serial 7 .fillStart) (.fillStart 3 7) ∧ met (.serial 7 (.camera 2)) (.lineStage 7 2)
    ∧ met (.serial 7 .gate) (.departure 7 .lost none) ∧ met (.axisPhase 3 (.fill .lowering)) (.phaseEntry 3 .lowering 7 (some 0))
    ∧ met (.axisPhase 3 (.fill .lowering)) (.holdAfterRelease 3 .lowering 7 0)
    ∧ met (.axisPhase 3 .halted) (.halt 3 .limit .moving) ∧ met (.station 5) (.query 5 1 false)
    ∧ (¬ ∃ subject, hitBy 0 (watch (.serial 7 .infeed) .notice .global) (.newRecord 8) subject)
    ∧ 15 ≤ ({ watch (.cameraNg 2 15) .sample .global with run := 14 } : Watch).run + 1
    ∧ ({ watch (.cameraNg 2 15) .sample .global with run := 13 } : Watch).run + 1 < 15 ∧ Verdict.fault ≠ .ng := by
  refine ⟨⟨_, .inl ⟨7, rfl, rfl, rfl⟩⟩, ⟨_, .inr (.inl ⟨7, 3, rfl, rfl, rfl⟩)⟩, ⟨_, .inr (.inr (.inl ⟨7, 2, rfl, rfl, rfl⟩))⟩,
    ⟨_, .inr (.inr (.inr (.inl ⟨7, _, _, rfl, rfl, rfl⟩)))⟩, ⟨_, .inr (.inr (.inr (.inr (.inl ⟨3, _, 7, _, rfl, rfl, rfl⟩))))⟩,
    ⟨_, .inr (.inr (.inr (.inr (.inr (.inl ⟨3, _, 7, rfl, rfl, nofun, rfl⟩)))))⟩,
    ⟨_, .inr (.inr (.inr (.inr (.inr (.inr (.inl ⟨3, _, _, rfl, rfl, rfl⟩))))))⟩,
    ⟨_, .inr (.inr (.inr (.inr (.inr (.inr (.inr ⟨5, 1, _, rfl, rfl, rfl⟩))))))⟩, ?_, by decide, by decide, by decide⟩
  rintro ⟨subject, h⟩
  simp [hitBy, watch] at h
/-! ### Chapters 8 to 11, the readers and the part -/

theorem test_met_TheClocksRunAndFollowTheirMarks :
    let free := { base with tmu := { clock := .free, hallParts := some 5000000000 } }
    free.tmu.clock = .free ∧ free.stamp = some 5 ∧ free.tmu.clock ≠ .locked ∧ ({ clock := .locked } : Tmu).clock = .locked
    ∧ base.tmu.clock = .unset ∧ offsetIs base 9 none ∧ offsetIs free 1005 (some 1000) ∧ offsetIs free 1006 (some 1001)
    ∧ (1000 : Int) ≤ 1000 ∧ (1000 : Int) < 1001 ∧ awake base ∧ ({ phaseEnd := some 5 } : Tmu).phaseEnd = some 5
    ∧ 5 ≤ (clocks { now := 5 }).tmu.now ∧ base.tmu.now < 5 ∧ ({ holdoverDeadline := some 5 } : Tmu).holdoverDeadline = some 5
    ∧ ((5000000000 : Nat) + 1000000000 + heldRate (100000 + 1) : Int).toNat / 1000000000 ≤ 18446744073709551615 :=
  ⟨rfl, rfl, nofun, rfl, rfl, .inl ⟨rfl, rfl⟩, .inr ⟨5, rfl, rfl⟩, .inr ⟨5, rfl, rfl⟩, by decide, by decide, nofun, rfl, by decide +kernel,
    by decide +kernel, rfl, by decide⟩

/-- Every account can be set. -/
theorem test_met_accountSet (s : State) (a : Account) (r : AccountRecord) (cause : AccountCause) :
    ∃ t, accountSet s a r cause t := by
  have h : ∃ state, wornTo r.count r.warn r.alarm state := by
    by_cases ha : r.alarm ≠ 0 ∧ r.alarm ≤ r.count
    · exact ⟨_, .inl ⟨ha.1, ha.2, rfl⟩⟩
    · by_cases hw : r.warn ≠ 0 ∧ r.warn ≤ r.count
      · exact ⟨_, .inr (.inl ⟨ha, hw.1, hw.2, rfl⟩)⟩
      · exact ⟨_, .inr (.inr ⟨ha, hw, rfl⟩)⟩
  obtain ⟨state, hs⟩ := h
  by_cases ho : (accountAt s.tmu a).state = state
  · exact ⟨_, state, hs, .inl ⟨ho, rfl⟩⟩
  · exact ⟨_, state, hs, .inr ⟨ho, rfl⟩⟩

theorem test_met_AccountsFollowTheirThresholds :
    numberOf .gate = 14 ∧ (4294967295 ≠ 0 → 0 ≠ 0 → 4294967295 ≤ 0) ∧ ¬ (6 ≠ 0 → 5 ≠ 0 → 6 ≤ 5)
    ∧ wornTo 5 5 6 .warn ∧ wornTo 6 5 6 .alarm ∧ wornTo 4 5 6 .normal ∧ 2 ≤ (access { level := 2 }).acu.level ∧ base.acu.level < 2 :=
  ⟨rfl, by decide, by decide, .inr (.inl (by decide)), .inl (by decide), .inr (.inr (by decide)), by decide +kernel, by decide +kernel⟩

/-- Every source can be weighed, and PERMIT settled. -/
theorem test_met_weighs (c : SourceSettings) (now : RunTime) (x : Source) : ∃ y, weighs c now x y := by
  classical
  exact ⟨{ x with inEffect := decide (c.enable = true ∧ ((c.mode = .latch ∧ x.latched = true)
    ∨ (c.mode = .live ∧ x.active = true ∧ ∃ t, x.since = some t ∧ t + c.extension * 100000 ≤ now))) }, rfl, by simp⟩

theorem test_met_settles (s : State) (src : FaultSource) (cause : PermitCause) : ∃ t, settles s src cause t := by
  by_cases h : s.pml.permit = true ↔ ∀ n : Fin 16, s.pml.sources[n].inEffect = false
  · exact ⟨s, .inl ⟨h, rfl⟩⟩
  · refine ⟨_, .inr ⟨h, BitVec.ofFnLE fun n => s.pml.sources[n].inEffect, fun n => ?_, rfl⟩⟩
    simp

theorem test_met_SourcesRiseAndFallByTheirReports :
    (fieldsOf base .trackFull).active = false ∧ ¬ FaultSource.trackFull.isEvent = true ∧ FaultSource.watchStop.isEvent = true
    ∧ (configOf base .trackFull).enable = true ∧ (configOf base .trackFull).mode = .live
    ∧ weighs ⟨true, .live, 600⟩ 60000000 ⟨true, true, some 0, false⟩ ⟨true, true, some 0, true⟩
    ∧ weighs ⟨true, .live, 600⟩ 59999999 ⟨true, true, some 0, false⟩ ⟨true, true, some 0, false⟩ := by
  refine ⟨by decide +kernel, by decide, by decide, by decide +kernel, by decide +kernel, ⟨rfl, ?_⟩, ⟨rfl, ?_⟩⟩ <;> simp

theorem test_met_AcknowledgementsAndConfigurationSettlePermit :
    (([15, 0] : List Nat) ≠ [] ∧ [15, 0].length ≤ 16 ∧ (∀ n ∈ ([15, 0] : List Nat), n < 16) ∧ ([15, 0] : List Nat).Nodup)
    ∧ ([0, 15] : List (Fin 16)).Pairwise (fun m n => m < n) ∧ (∀ n : Fin 16, n ∈ ([0, 15] : List (Fin 16)) ↔ n.val ∈ ([15, 0] : List Nat))
    ∧ (∀ n ∈ ([0, 15] : List (Fin 16)), ¬ clearable base n)
    ∧ clearable { base with pml := { sources := (Vector.replicate 16 {}).set 0 ⟨false, true, none, true⟩ } } 0
    ∧ (sourceNo .switchQueue).val = 15 ∧ (15 < 16 ∧ 1 ≤ 1 ∧ 0 ≤ 1 ∧ 600 ≤ 600) ∧ ¬ ([3, 3] : List Nat).Nodup := by
  unfold clearable; decide +kernel

theorem test_met_FramesAreTakenCountedAndReadBack :
    let frame := ((frameBytes 1 7 0x62 []).getD []).tail
    let other := ((frameBytes 2 7 0x62 []).getD []).tail
    let read (b : List Byte) := (frameParts b).map fun f => (f.checkPasses, f.cls)
    base.lnk.receive = .hunting ∧ (link { receive := .inFrame }).lnk.receive = .inFrame ∧ 241 ≤ (241 : Byte).toNat
    ∧ (240 : Byte).toNat ≤ 240 ∧ frameParts [] = none ∧ read [0, 1, 7, 0x62, 0, 0] = some (false, 1) ∧ read other = some (true, 2)
    ∧ read frame = some (true, 1) ∧ (link { queue := List.replicate 3 ⟨0, 0, []⟩ }).lnk.queue.length < 4
    ∧ 4 ≤ (link { queue := List.replicate 4 ⟨0, 0, []⟩ }).lnk.queue.length
    ∧ (frameBytes 2 7 0x62 (List.replicate 240 0)).isSome = true ∧ (frameBytes 2 7 0x62 (List.replicate 241 0)).isSome = false := by
  decide +kernel

/-- The fixed requests, each read from fields 1, 2, 3 and so on, and the codes that are no request. -/
theorem test_fixed_requests_are_read : (∀ x ∈ fixedRequests,
      let values := (List.range x.2.1.length).map fun n => n + 1
      parseRequest x.1 (fieldBytes (x.2.1.zip values)) = .request (x.2.2 values)
      ∧ parseRequest x.1 (List.replicate (x.2.1.sum + 1) 0) = .badLength)
    ∧ (0x69 : Byte) ∉ fixedRequests.map (fun x => x.1) ∧ (0x69 : Byte) ∉ [(0x26 : Byte), 0x34, 0x36, 0x59, 0x61, 0x63, 0x71, 0x91] := by
  decide +kernel

theorem test_met_RequestsAreReadByTheirCodes :
    (∃ c, countedRequest 0x26 ([3, 1] ++ [(-2147483648 : Int), 2147483647].flatMap (beSigned 4)) c)
    ∧ (∃ c, countedRequest 0x34 ([31, 1] ++ [(-32768 : Int)].flatMap (beSigned 2)) c) ∧ (∃ c, countedRequest 0x36 (beSigned 2 32767) c)
    ∧ (∃ c, countedRequest 0x59 (0 :: be 6 (0x111 : Address).toNat) c) ∧ (∃ c, countedRequest 0x59 [1, 8] c)
    ∧ (∃ c, countedRequest 0x59 [2] c) ∧ (∃ c, countedRequest 0x59 [255] c) ∧ (∃ c, countedRequest 0x61 [2, 1, 9] c)
    ∧ (∃ c, countedRequest 0x63 [2, 0] c) ∧ (∃ c, countedRequest 0x63 [2, 1, 9] c)
    ∧ (∃ c, countedRequest 0x71 ([0, 0] ++ fieldBytes [(4, 4294967295), (1, 8)] ++ [3, 0, 0, 1]) c)
    ∧ (∃ c, countedRequest 0x71 ([0, 1] ++ fieldBytes [(1, 7), (1, 3)] ++ [0, 0, 0, 1]) c)
    ∧ (∃ c, countedRequest 0x71 ([0, 2] ++ fieldBytes [(1, 5), (1, 15)] ++ [1, 0, 0, 1]) c)
    ∧ (∃ c, countedRequest 0x71 ([0, 3] ++ be 6 (0x111 : Address).toNat ++ [0, 0, 0, 1]) c)
    ∧ (∃ c, countedRequest 0x71 ([0, 4] ++ [] ++ [0, 0, 0, 1]) c)
    ∧ (∃ c, countedRequest 0x91 [2, 15, 0] c) ∧ ∀ c, ¬ countedRequest 0x61 [] c := by
  refine ⟨⟨_, .inl ⟨3, 1, [-2147483648, 2147483647], rfl, by decide, by decide, rfl, rfl⟩⟩,
    ⟨_, .inr (.inl ⟨31, [-32768], rfl, by decide, by decide, rfl, rfl⟩)⟩,
    ⟨_, .inr (.inr (.inl ⟨32767, rfl, by decide, by decide, rfl, rfl⟩))⟩,
    ⟨_, .inr (.inr (.inr (.inl ⟨_, rfl, .inl ⟨0x111, rfl, rfl⟩, rfl⟩)))⟩,
    ⟨_, .inr (.inr (.inr (.inl ⟨_, rfl, .inr (.inl ⟨8, rfl, rfl⟩), rfl⟩)))⟩,
    ⟨_, .inr (.inr (.inr (.inl ⟨_, rfl, .inr (.inr (.inl ⟨rfl, rfl⟩)), rfl⟩)))⟩,
    ⟨_, .inr (.inr (.inr (.inl ⟨_, rfl, .inr (.inr (.inr ⟨255, by decide, rfl, rfl⟩)), rfl⟩)))⟩,
    ⟨_, .inr (.inr (.inr (.inr (.inl ⟨2, [9], rfl, by decide, rfl, rfl⟩))))⟩,
    ⟨_, .inr (.inr (.inr (.inr (.inr (.inl ⟨2, [], rfl, by decide, rfl, rfl⟩)))))⟩,
    ⟨_, .inr (.inr (.inr (.inr (.inr (.inl ⟨2, [9], rfl, by decide, rfl, rfl⟩)))))⟩,
    ⟨_, .inr (.inr (.inr (.inr (.inr (.inr (.inl ⟨0, 0, 3, 0, 0, 1, _, _, rfl, .inl ⟨4294967295, 8, rfl, by decide, by decide, rfl, rfl⟩,
      rfl, rfl⟩))))))⟩,
    ⟨_, .inr (.inr (.inr (.inr (.inr (.inr (.inl ⟨0, 1, 0, 0, 0, 1, _, _, rfl, .inr (.inl ⟨7, 3, rfl, by decide, by decide, rfl, rfl⟩),
      rfl, rfl⟩))))))⟩,
    ⟨_, .inr (.inr (.inr (.inr (.inr (.inr (.inl ⟨0, 2, 1, 0, 0, 1, _, _, rfl,
      .inr (.inr (.inl ⟨5, 15, rfl, by decide, by decide, rfl, rfl⟩)), rfl, rfl⟩))))))⟩,
    ⟨_, .inr (.inr (.inr (.inr (.inr (.inr (.inl ⟨0, 3, 0, 0, 0, 1, _, _, rfl, .inr (.inr (.inr (.inl ⟨0x111, rfl, rfl, rfl⟩))),
      rfl, rfl⟩))))))⟩,
    ⟨_, .inr (.inr (.inr (.inr (.inr (.inr (.inl ⟨0, 4, 0, 0, 0, 1, _, _, rfl, .inr (.inr (.inr (.inr ⟨by decide, rfl, rfl⟩))),
      rfl, rfl⟩))))))⟩,
    ⟨_, .inr (.inr (.inr (.inr (.inr (.inr (.inr ⟨[15, 0], rfl, by decide, rfl, rfl⟩))))))⟩, ?_⟩
  rintro c (⟨_, _, _, h, _⟩ | ⟨_, _, h, _⟩ | ⟨_, h, _⟩ | ⟨_, h, _⟩ | ⟨_, _, _, _, h, _⟩ | ⟨_, _, h, _⟩
    | ⟨_, _, _, _, _, _, _, _, h, _⟩ | ⟨_, h, _⟩)
  all_goals first | exact absurd h (by decide) | simp at h

theorem test_met_SwitchMessagesByTheirCodes :
    (∃ c, switchMessage 9 0xC0 (be 6 (0x111 : Address).toNat ++ [8]) c) ∧ (∃ c, switchMessage 9 0xC1 [1, 0] c)
    ∧ (∃ c, switchMessage 9 0xC1 [8, 1] c) ∧ (∃ c, switchMessage 9 0xC2 (1 :: be 4 4294967295) c)
    ∧ (∃ c, switchMessage 9 0xC3 (be 6 (0x111 : Address).toNat) c) ∧ (∃ c, switchMessage 9 0xC4 (be 8 18446744073709551615) c)
    ∧ (∀ c, ¬ switchMessage 9 0xC5 [] c) ∧ (0x01 : Byte) ≠ 0x04
    ∧ switchCommand ⟨0x04, 9, 0xC1, [8, 2], true⟩ = none ∧ switchCommand ⟨0x04, 9, 0xC1, [9, 0], true⟩ = none := by
  refine ⟨⟨_, .inl ⟨0x111, 7, rfl, rfl, rfl⟩⟩, ⟨_, .inr (.inl ⟨0, .up, rfl, rfl, rfl⟩)⟩, ⟨_, .inr (.inl ⟨7, .down, rfl, rfl, rfl⟩)⟩,
    ⟨_, .inr (.inr (.inl ⟨0, 4294967295, rfl, by decide, rfl, rfl⟩))⟩, ⟨_, .inr (.inr (.inr (.inl ⟨0x111, rfl, rfl, rfl⟩)))⟩,
    ⟨_, .inr (.inr (.inr (.inr ⟨18446744073709551615, rfl, by decide, rfl, rfl⟩)))⟩, ?_, by decide, by decide +kernel,
    by decide +kernel⟩
  rintro c (⟨_, _, h, _⟩ | ⟨_, _, h, _⟩ | ⟨_, _, h, _⟩ | ⟨_, h, _⟩ | ⟨_, h, _⟩) <;> exact absurd h (by decide)

theorem test_met_RequestsAreTakenAndAnswered :
    awaits (link { inHand := some ⟨7, 0x62⟩ }) ⟨7, 0x62⟩ ∧ (∀ x, ¬ awaits base x) ∧ base.lnk.softReset = false ∧ base.lnk.reply = none
    ∧ (link { reply := some ⟨false, 7, 0x62, ⟨.ok, none, []⟩, 0⟩ }).lnk.reply ≠ none ∧ base.lnk.queue = []
    ∧ (link { queue := [⟨7, 0x62, []⟩] }).lnk.queue = [⟨7, 0x62, []⟩] ∧ parseRequest 0x62 [] = .request .lock
    ∧ parseRequest 0x62 [0] = .badLength ∧ parseRequest 0x00 [] = .unknownMessage :=
  ⟨⟨rfl, rfl⟩, (fun _ h => by cases h.1), rfl, rfl, nofun, rfl, rfl, by decide +kernel, by decide +kernel, by decide +kernel⟩

theorem test_met_NoticesJoinAndAreFetched :
    let n (k : Nat) : List PostedNotice := List.replicate k ⟨.levelDropped 1, 0, none⟩
    let o : PostedNotice := ⟨.overflow 65535 9 0, 0, none⟩
    (n 30).length ≤ 30 ∧ 31 ≤ (n 30 ++ [o]).length ∧ (n 31 ++ [o]).length = 32 ∧ (n 31).length = 31 ∧ n 31 = n 30 ++ n 1
    ∧ (∀ count kind last, (Notice.levelDropped 1) ≠ .overflow count kind last)
    ∧ n 9 = n 8 ++ n 1 ∧ (n 8).length = 8 ∧ n 0 = [] ++ n 0 ∧ 8 ≤ 8 ∧ 9 ≤ 9
    ∧ (-(2 ^ 63 : Int) ≤ 9223372036854775807 ∧ (9223372036854775807 : Int) < 2 ^ 63) ∧ -(2 ^ 63 : Int) ≤ -9223372036854775808 :=
  ⟨by decide, by decide, by decide, by decide, by decide, nofun, by decide, by decide, by decide, by decide, by decide, by decide,
    by decide⟩

theorem test_a_hit_notice_in_29_bytes : noticeBytes ⟨.watchHit 2 (.serial 5 .gate) .withdraw 9 (.serial 5 .gate (some (.rejected, some .fill))), 1, none⟩
    = [0x0F, 0] ++ be 8 1 ++ be 8 0 ++ [2, 3, 0, 9, 0, 0, 0, 5, 8, 1, 0] := by
  decide +kernel

/-- An image of the defaults. -/
def image : Image := ⟨Settings.defaults, [], Vector.replicate 15 {}⟩

theorem test_met_SavesWriteTheOtherBank :
    let used := store { bankB := .whole 1 5 image, inUse := some .b }
    let busy := store { saving := some .save, writing := some (.a, 6, image) }
    imageIs base.sst none ∧ imageIs used.sst (some (5, image)) ∧ base.sst.saving = none ∧ busy.sst.saving = some .save
    ∧ busy.sst.writing = some (.a, 6, image) ∧ (∃ t, storeDone used .save true t) ∧ (∃ t, storeDone base .accountSave false t)
    ∧ (∃ t, savesAccounts used t) ∧ (∃ t, savesAccounts base t) ∧ (clocks { saveDeferred := true }).tmu.saveDeferred = true
    ∧ base.tmu.saveDeadline ≤ base.tmu.now ∧ base.tmu.now < (clocks { saveDeadline := 1 }).tmu.saveDeadline :=
  ⟨.inl ⟨rfl, rfl⟩, .inr (.inr ⟨_, _, _, rfl, rfl, rfl⟩), rfl, rfl, rfl, ⟨_, .inl ⟨_, _, .inr (.inr ⟨_, _, _, rfl, rfl, rfl⟩), rfl⟩⟩,
    ⟨_, .inr ⟨.inl ⟨rfl, rfl⟩, rfl⟩⟩, ⟨_, .inl ⟨_, _, .inr (.inr ⟨_, _, _, rfl, rfl, rfl⟩), rfl⟩⟩, ⟨_, .inr ⟨.inl ⟨rfl, rfl⟩, rfl⟩⟩, rfl,
    by decide +kernel, by decide +kernel⟩

/-- The state that a release of RESET_N leaves. -/
def started : State := (next? (exec .resetRelease State.reset)).getD base

theorem test_met_ResetsAndStartUp :
    State.reset.phase = .held ∧ base.phase ≠ .held ∧ running base ∧ base.sst.saving = none ∧ base.lnk.inHand = none
    ∧ (link { softReset := true, reply := some ⟨false, 7, 0xA4, ⟨.ok, none, []⟩, 0⟩ }).lnk.softReset = true
    ∧ started.phase = .starting ∧ started.pml = {} ∧ forcedSourcesForced started ∧ base.phase ≠ .starting := by
  unfold running forcedSourcesForced; decide +kernel

theorem test_met_TablesAreReadAndReadersAnswer :
    let b := ripe .ok .ok none
    let track := [{ b with serial := 5 }] ++ List.replicate 6 b ++ [b]
    running (line { track := track }) ∧ (∀ x ∈ [{ b with serial := 5 }], x.serial < 7) ∧ (List.replicate 6 b).length = 6
    ∧ (∀ x ∈ ((List.replicate 6 b ++ [b]).head?), 7 ≤ x.serial) ∧ ([] : List Bottle).length < 6
    ∧ base.sws.forgets.find? (fun x => decide (x.address = 0x111)) = none
    ∧ (withForgets base 1).sws.forgets.find? (fun x => decide (x.address = 0x1000)) = some ⟨0x1000, 0, .evict, none, 0⟩
    ∧ ¬ forgotten base 0x111 ∧ (0 : AxisSet) = 0 ∧ (64#8 : CameraSet) ≤ 64 ∧ (8 : AxisSet) ≠ 0
    ∧ ¬ ((63 : CameraSet) = 0 ∨ (64#8 : CameraSet) ≤ 63) ∧ 16 ≤ 16 := by
  unfold running forgotten; decide +kernel

theorem test_met_LastSubjectsTakeTheirBytes : subjectSuits (.serial 5 .gate) (.serial 5 .gate none)
    ∧ subjectSuits (.axisPhase 3 .halted) (.axisPhase 3 .halted none false (some .limit))
    ∧ subjectSuits (.cameraNg 2 15) (.cameraNg 2 15 7) ∧ subjectSuits (.station 5) (.station 5 1 true)
    ∧ lastSubjectBytes (.cameraNg 2 15) none = List.replicate 7 0 ∧ indexInUse base.cfg base.fmu.temperature 0 :=
  ⟨trivial, trivial, trivial, trivial, rfl, .inr (.inl ⟨rfl, rfl, rfl⟩)⟩

theorem test_met_StepRunsTheCommandAtTheFront : ({ base with pending := [.lock, .save] } : State).pending = .lock :: [.save] := rfl

/-- Every axis whose first pulse is due or out ramps on to a next record. -/
theorem test_met_rampsOn (a : Axis) : ∃ b, rampsOn a b := by
  cases h : a.profile with
  | none => exact ⟨a, .inl ⟨h, rfl⟩⟩
  | some p =>
    have hp : a.profile ≠ none := by rw [h]; nofun
    cases hr : a.ramp with
    | none => exact ⟨_, .inr (.inr (.inr (.inr ⟨hp, .inr hr, rfl⟩)))⟩
    | some r =>
      cases r with
      | cruise => exact ⟨_, .inr (.inr (.inr (.inr ⟨hp, .inl hr, rfl⟩)))⟩
      | decel => exact ⟨_, .inr (.inr (.inr (.inl ⟨p, h, hr, rfl⟩)))⟩
      | accel =>
        by_cases hl : a.speed + p.acceleration < p.topSpeed * 1000
        · exact ⟨_, .inr (.inl ⟨p, h, hr, hl, rfl⟩)⟩
        · exact ⟨_, .inr (.inr (.inl ⟨p, h, hr, by omega, rfl⟩))⟩

/-- Every axis has a next record a microsecond later. -/
theorem test_met_rampsTo (a : Axis) : ∃ b, rampsTo a b :=
  match h : a.lead with
  | 0 => (test_met_rampsOn a).elim fun _ hb => ⟨_, .inr (.inr ⟨h, hb⟩)⟩
  | 1 => ⟨_, .inr (.inl ⟨h, rfl⟩)⟩
  | n + 2 => ⟨_, .inl ⟨n, h, rfl⟩⟩

theorem test_first_pulse_at_the_start_speed :
    let a := ({} : Axis).startMove true (some 5) ⟨200, 2000, 20⟩ false
    a.lead = 10 ∧ (Nat.iterate Axis.ramped 9 a).pulseDue = false ∧ (Nat.iterate Axis.ramped 10 a).pulseDue = true
    ∧ (Nat.iterate Axis.ramped 10 a).speed = 200000 ∧ (Nat.iterate Axis.ramped 11 a).speed = 200020 := by
  decide

/-- A running part in which a query waits, and no other event is due. -/
def asked : State := { base with
  sws := { firstDone := true, queries := [⟨0x111, 1, 9⟩] }, fmu := { temperatureDeadline := 9 }, tmu := { saveDeadline := 9 } }

theorem test_met_DueEventsByTheirDeadlines : isDue asked .answer ∧ (∀ d, isDue asked d → d = .answer)
    ∧ (∀ d, ¬ isDue { asked with sws := { firstDone := true } } d) ∧ isDue base .accountSaveExpiry
    ∧ isDue (axis3 { dwellEnd := some 0 }) (.dwellExpiry 3) ∧ isDue (forgetting 0 (clocks { now := 2000000 })) (.forgetExpiry 0x141)
    ∧ isDue (switch { reported := 255 }) .firstSetting ∧ isDue (line { gateEnd := some 0 }) .gatePulseExpiry
    ∧ isDue (camera2 { trigEnd := some 0 }) (.triggerPulseEnd 2) ∧ isDue base .tempDeadlineExpiry
    ∧ isDue (clocks { phaseEnd := some 0 }) .phaseTermExpiry ∧ isDue (access { level := 1 }) .idleDeadlineExpiry := by
  have none (s : State) (h : ∀ k, s.axis k = {}) (ho : ∀ n : Fin 16, s.pml.sources[n].active = false)
      (hg : ∀ i : Fin 4, s.acu.grants[i] = none) (hc : ∀ k, (s.camera k).trigEnd = none) (d : Instr)
      (hs : s.ltr.gateEnd = none ∧ s.sws.forgets = [] ∧ s.sws.firstDone = true ∧ s.acu.lockoutEnd = none ∧ s.acu.level = 0
        ∧ s.tmu.phaseEnd = none ∧ s.tmu.clock = .unset ∧ s.lnk.queue = [] ∧ s.tmu.now < s.fmu.temperatureDeadline
        ∧ s.tmu.now < s.tmu.saveDeadline) (hd : isDue s d) : d = .answer ∧ s.sws.queries ≠ [] := by
    obtain ⟨h1, h2, h3, h4, h5, h6, h7, h8, h9, h10⟩ := hs
    rcases hd with ⟨k, hd⟩ | ⟨-, t, e, -⟩ | ⟨k, -, t, e, -⟩ | ⟨-, -, e⟩ | ⟨f, r, -, e, -⟩ | ⟨-, e, -⟩ | ⟨-, t, e, -⟩ | ⟨-, e, -⟩
      | ⟨i, g, -, e, -⟩ | ⟨-, t, e, -⟩ | ⟨-, e, -⟩ | ⟨-, e⟩ | ⟨src, -, -, -, -, e, -⟩ | hd | ⟨-, -, e⟩
    · simp [axisEventDue, h k, come] at hd
    · simp [h1] at e
    · simp [hc k] at e
    · exact absurd e (Nat.not_le.2 h9)
    · simp [h2] at e
    · simp [h3] at e
    · simp [h4] at e
    · omega
    · simp [hg i] at e
    · simp [h6] at e
    · simp [h7] at e
    · exact absurd e (Nat.not_le.2 h10)
    · exact absurd e (by rw [show (fieldsOf s src).active = false from ho _]; decide)
    · exact hd
    · exact absurd h8 e
  refine ⟨.inr (.inr (.inr (.inr (.inr (.inr (.inr (.inr (.inr (.inr (.inr (.inr (.inr (.inl ⟨rfl, by decide⟩))))))))))))), ?_, ?_,
    .inr (.inr (.inr (.inr (.inr (.inr (.inr (.inr (.inr (.inr (.inr (.inl ⟨rfl, by decide +kernel⟩))))))))))),
    .inl ⟨3, .inr (.inr (.inr (.inr (.inr (.inl ⟨rfl, 0, by decide +kernel, by decide +kernel⟩)))))⟩,
    .inr (.inr (.inr (.inr (.inl ⟨_, _, rfl, rfl, by decide +kernel⟩)))),
    .inr (.inr (.inr (.inr (.inr (.inl ⟨rfl, by decide +kernel, .inl (by decide +kernel)⟩))))),
    .inr (.inl ⟨rfl, 0, rfl, by decide +kernel⟩), .inr (.inr (.inl ⟨2, rfl, 0, by decide +kernel, by decide +kernel⟩)),
    .inr (.inr (.inr (.inl ⟨rfl, by decide +kernel, by decide +kernel⟩))),
    .inr (.inr (.inr (.inr (.inr (.inr (.inr (.inr (.inr (.inl ⟨rfl, 0, rfl, by decide +kernel⟩))))))))),
    .inr (.inr (.inr (.inr (.inr (.inr (.inr (.inl ⟨rfl, by decide +kernel, by decide +kernel⟩)))))))⟩
  · exact fun d hd => (none asked (by decide +kernel) (by decide +kernel) (by decide +kernel) (by decide +kernel) d
      (by decide +kernel) hd).1
  · exact fun d hd => (none { asked with sws := { firstDone := true } } (by decide +kernel) (by decide +kernel) (by decide +kernel)
      (by decide +kernel) d (by decide +kernel) hd).2 rfl

theorem test_met_AnIdlePartTakesWhatIsDueOrLetsTimePass :
    let waits := { base with reports := [.lineTrigger 1] }
    let due := { base with sws := { firstDone := true, reported := 255 }, acu := { level := 1 }, tmu := { saveDeadline := 9 } }
    waits.pending = [] ∧ waits.reports = .lineTrigger 1 :: [] ∧ due.reports = [] ∧ dueCommand due ≠ none
    ∧ (dueCommand { due with acu := { idleDeadline := 9 }, fmu := { temperatureDeadline := 9 } }) = none
    ∧ ({ base with feed := [{}] } : State).feed = {} :: [] ∧ base.feed = [] ∧ State.reset.phase = .held := by
  decide +kernel

theorem test_met_EveryCommandCompletes : ¬ running State.reset ∧ ¬ takenEarly .lock ∧ takenEarly (.timeMark 5) ∧ State.reset.phase = .held :=
  ⟨by unfold running; decide, id, trivial, rfl⟩

/-- The state at reset meets the premise of every invariant, and a step from it is a next state. -/
theorem test_met_invariants : outputsFollow State.reset ∧ valveFollowsMotion State.reset ∧ lineKept State.reset ∧ tagsApart State.reset
    ∧ listsFit State.reset ∧ forcedSourcesForced State.reset ∧ State.reset.ltr.counters[0] < 18446744073709551615
    ∧ next? (step State.reset) = some State.reset := by
  unfold outputsFollow quietUntilComplete permitFollowsSources attnFollowsQueue valveFollowsMotion tagsApart listsFit
    forcedSourcesForced
  refine ⟨⟨fun _ o => ?_, ?_⟩, ?_, ⟨?_, ?_, ?_, ?_, ?_, ?_⟩, ?_, ?_, ?_, ?_, ?_⟩
  case refine_1 =>
    have every : ∀ k : AxisNo, State.reset.level (.valve k) = some false ∧ State.reset.level (.dir k) = some false := by decide +kernel
    have cameras : ∀ k : CameraNo, State.reset.level (.trig k) = some false ∧ State.reset.level (.tag0 k) = some false
        ∧ State.reset.level (.tag1 k) = some false := by decide +kernel
    cases o with
    | valve k => exact (every k).1
    | dir k => exact (every k).2
    | trig k => exact (cameras k).1
    | tag0 k => exact (cameras k).2.1
    | tag1 k => exact (cameras k).2.2
    | _ => rfl
  case refine_8 => intro n h; injection h with h; subst h; decide +kernel
  all_goals decide +kernel

theorem test_met_stationsKept : stationsKept State.reset := by
  have hn : ∀ (n : Fin 16) (w : Fin 4), State.reset.sws.table[n].ways[w] = none := by decide +kernel
  refine ⟨fun n w e h => ?_, by decide +kernel⟩
  rw [hn n w] at h
  cases h
end Sys2Proof.Tests
end

section
/-!
SUPPORT. The bottle track (chapter 1): what the LTR's operations do, in the words of the statements (withLtr, sending, change,
leaving, afterReject), and the proofs of the chapter's statements from them.
-/

namespace Sys2Proof.BottleTrack

open Sys2Proof Sys2Proof.Machine Sys2Proof.Claims

/-! ## The model's writes in the words of the statements -/

theorem sending_sending (s : State) (cs ds : List Instr) : sending (sending s cs) ds = sending s (cs ++ ds) :=
  sendAll_sendAll s cs ds

theorem withLtr_sending (s : State) (cs : List Instr) (l : Ltr) :
    withLtr (sending s cs) l = sending (withLtr s l) cs := rfl

/-- A block tells the PML a change of a condition, and nothing else (R174). -/
theorem reportSource_eq_sending (s : State) (src : FaultSource) (before after : Bool) :
    s.reportSource src before after = sending s (change src before after) := by
  cases before <;> cases after
  case false.true => exact reportSource_raises s src
  case true.false => exact reportSource_clears s src
  all_goals exact (reportSource_same s src _).trans (sendAll_nil s).symm

/-- A line counter below its top goes up by one (R22). -/
theorem countLine_one {s : State} {c : LineCounter} (h : counts s (lineCounterIx c)) :
    s.countLine c 1 = withLtr s { s.ltr with counters := plusOne s (lineCounterIx c) } :=
  countLine_below (Nat.succ_le_of_lt h)

/-! ## Reports into records (R9 to R11) -/

/-- A fill report is taken by its record (R9). -/
theorem exec_fillReport {s : State} (h : running s) (serial : Nat) (item : FillItem) :
    exec (.fillReport serial item) s
      = .next (recordChanged (s.received (.fillReport serial item)) serial (applyFillItem item)) :=
  (rfl : exec (.fillReport serial item) s = execFillReport serial item s).trans
    (taken_running h _ fun s => s.updateRecord serial (applyFillItem item))

/-- A verdict report is taken by its record (R10). -/
theorem exec_verdictReport {s : State} (h : running s) (serial : Nat) (k : CameraNo) (v : Verdict) :
    exec (.verdictReport serial k v) s
      = .next (recordChanged (s.received (.verdictReport serial k v)) serial (applyVerdict k v)) :=
  (rfl : exec (.verdictReport serial k v) s = execVerdictReport serial k v s).trans
    (taken_running h _ fun s => s.updateRecord serial (applyVerdict k v))

/-- A watch report is taken by its record (R11). -/
theorem exec_watchReport {s : State} (h : running s) (serial : Nat) (w : WatchNo) (sample : Bool) :
    exec (.watchReport serial w sample) s
      = .next (recordChanged (s.received (.watchReport serial w sample)) serial (applyWatchHit w sample)) :=
  (rfl : exec (.watchReport serial w sample) s = execWatchReport serial w sample s).trans
    (taken_running h _ fun s => s.updateRecord serial (applyWatchHit w sample))

theorem applyFillItem_axis (k : AxisNo) :
    applyFillItem (.axis k) = fun b => if b.fillAxis = none then { b with fillAxis := some k } else b := by
  funext b
  simp only [applyFillItem, Option.isNone_iff_eq_none]

theorem applyFillItem_result (r : FillResult) :
    applyFillItem (.result r) = fun b => if b.fill = .pending then { b with fill := r } else b := rfl

theorem applyVerdict_eq (k : CameraNo) (v : Verdict) :
    applyVerdict k v = fun b =>
      { b with verdicts := b.verdicts.map fun e => if e = (k, .pending) then (k, v) else e } := by
  funext b
  simp only [applyVerdict, Prod.ext_iff]

theorem applyWatchHit_eq (w : WatchNo) (sample : Bool) :
    applyWatchHit w sample = fun b =>
      { b with hits := b.hits ||| (1#4 <<< w.val), sample := if sample && b.sample = none then some w else b.sample } := by
  funext b
  cases hb : b.sample <;> simp [applyWatchHit, withMember, hb]

/-- Settles O5: each report is its update of the record with the serial, and each update is the one its rule states. -/
theorem reportsFillTheRecord : Obligations.ReportsFillTheRecord := by
  refine ⟨fun serial s h => ⟨fun k => ?axis, fun r => ?result⟩, fun serial k v s h => ?verdict,
    fun serial w sample s h => ?watch⟩
  case axis => exact (exec_fillReport h serial (.axis k)).trans (by rw [applyFillItem_axis])
  case result => exact (exec_fillReport h serial (.result r)).trans (by rw [applyFillItem_result])
  case verdict => exact (exec_verdictReport h serial k v).trans (by rw [applyVerdict_eq])
  case watch => exact (exec_watchReport h serial w sample).trans (by rw [applyWatchHit_eq])

/-! ## The record at the gate (R12, R13) -/

theorem recordAtGate_of_atGate {s : State} {b : Bottle} {rest : List Bottle} (h : atGate s b rest) :
    recordAtGate s = some b := by
  obtain ⟨htrack, hpos⟩ := h
  simp only [recordAtGate, htrack, position, hpos, if_pos]

theorem recordAtGate_eq_none {s : State} (h : ¬ ∃ b rest, atGate s b rest) : recordAtGate s = none := by
  unfold recordAtGate
  split
  case h_1 => rfl
  case h_2 b rest htrack => exact if_neg fun hpos => h ⟨b, rest, htrack, hpos⟩

theorem entryFails_eq_false {v : CameraNo × Verdict} : entryFails v = false ↔ v.2 = .ok := by
  simp [entryFails]

theorem entryFails_eq_true {v : CameraNo × Verdict} : entryFails v = true ↔ v.2 ≠ .ok := by
  simp [entryFails]

/-- The three conditions of a pass (R13). -/
theorem recordPasses_iff (b : Bottle) : recordPasses b = true ↔ fitToPass b := by
  simp [recordPasses, fitToPass, entryFails_eq_false, and_assoc]

theorem recordPasses_eq_false {b : Bottle} {reason : RejectReason} {counter : Fin 11} (h : rejectedFor b reason counter) :
    recordPasses b = false := by
  rw [← Bool.not_eq_true, recordPasses_iff]
  rintro ⟨hfill, hverdicts, hsample⟩
  obtain ⟨hf, _⟩ | ⟨_, _, before, k, v, after, hlist, _, hv, _⟩ | ⟨_, _, hs, _⟩ := h
  · exact hf hfill
  · exact hv (hverdicts (k, v) (by simp [hlist]))
  · exact hs hsample

/-- The model's primary reason, and the counter it goes on, are the ones R13 orders. -/
theorem primaryReason_of_rejectedFor {b : Bottle} {reason : RejectReason} {counter : Fin 11}
    (h : rejectedFor b reason counter) :
    primaryReason b = reason ∧ lineCounterIx (rejectedCounter reason) = counter := by
  obtain ⟨hf, rfl, rfl⟩ | ⟨hf, rfl, before, k, v, after, hlist, hbefore, hv, rfl⟩ | ⟨hf, hok, _, rfl, rfl⟩ := h
  · exact ⟨if_pos hf, rfl⟩
  · have hfind : b.verdicts.find? entryFails = some (k, v) := by
      rw [hlist, List.find?_append, List.find?_eq_none.mpr fun x hx => by simp [entryFails_eq_false.mpr (hbefore x hx)],
        Option.none_or, List.find?_cons_of_pos (entryFails_eq_true.mpr hv)]
    exact ⟨by simp [primaryReason, hf, hfind], rfl⟩
  · have hfind : b.verdicts.find? entryFails = none :=
      List.find?_eq_none.mpr fun x hx => by simp [entryFails_eq_false.mpr (hok x hx)]
    exact ⟨by simp [primaryReason, hf, hfind], rfl⟩

/-! ## The failing cameras of a log entry (R15) -/

theorem getLsbD_foldl_withMember (l : List (CameraNo × Verdict)) (set : CameraSet) {i : Nat} (hi : i < 8) :
    (l.foldl (fun set v => withMember set v.1) set).getLsbD i = (set.getLsbD i || l.any fun v => v.1.val == i) := by
  induction l generalizing set with
  | nil => simp
  | cons v l ih =>
    have hbit : (withMember set v.1).getLsbD i = (set.getLsbD i || v.1.val == i) := by
      simp only [withMember, BitVec.getLsbD_or, BitVec.getLsbD_shiftLeft, BitVec.getLsbD_one]
      grind
    rw [List.foldl_cons, ih, hbit, List.any_cons, Bool.or_assoc]

theorem failingCameras_getLsbD (b : Bottle) {i : Nat} (hi : i < 8) :
    (failingCameras b).getLsbD i = b.verdicts.any fun v => v.1.val == i && v.2 != .ok := by
  simp [failingCameras, getLsbD_foldl_withMember _ _ hi, List.any_filter, entryFails, Bool.and_comm]

/-- The failing cameras are the set of cameras 0 to 5 whose entry is not OK. -/
theorem failingCameras_eq {b : Bottle} {failing : CameraSet}
    (hbits : ∀ k : CameraNo, failing.getLsbD k = b.verdicts.any fun v => v.1 == k && v.2 != .ok)
    (hsix : failing < (64#8 : CameraSet)) : failingCameras b = failing := by
  apply BitVec.eq_of_getLsbD_eq
  intro i hi
  rw [failingCameras_getLsbD b hi]
  by_cases hcamera : i < 6
  · rw [show failing.getLsbD i = _ from hbits ⟨i, hcamera⟩]
    simp only [beq_eq_decide, Fin.ext_iff]
  · have hfar : failing.getLsbD i = false :=
      Nat.testBit_lt_two_pow (hsix.trans_le (Nat.pow_le_pow_right (n := 2) (by decide) (not_lt.mp hcamera)))
    rw [hfar, List.any_eq_false]
    intro v _
    simp [show v.1.val ≠ i by omega]

/-! ## The gate step by its cases (R12 to R20) -/

/-- A record at L with GATE_PRES active passes or is rejected (R13). -/
theorem gateStep_present {s : State} {b : Bottle} {rest : List Bottle} (h : atGate s b rest)
    (hpres : s.inputs.gatePres = true) :
    gateStep s = if recordPasses b then s.passRecord b else s.rejectRecord b := by
  simp only [gateStep, recordAtGate_of_atGate h, hpres]

/-- A record at L with GATE_PRES inactive is lost (R18). -/
theorem gateStep_missing {s : State} {b : Bottle} {rest : List Bottle} (h : atGate s b rest)
    (hpres : s.inputs.gatePres = false) : gateStep s = s.loseRecord b := by
  simp only [gateStep, recordAtGate_of_atGate h, hpres]

/-- A container with no record at L is rejected (R19). -/
theorem gateStep_untracked {s : State} (h : ¬ ∃ b rest, atGate s b rest) (hpres : s.inputs.gatePres = true) :
    gateStep s = s.rejectUntracked := by
  simp only [gateStep, recordAtGate_eq_none h, hpres]

/-- With neither a record at L nor a container the verify slot is emptied (R12). -/
theorem gateStep_idle {s : State} (h : ¬ ∃ b rest, atGate s b rest) (hpres : s.inputs.gatePres = false) :
    gateStep s = s.emptyVerify := by
  simp only [gateStep, recordAtGate_eq_none h, hpres]

/-- The oldest record leaves, and its departure is announced (R20). -/
theorem removeOldest_announceDeparture {s : State} {b : Bottle} {rest : List Bottle} (h : s.ltr.track = b :: rest)
    (how : Departure) (reason : Option RejectReason) :
    s.removeOldest.announceDeparture b.serial how reason
      = sending (withLtr s { s.ltr with track := rest }) (leaving b.serial how reason) := by
  simp only [State.removeOldest, h, List.drop_one, List.tail_cons]
  rfl

/-- A record that leaves without a reject empties the verify slot and goes on its counter: PASSED (R13) and LOST (R18). -/
theorem leaves_unrejected {s : State} {b : Bottle} {rest : List Bottle} {c : LineCounter} (h : s.ltr.track = b :: rest)
    (hc : counts s (lineCounterIx c)) (how : Departure) :
    (s.emptyVerify.countLine c 1).removeOldest.announceDeparture b.serial how none
      = sending (withLtr s { s.ltr with verify := none, track := rest, counters := plusOne s (lineCounterIx c) })
          (leaving b.serial how none) := by
  rw [countLine_one (s := s.emptyVerify) hc, removeOldest_announceDeparture (by exact h)]
  rfl

/-- A reject actuates GATE, is logged, fills the verify slot and goes on its counter (R13 to R16). -/
theorem reject_eq {s : State} {c : LineCounter} (e : RejectEntry) (hc : counts s (lineCounterIx c)) :
    (s.actuateGate.recordReject e).countLine c 1
      = sending (withLtr s (afterReject s e (lineCounterIx c))) [.accountCount .gate] :=
  countLine_one (s := s.actuateGate.recordReject e) hc

theorem rejectRecord_eq {s : State} {b : Bottle} {rest : List Bottle} {reason : RejectReason} {counter : Fin 11}
    (h : s.ltr.track = b :: rest) (hr : rejectedFor b reason counter) (hc : counts s counter) :
    s.rejectRecord b = sending (withLtr s
      { afterReject s ⟨some b.serial, reason, failingCameras b, some b.fill, s.stamp, false⟩ counter with track := rest })
      (.accountCount .gate :: leaving b.serial .rejected (some reason)) := by
  obtain ⟨hreason, rfl⟩ := primaryReason_of_rejectedFor hr
  rw [State.rejectRecord, hreason, reject_eq _ hc, removeOldest_announceDeparture (by exact h), withLtr_sending, sending_sending]
  rfl

/-- Settles O3: the gate step's four cases, with the record at L and GATE_PRES deciding among them. -/
theorem gateDecidesTheRecordAtL : Obligations.GateDecidesTheRecordAtL := by
  intro s
  refine ⟨fun b rest h hpres hfit hc => ?passes, fun b rest reason counter failing h hpres hr hc hbits hsix => ?rejected,
    fun b rest h hpres hc => ?lost, fun h hpres hc => ?untracked, fun h hpres => gateStep_idle h hpres⟩
  case passes =>
    rw [gateStep_present h hpres, if_pos ((recordPasses_iff b).mpr hfit)]
    exact leaves_unrejected (c := .passed) h.1 hc .passed
  case rejected =>
    rw [gateStep_present h hpres, recordPasses_eq_false hr, ← failingCameras_eq hbits hsix]
    exact rejectRecord_eq h.1 hr hc
  case lost =>
    rw [gateStep_missing h hpres]
    exact leaves_unrejected (c := .lost) h.1 hc .lost
  case untracked =>
    rw [gateStep_untracked h hpres]
    exact reject_eq (c := .untrackedAtGate) _ hc

/-! ## Steps of the line (R2) -/

theorem setStep_eq_sending (s : State) (n : Nat) :
    s.setStep n = sending (withLtr s { s.ltr with step := n }) [.lineTrigger n] := rfl

/-- The LTR with a new debt settles TRACK_REVERSE and tells its change. -/
theorem settleReverse_eq_withDebt (s : State) (debt : Nat) :
    (s.setLtr { s.ltr with debt := debt }).settleReverse = withDebt s debt :=
  reportSource_eq_sending _ _ _ _

theorem forwardStep_within_pitch {s : State} (hdebt : s.ltr.debt = 0)
    (hstep : s.ltr.step + 1 < s.cfg.geometry.stepsPerPitch) : forwardStep s = s.setStep (s.ltr.step + 1) := by
  rw [forwardStep, if_pos hdebt, if_neg (not_le.mpr hstep)]

theorem forwardStep_ends_pitch {s : State} (hdebt : s.ltr.debt = 0)
    (hstep : s.cfg.geometry.stepsPerPitch ≤ s.ltr.step + 1) : forwardStep s = pitchEvent (s.setStep 0) := by
  rw [forwardStep, if_pos hdebt, if_pos hstep]

theorem forwardStep_repays {s : State} (hdebt : 0 < s.ltr.debt) : forwardStep s = withDebt s (s.ltr.debt - 1) := by
  rw [forwardStep, if_neg hdebt.ne', settleReverse_eq_withDebt]

theorem backwardStep_eq_withDebt (s : State) : backwardStep s = withDebt s (min (s.ltr.debt + 1) 65535) :=
  settleReverse_eq_withDebt s _

/-! ## What the three steps of a pitch event keep (R3) -/

/-- The pitch count stays, and reports only join the newest end of those in flight. -/
def keepsPitchAddsReports (s t : State) : Prop := t.ltr.pitch = s.ltr.pitch ∧ s.reports <+: t.reports

theorem keeps_refl (s : State) : keepsPitchAddsReports s s := ⟨rfl, ⟨[], List.append_nil _⟩⟩

theorem keeps_setLtr {s t : State} {l : Ltr} (h : keepsPitchAddsReports s t) (hl : l.pitch = t.ltr.pitch := by rfl) :
    keepsPitchAddsReports s (t.setLtr l) :=
  ⟨hl.trans h.1, h.2⟩

theorem keeps_sendAll {s t : State} (h : keepsPitchAddsReports s t) (cs : List Instr) :
    keepsPitchAddsReports s (t.sendAll cs) :=
  ⟨h.1, h.2.trans ⟨cs, rfl⟩⟩

theorem keeps_send {s t : State} (h : keepsPitchAddsReports s t) (c : Instr) : keepsPitchAddsReports s (t.send c) :=
  keeps_sendAll h [c]

theorem keeps_reportSource {s t : State} (h : keepsPitchAddsReports s t) (src : FaultSource) (before after : Bool) :
    keepsPitchAddsReports s (t.reportSource src before after) :=
  reportSource_eq_sending t src before after ▸ keeps_sendAll h _

theorem countLine_pitch (s : State) (c : LineCounter) (n : Nat) : (s.countLine c n).ltr.pitch = s.ltr.pitch := by
  simp only [State.countLine]; split <;> rfl

theorem keeps_countLine {s t : State} (h : keepsPitchAddsReports s t) (c : LineCounter) (n : Nat) :
    keepsPitchAddsReports s (t.countLine c n) :=
  ⟨(countLine_pitch t c n).trans h.1, (countLine_reports t c n).symm ▸ h.2⟩

theorem keeps_verifyStep {s t : State} (h : keepsPitchAddsReports s t) : keepsPitchAddsReports s (verifyStep t) := by
  unfold verifyStep
  split
  · exact keeps_send (keeps_countLine (keeps_setLtr h) _ _) _
  · exact h

theorem keeps_departure {s t : State} (h : keepsPitchAddsReports s t) (serial : Nat) (how : Departure)
    (reason : Option RejectReason) : keepsPitchAddsReports s (t.removeOldest.announceDeparture serial how reason) :=
  keeps_sendAll (keeps_setLtr h) _

theorem keeps_emptyVerify {s t : State} (h : keepsPitchAddsReports s t) : keepsPitchAddsReports s t.emptyVerify :=
  keeps_setLtr h

theorem keeps_reject {s t : State} (h : keepsPitchAddsReports s t) (e : RejectEntry) (c : LineCounter) :
    keepsPitchAddsReports s ((t.actuateGate.recordReject e).countLine c 1) :=
  keeps_countLine (keeps_setLtr (keeps_send (keeps_setLtr h) _)) _ _

theorem keeps_gateStep {s t : State} (h : keepsPitchAddsReports s t) : keepsPitchAddsReports s (gateStep t) := by
  unfold gateStep
  split
  · split
    · exact keeps_departure (keeps_countLine (keeps_emptyVerify h) _ _) _ _ _
    · exact keeps_departure (keeps_reject h _ _) _ _ _
  · exact keeps_departure (keeps_countLine (keeps_emptyVerify h) _ _) _ _ _
  · exact keeps_reject h _ _
  · exact keeps_emptyVerify h

theorem keeps_setTrackFull {s t : State} (h : keepsPitchAddsReports s t) (full : Bool) :
    keepsPitchAddsReports s (t.setTrackFull full) :=
  keeps_reportSource (keeps_setLtr h) _ _ _

theorem keeps_makeRecord {s t : State} (h : keepsPitchAddsReports s t) (serial : Nat) :
    keepsPitchAddsReports s (t.makeRecord serial) :=
  keeps_send (keeps_send (keeps_setTrackFull (keeps_countLine (keeps_setLtr h) _ _) _) _) _

theorem keeps_missInfeed {s t : State} (h : keepsPitchAddsReports s t) : keepsPitchAddsReports s t.missInfeed := by
  unfold State.missInfeed
  dsimp only
  split
  · exact keeps_countLine h _ _
  · exact keeps_setTrackFull (keeps_countLine h _ _) _

theorem keeps_infeedStep {s t : State} (h : keepsPitchAddsReports s t) : keepsPitchAddsReports s (infeedStep t) := by
  unfold infeedStep
  split
  · split
    · exact keeps_makeRecord h _
    · exact keeps_missInfeed h
  · exact h

theorem stepsMoveTheCountOrTheDebt : StepsMoveTheCountOrTheDebt := fun s =>
  ⟨fun hdebt hstep => (forwardStep_within_pitch hdebt hstep).trans (setStep_eq_sending s _),
    fun hdebt hstep => (forwardStep_ends_pitch hdebt hstep).trans (congrArg pitchEvent (setStep_eq_sending s 0)),
    forwardStep_repays, backwardStep_eq_withDebt s⟩

/-- The announcement is the model's own; the pitch count and the reports in flight are what the three steps keep. -/
theorem pitchEventRunsVerifyGateInfeed : PitchEventRunsVerifyGateInfeed := fun s =>
  ⟨rfl, keeps_infeedStep (keeps_gateStep (keeps_verifyStep (keeps_refl s.advancePitch)))⟩

/-- Settles O2: the step events' branches by count and debt, and the pitch event with what its three steps keep. -/
theorem stepsLeadToPitchEvents : Obligations.StepsLeadToPitchEvents :=
  ⟨stepsMoveTheCountOrTheDebt, pitchEventRunsVerifyGateInfeed⟩

end Sys2Proof.BottleTrack
end

section
/-!
SUPPORT. Fill cycles (chapter 3): the arbiter's rotation and its two outcomes in the words of the statements (mayTake, sending),
and the proof of the statement on the arbiter from them.
-/

namespace Sys2Proof.FillCycles

open Sys2Proof Sys2Proof.Machine Sys2Proof.Claims

/-! ## The arbiter's rotation (R52, R53) -/

/-- The model's eligibility is R52's. -/
theorem eligible_iff_mayTake (a : Axis) : a.eligible = true ↔ mayTake a := by
  cases hmotion : a.motion <;> simp [Axis.eligible, mayTake, hmotion, and_assoc]

theorem rotation_eq_ofFn (pointer : AxisNo) : rotation pointer = List.ofFn fun i : AxisNo => pointer + i := rfl

/-- The rotation passes over no axis. -/
theorem mem_rotation (pointer k : AxisNo) : k ∈ rotation pointer := by
  rw [rotation_eq_ofFn, List.mem_ofFn]
  exact ⟨k - pointer, add_sub_cancel pointer k⟩

/-- The axis to which the arbiter gives the next record. -/
def firstEligible (s : State) : Option AxisNo := (rotation s.fmu.pointer).find? fun k => (s.axis k).eligible

theorem firstEligible_received (s : State) (c : Instr) : firstEligible (s.received c) = firstEligible s := rfl

/-- The arbiter chooses the eligible axis at the least distance from the pointer. -/
theorem firstEligible_eq_some {s : State} {i : AxisNo} :
    firstEligible s = some (s.fmu.pointer + i) ↔
      mayTake (s.axis (s.fmu.pointer + i)) ∧ ∀ j < i, ¬ mayTake (s.axis (s.fmu.pointer + j)) := by
  simp only [← eligible_iff_mayTake]
  exact List.find?_ofFn_eq_some_of_injective (add_right_injective s.fmu.pointer)

theorem firstEligible_eq_none {s : State} : firstEligible s = none ↔ ∀ k, ¬ mayTake (s.axis k) := by
  simp only [firstEligible, List.find?_eq_none, mem_rotation, true_imp_iff, eligible_iff_mayTake]

/-! ## The assignment arbiter (R53) -/

/-- The chosen axis takes the record, and the pointer goes to the axis after it. -/
theorem exec_assignmentArbiter_takes {s : State} {k : AxisNo} (h : running s) (hk : firstEligible s = some k)
    (serial : Nat) (recipe : RecipeNo) (infeed : Pitch) :
    let c := Instr.assignmentArbiter serial recipe infeed
    let a' := (s.axis k).take serial recipe (infeed + BitVec.ofNat 32 s.cfg.axes[k].startOffset)
    exec c s = .next (sending { s.received c with fmu := { s.fmu with axes := s.fmu.axes.set k a', pointer := k + 1 } }
      [.fillReport serial (.axis k)]) := by
  intro c
  have hexec : exec c s = execAssignmentArbiter serial recipe infeed s := rfl
  rw [hexec, execAssignmentArbiter, taken_running h, ← firstEligible, firstEligible_received, hk]
  rfl

/-- With no axis to choose the record is reported NOT_FILLED, and nothing else changes. -/
theorem exec_assignmentArbiter_notFilled {s : State} (h : running s) (hnone : firstEligible s = none)
    (serial : Nat) (recipe : RecipeNo) (infeed : Pitch) :
    let c := Instr.assignmentArbiter serial recipe infeed
    exec c s = .next (sending (s.received c) [.fillReport serial (.result .notFilled)]) := by
  intro c
  have hexec : exec c s = execAssignmentArbiter serial recipe infeed s := rfl
  rw [hexec, execAssignmentArbiter, taken_running h, ← firstEligible, firstEligible_received, hnone]
  rfl

/-- Settles O12: the first axis of the rotation that may take the record takes it, and with none it is NOT_FILLED. -/
theorem arbiterGivesTheRecordInRotation : Obligations.ArbiterGivesTheRecordInRotation := fun serial recipe infeed _ h =>
  ⟨fun _ htakes hfirst =>
      exec_assignmentArbiter_takes h (firstEligible_eq_some.mpr ⟨htakes, hfirst⟩) serial recipe infeed,
    fun hnone => exec_assignmentArbiter_notFilled h (firstEligible_eq_none.mpr hnone) serial recipe infeed⟩

end Sys2Proof.FillCycles
end

section
/-!
SUPPORT. What a command leaves alone of the regions that the invariants read. Keeps is built up write by write along the model's
operations, in the order of the model's files; every invariant then looks only at the commands that write its own region.
-/

namespace Sys2Proof.Invariants

open Sys2Proof Sys2Proof.Machine Sys2Proof.Safety

/-! ## Regions -/

/-- The regions of the state that the invariants read, but the phase, the queue of commands and the notices. -/
inductive Region where
  | geometry | sources | ltr | fmu | ctu | stations | queries | inputQueue | reply | pml
deriving DecidableEq

/-- A region is the same in two states. -/
def agree (s t : State) : Region → Prop
  | .geometry => t.cfg.geometry = s.cfg.geometry
  | .sources => t.cfg.sources = s.cfg.sources
  | .ltr => t.ltr = s.ltr
  | .fmu => t.fmu = s.fmu
  | .ctu => t.ctu = s.ctu
  | .stations => (t.sws.table, t.sws.forgets) = (s.sws.table, s.sws.forgets)
  | .queries => t.sws.queries = s.sws.queries
  | .inputQueue => t.lnk.queue = s.lnk.queue
  | .reply => t.lnk.reply = s.lnk.reply
  | .pml => t.pml = s.pml

theorem agree_refl (s : State) (r : Region) : agree s s r := by cases r <;> rfl

theorem agree_trans {s t u : State} {r : Region} (h : agree s t r) (h' : agree t u r) : agree s u r := by
  cases r <;> exact Eq.trans h' h

/-- ATTN is high exactly while the part runs and the notice queue holds a notice (R190, R203). -/
def attnSettled (s : State) : Prop := s.lnk.attn = (s.phase == .running && !s.lnk.notices.isEmpty)

/-- What every command but a reset keeps: the phase, what waits outside, ATTN with its queue, and the regions it does not
write. -/
structure Keeps (written : List Region) (s t : State) : Prop where
  phase : t.phase = s.phase
  pending : t.pending = s.pending
  feed : t.feed = s.feed
  unwritten : ∀ r, r ∉ written → agree s t r
  attn : attnSettled s → attnSettled t
  room : s.lnk.notices.length ≤ 32 → t.lnk.notices.length ≤ 32

section

variable {ps : List Region} {s t u : State}

theorem Keeps.refl (ps : List Region) (s : State) : Keeps ps s s := ⟨rfl, rfl, rfl, fun r _ => agree_refl s r, id, id⟩

theorem Keeps.trans (h : Keeps ps s t) (h' : Keeps ps t u) : Keeps ps s u where
  phase := h'.phase.trans h.phase
  pending := h'.pending.trans h.pending
  feed := h'.feed.trans h.feed
  unwritten r hr := agree_trans (h.unwritten r hr) (h'.unwritten r hr)
  attn := h'.attn ∘ h.attn
  room := h'.room ∘ h.room

theorem Keeps.mono {qs : List Region} (h : Keeps qs s t) (hsub : ∀ r ∈ qs, r ∈ ps) : Keeps ps s t :=
  { h with unwritten := fun r hr => h.unwritten r fun hq => hr (hsub r hq) }

theorem Keeps.ite {c : Prop} [Decidable c] (h : Keeps ps s t) (h' : Keeps ps s u) : Keeps ps s (if c then t else u) := by
  split <;> assumption

/-- A fold of operations that each keep a frame keeps it. -/
theorem Keeps.foldl {α : Type} {f : State → α → State} (h : Keeps ps s t)
    (hf : ∀ u x, Keeps ps s u → Keeps ps s (f u x))
    (l : List α) : Keeps ps s (l.foldl f t) := by
  induction l generalizing t with
  | nil => exact h
  | cons x l ih => exact ih (hf t x h)

/-! ## Writes of one block -/

/-- A write that leaves the LNK alone keeps what it keeps of the regions. -/
theorem Keeps.write (h : Keeps ps s t) (hregions : ∀ r, r ∉ ps → agree t u r)
    (hrest : (u.phase, u.pending, u.feed, u.lnk) = (t.phase, t.pending, t.feed, t.lnk)) : Keeps ps s u := by
  simp only [Prod.mk.injEq] at hrest
  obtain ⟨hphase, hpending, hfeed, hlnk⟩ := hrest
  refine h.trans ⟨hphase, hpending, hfeed, hregions, fun ha => ?_, fun hn => ?_⟩
  · simpa only [attnSettled, hphase, hlnk] using ha
  · rwa [hlnk]

theorem Keeps.setReports (h : Keeps ps s t) (x : List Instr) : Keeps ps s (t.setReports x) :=
  h.write (fun r _ => by cases r <;> rfl) rfl

theorem Keeps.received (h : Keeps ps s t) (c : Instr) : Keeps ps s (t.received c) := h.setReports _

theorem Keeps.send (h : Keeps ps s t) (c : Instr) : Keeps ps s (t.send c) := h.setReports _

theorem Keeps.sendAll (h : Keeps ps s t) (cs : List Instr) : Keeps ps s (t.sendAll cs) := h.setReports _

theorem Keeps.setInputs (h : Keeps ps s t) (x : Inputs) : Keeps ps s (t.setInputs x) :=
  h.write (fun r _ => by cases r <;> rfl) rfl

theorem Keeps.setDraws (h : Keeps ps s t) (x : Nat) : Keeps ps s (t.setDraws x) :=
  h.write (fun r _ => by cases r <;> rfl) rfl

theorem Keeps.setAcu (h : Keeps ps s t) (x : Acu) : Keeps ps s (t.setAcu x) :=
  h.write (fun r _ => by cases r <;> rfl) rfl

theorem Keeps.setTmu (h : Keeps ps s t) (x : Tmu) : Keeps ps s (t.setTmu x) :=
  h.write (fun r _ => by cases r <;> rfl) rfl

theorem Keeps.setSst (h : Keeps ps s t) (x : Sst) : Keeps ps s (t.setSst x) :=
  h.write (fun r _ => by cases r <;> rfl) rfl

theorem Keeps.markDirty (h : Keeps ps s t) : Keeps ps s t.markDirty := h.setSst _

/-- A region that a frame names as written. -/
theorem absurd_unwritten {r : Region} {P : Prop} (hp : ps.contains r = true) (hr : r ∉ ps) : P :=
  absurd (List.contains_iff_mem.mp hp) hr

theorem Keeps.setLtr (h : Keeps ps s t) (hp : ps.contains .ltr = true) (x : Ltr) : Keeps ps s (t.setLtr x) := by
  refine h.write (fun r hr => ?_) rfl
  cases r
  case ltr => exact absurd_unwritten hp hr
  all_goals rfl

theorem Keeps.setFmu (h : Keeps ps s t) (hp : ps.contains .fmu = true) (x : Fmu) : Keeps ps s (t.setFmu x) := by
  refine h.write (fun r hr => ?_) rfl
  cases r
  case fmu => exact absurd_unwritten hp hr
  all_goals rfl

theorem Keeps.setCtu (h : Keeps ps s t) (hp : ps.contains .ctu = true) (x : Ctu) : Keeps ps s (t.setCtu x) := by
  refine h.write (fun r hr => ?_) rfl
  cases r
  case ctu => exact absurd_unwritten hp hr
  all_goals rfl

theorem Keeps.setPml (h : Keeps ps s t) (hp : ps.contains .pml = true) (x : Pml) : Keeps ps s (t.setPml x) := by
  refine h.write (fun r hr => ?_) rfl
  cases r
  case pml => exact absurd_unwritten hp hr
  all_goals rfl

/-- A write of the working copy, with the geometry and the sources as they are unless the frame names them. -/
theorem Keeps.setCfg (h : Keeps ps s t) (x : Settings)
    (hg : ps.contains .geometry = true ∨ x.geometry = t.cfg.geometry)
    (hs : ps.contains .sources = true ∨ x.sources = t.cfg.sources) : Keeps ps s (t.setCfg x) := by
  refine h.write (fun r hr => ?_) rfl
  cases r
  case geometry => exact hg.elim (absurd_unwritten · hr) id
  case sources => exact hs.elim (absurd_unwritten · hr) id
  all_goals rfl

/-- A new working copy with the same geometry and sources. -/
theorem Keeps.configure (h : Keeps ps s t) (x : Settings) (hx : (x.geometry, x.sources) = (t.cfg.geometry, t.cfg.sources)) :
    Keeps ps s (t.configure x) :=
  (h.setCfg x (.inr (Prod.ext_iff.mp hx).1) (.inr (Prod.ext_iff.mp hx).2)).markDirty

theorem Keeps.configureGeometry (h : Keeps ps s t) (hp : ps.contains .geometry = true) (g : Geometry) :
    Keeps ps s (t.configure { t.cfg with geometry := g }) :=
  (h.setCfg { t.cfg with geometry := g } (.inl hp) (.inr rfl)).markDirty

theorem Keeps.configureSources (h : Keeps ps s t) (hp : ps.contains .sources = true) (x : Vector SourceSettings 16) :
    Keeps ps s (t.configure { t.cfg with sources := x }) :=
  (h.setCfg { t.cfg with sources := x } (.inr rfl) (.inl hp)).markDirty

/-- A write of the SWS that leaves stations, forgets and queries alone. -/
theorem Keeps.setSws (h : Keeps ps s t) (x : Sws)
    (hx : (x.table, x.forgets, x.queries) = (t.sws.table, t.sws.forgets, t.sws.queries)) : Keeps ps s (t.setSws x) := by
  simp only [Prod.mk.injEq] at hx
  obtain ⟨htable, hforgets, hqueries⟩ := hx
  refine h.write (fun r _ => ?_) rfl
  cases r
  case stations => exact congrArg₂ Prod.mk htable hforgets
  case queries => exact hqueries
  all_goals rfl

theorem Keeps.setStations (h : Keeps ps s t) (hp : ps.contains .stations = true) (x : Sws)
    (hx : x.queries = t.sws.queries) : Keeps ps s (t.setSws x) := by
  refine h.write (fun r hr => ?_) rfl
  cases r
  case stations => exact absurd_unwritten hp hr
  case queries => exact hx
  all_goals rfl

theorem Keeps.setQueries (h : Keeps ps s t) (hp : ps.contains .queries = true) (x : List Query) :
    Keeps ps s (t.setSws { t.sws with queries := x }) := by
  refine h.write (fun r hr => ?_) rfl
  cases r
  case queries => exact absurd_unwritten hp hr
  all_goals rfl

/-- A write of the LNK that leaves the notices and ATTN alone, and the input queue and the reply unless the frame names them. -/
theorem Keeps.writeLnk (h : Keeps ps s t) (x : Lnk) (hn : (x.notices, x.attn) = (t.lnk.notices, t.lnk.attn))
    (hq : ps.contains .inputQueue = true ∨ x.queue = t.lnk.queue)
    (hr : ps.contains .reply = true ∨ x.reply = t.lnk.reply) : Keeps ps s (t.setLnk x) := by
  simp only [Prod.mk.injEq] at hn
  obtain ⟨hnotices, hattn⟩ := hn
  refine h.trans ⟨rfl, rfl, rfl, fun r hmem => ?_, fun ha => ?_, fun hroom => ?_⟩
  · cases r
    case inputQueue => exact hq.elim (absurd_unwritten · hmem) id
    case reply => exact hr.elim (absurd_unwritten · hmem) id
    all_goals rfl
  · simpa only [attnSettled, setLnk_lnk, setLnk_phase, hnotices, hattn] using ha
  · rwa [setLnk_lnk, hnotices]

theorem Keeps.setLnk (h : Keeps ps s t) (x : Lnk)
    (hx : (x.notices, x.attn, x.queue, x.reply) = (t.lnk.notices, t.lnk.attn, t.lnk.queue, t.lnk.reply)) :
    Keeps ps s (t.setLnk x) := by
  simp only [Prod.mk.injEq] at hx
  obtain ⟨hnotices, hattn, hqueue, hreply⟩ := hx
  exact h.writeLnk x (congrArg₂ Prod.mk hnotices hattn) (.inr hqueue) (.inr hreply)

/-! ## The shared operations -/

/-- A posting makes ATTN what it should be, and leaves the notices in their room (R189, R190). -/
theorem post_attnSettled (s : State) (n : Notice) : attnSettled (s.post n) := by
  simp only [attnSettled, post_lnk, post_attn_eq, post_queue_eq, post_phase]

theorem post_reply_queue (l : Lnk) (p : PostedNotice) (running : Bool) :
    (l.post p running).reply = l.reply ∧ (l.post p running).queue = l.queue := by
  simp only [Lnk.post]
  split <;> split <;> exact ⟨rfl, rfl⟩

theorem Keeps.post (h : Keeps ps s t) (n : Notice) : Keeps ps s (t.post n) := by
  refine h.trans ⟨rfl, rfl, rfl, fun r _ => ?_, fun _ => post_attnSettled t n, fun hroom => ?_⟩
  · cases r
    case reply => exact (post_reply_queue _ _ _).1
    case inputQueue => exact (post_reply_queue _ _ _).2
    all_goals rfl
  · rw [post_lnk, post_queue_eq]
    exact placeNotice_length hroom _

theorem Keeps.answer (h : Keeps ps s t) (hp : ps.contains .reply = true) (a : Answer) : Keeps ps s (t.answer a) := by
  unfold State.answer
  split
  · exact h.writeLnk _ (by rfl) (.inr (by rfl)) (.inl hp)
  · exact h.setLnk _ (by rfl)

theorem Keeps.replyOk (h : Keeps ps s t) (hp : ps.contains .reply = true) (b : List Byte) : Keeps ps s (t.replyOk b) :=
  h.answer hp _

theorem Keeps.replyAccepted (h : Keeps ps s t) (hp : ps.contains .reply = true) (b : List Byte) :
    Keeps ps s (t.replyAccepted b) := h.answer hp _

theorem Keeps.refuse (h : Keeps ps s t) (hp : ps.contains .reply = true) (r : Reason) : Keeps ps s (t.refuse r) :=
  h.answer hp _

theorem Keeps.withLevel (h : Keeps ps s t) (hp : ps.contains .reply = true) (need : Nat) {f : State → State}
    (hf : Keeps ps s (f t)) : Keeps ps s (t.withLevel need f) := (h.refuse hp _).ite hf

theorem Keeps.require (h : Keeps ps s t) (hp : ps.contains .reply = true) (ok : Bool) (r : Reason) {f : State → State}
    (hf : Keeps ps s (f t)) : Keeps ps s (t.require ok r f) := hf.ite (h.refuse hp r)

theorem Keeps.requireSome {α : Type} (h : Keeps ps s t) (hp : ps.contains .reply = true) (x : Option α) (r : Reason)
    {f : α → State → State}
    (hf : ∀ v, Keeps ps s (f v t)) : Keeps ps s (t.requireSome x r f) := by
  cases x with
  | none => exact h.refuse hp r
  | some v => exact hf v

theorem Keeps.reportSource (h : Keeps ps s t) (src : FaultSource) (a b : Bool) : Keeps ps s (t.reportSource src a b) :=
  h.ite (h.send _)

theorem Keeps.setSource (h : Keeps ps s t) (hp : ps.contains .pml = true) (n : Fin 16) (x : Source) :
    Keeps ps s (t.setSource n x) := h.setPml hp _

theorem Keeps.weigh (h : Keeps ps s t) (hp : ps.contains .pml = true) (n : Fin 16) : Keeps ps s (t.weigh n) :=
  h.setSource hp _ _

theorem Keeps.settlePermit (h : Keeps ps s t) (hp : ps.contains .pml = true) (src : FaultSource) (c : PermitCause) :
    Keeps ps s (t.settlePermit src c) := h.ite ((h.setPml hp _).post _)

theorem Keeps.postFault (h : Keeps ps s t) (src : FaultSource) (r : Raise) : Keeps ps s (t.postFault src r) := h.post _

theorem Keeps.activateSource (h : Keeps ps s t) (hp : ps.contains .pml = true) (src : FaultSource) :
    Keeps ps s (t.activateSource src) :=
  h.ite ((((h.setSource hp _ _).weigh hp _).postFault _ _).settlePermit hp _ _)

theorem Keeps.deactivateSource (h : Keeps ps s t) (hp : ps.contains .pml = true) (src : FaultSource) :
    Keeps ps s (t.deactivateSource src) :=
  Keeps.ite (((h.setSource hp _ _).weigh hp _).settlePermit hp _ _) h

theorem Keeps.latchSource (h : Keeps ps s t) (hp : ps.contains .pml = true) (src : FaultSource) :
    Keeps ps s (t.latchSource src) :=
  Keeps.ite ((((h.setSource hp _ _).weigh hp _).postFault _ _).settlePermit hp _ _) h

theorem Keeps.countLine (h : Keeps ps s t) (hp : ps.contains .ltr = true) (c : LineCounter) (n : Nat) :
    Keeps ps s (t.countLine c n) :=
  Keeps.ite (h.setLtr hp _) ((h.setLtr hp _).setDraws _)

theorem Keeps.countSwitch (h : Keeps ps s t) (c : SwitchCounter) : Keeps ps s (t.countSwitch c) := h.setSws _ (by rfl)

theorem Keeps.countLink (h : Keeps ps s t) (c : LinkCounter) : Keeps ps s (t.countLink c) := h.setLnk _ (by rfl)

theorem Keeps.setAxis (h : Keeps ps s t) (hp : ps.contains .fmu = true) (k : AxisNo) (a : Axis) :
    Keeps ps s (t.setAxis k a) := h.setFmu hp _

theorem Keeps.setCamera (h : Keeps ps s t) (hp : ps.contains .ctu = true) (k : CameraNo) (c : Camera) :
    Keeps ps s (t.setCamera k c) := h.setCtu hp _

theorem Keeps.setGrant (h : Keeps ps s t) (i : Fin 4) (g : Option Grant) : Keeps ps s (t.setGrant i g) := h.setAcu _

theorem Keeps.setWatch (h : Keeps ps s t) (w : WatchNo) (x : Option Watch) : Keeps ps s (t.setWatch w x) := h.setAcu _

theorem Keeps.setHolder (h : Keeps ps s t) (k : AxisNo) (w : Option WatchNo) : Keeps ps s (t.setHolder k w) := h.setAcu _

theorem Keeps.setPort (h : Keeps ps s t) (p : PortIx) (x : Port) : Keeps ps s (t.setPort p x) := h.setSws _ (by rfl)

theorem Keeps.setStationSet (h : Keeps ps s t) (hp : ps.contains .stations = true) (n : Fin 16) (x : StationSet) :
    Keeps ps s (t.setStationSet n x) := h.setStations hp _ (by rfl)

/-- The members of a set, one after another. -/
theorem Keeps.runMembersDetailed {α : Type} (h : Keeps ps s t) (members : List α) (number : α → Nat)
    {f : α → State → State × MemberResult × Nat} (hf : ∀ m u, Keeps ps s u → Keeps ps s (f m u).1) :
    Keeps ps s (runMembersDetailed members number f t).1 := by
  unfold Machine.runMembersDetailed
  generalize ([] : List Byte) = bytes
  induction members generalizing t bytes with
  | nil => exact h
  | cons m rest ih => exact ih (hf m t h) _

theorem Keeps.runMembers {α : Type} (h : Keeps ps s t) (members : List α) (number : α → Nat)
    {f : α → State → State × MemberResult} (hf : ∀ m u, Keeps ps s u → Keeps ps s (f m u).1) :
    Keeps ps s (runMembers members number f t).1 := h.runMembersDetailed _ _ hf

theorem Keeps.onAxes (h : Keeps ps s t) (hp : ps.contains .reply = true) (axes : AxisSet)
    {f : AxisNo → State → State × MemberResult}
    (hf : ∀ k u, Keeps ps s u → Keeps ps s (f k u).1) : Keeps ps s (t.onAxes axes f) :=
  (h.runMembers _ _ hf).replyOk hp _

theorem Keeps.onCameras (h : Keeps ps s t) (hp : ps.contains .reply = true) (cameras : CameraSet)
    {f : CameraNo → State → State × MemberResult}
    (hf : ∀ k u, Keeps ps s u → Keeps ps s (f k u).1) :
    Keeps ps s (t.onCameras cameras f) := (h.runMembers _ _ hf).replyOk hp _

theorem Keeps.afterGrant (h : Keeps ps s t) (check : Option Reason) {f : State → State × MemberResult}
    (hf : Keeps ps s (f t).1) : Keeps ps s (afterGrant check t f).1 := by
  cases check with
  | none => exact hf
  | some _ => exact h

theorem Keeps.wholeSet (h : Keeps ps s t) (hp : ps.contains .reply = true) (named : Bool) (need : Nat) (common : Bool)
    {f : State → State}
    (hf : Keeps ps s (f t)) : Keeps ps s (t.wholeSet named need common f) :=
  h.require hp _ _ (h.withLevel hp _ (h.require hp _ _ hf))

end

end Sys2Proof.Invariants
end

section
/-!
SUPPORT. What the operations of the LTR, the FMU and the CTU leave alone, one lemma an operation, in the order of the model.
-/

namespace Sys2Proof.Invariants

open Sys2Proof Sys2Proof.Machine Sys2Proof.Safety

section

variable {ps : List Region} {s t : State}

/-! ## The track (chapter 1) -/

theorem Keeps.settleReverse (h : Keeps ps s t) (hp : ps.contains .ltr = true) : Keeps ps s t.settleReverse :=
  (h.setLtr hp _).reportSource _ _ _

theorem Keeps.actuateGate (h : Keeps ps s t) (hp : ps.contains .ltr = true) : Keeps ps s t.actuateGate :=
  (h.setLtr hp _).send _

theorem Keeps.leave (h : Keeps ps s t) (hp : ps.contains .ltr = true) (serial : Nat) (how : Departure)
    (reason : Option RejectReason) : Keeps ps s (t.removeOldest.announceDeparture serial how reason) :=
  (h.setLtr hp _).sendAll _

theorem Keeps.reject (h : Keeps ps s t) (hp : ps.contains .ltr = true) (e : RejectEntry) (c : LineCounter) :
    Keeps ps s ((t.actuateGate.recordReject e).countLine c 1) :=
  ((h.actuateGate hp).setLtr hp _).countLine hp _ _

theorem Keeps.gateStep (h : Keeps ps s t) (hp : ps.contains .ltr = true) : Keeps ps s (gateStep t) := by
  unfold Machine.gateStep
  split
  · exact (((h.setLtr hp _).countLine hp _ _).leave hp _ _ _).ite ((h.reject hp _ _).leave hp _ _ _)
  · exact ((h.setLtr hp _).countLine hp _ _).leave hp _ _ _
  · exact h.reject hp _ _
  · exact h.setLtr hp _

theorem Keeps.verifyStep (h : Keeps ps s t) (hp : ps.contains .ltr = true) : Keeps ps s (verifyStep t) :=
  (((h.setLtr hp _).countLine hp _ _).send _).ite h

theorem Keeps.setTrackFull (h : Keeps ps s t) (hp : ps.contains .ltr = true) (full : Bool) :
    Keeps ps s (t.setTrackFull full) := (h.setLtr hp _).reportSource _ _ _

theorem Keeps.makeRecord (h : Keeps ps s t) (hp : ps.contains .ltr = true) (serial : Nat) :
    Keeps ps s (t.makeRecord serial) :=
  (((((h.setLtr hp _).countLine hp _ _).setTrackFull hp _).send _).send _)

theorem Keeps.missInfeed (h : Keeps ps s t) (hp : ps.contains .ltr = true) : Keeps ps s t.missInfeed :=
  (h.countLine hp _ _).ite ((h.countLine hp _ _).setTrackFull hp _)

theorem Keeps.infeedStep (h : Keeps ps s t) (hp : ps.contains .ltr = true) : Keeps ps s (infeedStep t) := by
  unfold Machine.infeedStep
  split
  · split
    · exact h.makeRecord hp _
    · exact h.missInfeed hp
  · exact h

theorem Keeps.pitchEvent (h : Keeps ps s t) (hp : ps.contains .ltr = true) : Keeps ps s (pitchEvent t) :=
  ((((h.setLtr hp _).verifyStep hp).gateStep hp).infeedStep hp).sendAll _

theorem Keeps.setStep (h : Keeps ps s t) (hp : ps.contains .ltr = true) (n : Nat) : Keeps ps s (t.setStep n) :=
  (h.setLtr hp _).send _

theorem Keeps.forwardStep (h : Keeps ps s t) (hp : ps.contains .ltr = true) : Keeps ps s (forwardStep t) :=
  (((h.setStep hp _).pitchEvent hp).ite (h.setStep hp _)).ite ((h.setLtr hp _).settleReverse hp)

theorem Keeps.backwardStep (h : Keeps ps s t) (hp : ps.contains .ltr = true) : Keeps ps s (backwardStep t) :=
  (h.setLtr hp _).settleReverse hp

theorem Keeps.applyGeometry (h : Keeps ps s t) (hg : ps.contains .geometry = true) (hp : ps.contains .ltr = true)
    (g : Geometry) : Keeps ps s (t.applyGeometry g) :=
  ((h.configureGeometry hg _).ite ((h.configureGeometry hg _).setStep hp _)).settleReverse hp

theorem Keeps.clearTrack (h : Keeps ps s t) (hp : ps.contains .ltr = true) : Keeps ps s t.clearTrack :=
  ((h.countLine hp _ _).setLtr hp _).sendAll _

/-! ## One axis (chapters 2 and 3) -/

theorem Keeps.dropFill (h : Keeps ps s t) (hp : ps.contains .fmu = true) (k : AxisNo) : Keeps ps s (t.dropFill k) :=
  (h.setAxis hp _ _).sendAll _

theorem Keeps.reportRest (h : Keeps ps s t) (k : AxisNo) : Keeps ps s (t.reportRest k) := by
  unfold State.reportRest
  split
  · exact h.send _
  · exact h

theorem Keeps.notifyRest (h : Keeps ps s t) (hp : ps.contains .fmu = true) (k : AxisNo) (c : EndCause) :
    Keeps ps s (t.notifyRest k c) := ((h.setAxis hp _ _).post _).ite h

theorem Keeps.haltAxis (h : Keeps ps s t) (hp : ps.contains .fmu = true) (k : AxisNo) (c : HaltCause) :
    Keeps ps s (t.haltAxis k c) := by
  unfold State.haltAxis
  dsimp only
  refine h.ite ((Keeps.post (Keeps.ite (Keeps.reportRest ?_ k) ?_) _).reportSource _ _ _)
  all_goals exact ((h.dropFill hp k).setAxis hp _ _).send _

theorem Keeps.beginMove (h : Keeps ps s t) (hp : ps.contains .fmu = true) (k : AxisNo) (down : Bool) (count : Option Nat)
    (p : Profile) (flat : Bool) : Keeps ps s (t.beginMove k down count p flat) :=
  ((h.setAxis hp _ _).haltAxis hp _ _).ite (h.setAxis hp _ _)

theorem Keeps.beginSlowing (h : Keeps ps s t) (hp : ps.contains .fmu = true) (k : AxisNo) :
    Keeps ps s (t.beginSlowing k) := ((h.setAxis hp _ _).haltAxis hp _ _).ite (h.setAxis hp _ _)

theorem Keeps.comeToRest (h : Keeps ps s t) (hp : ps.contains .fmu = true) (k : AxisNo) (m : Motion) (c : EndCause) :
    Keeps ps s (t.comeToRest k m c) := ((h.setAxis hp _ _).reportRest _).notifyRest hp _ _

theorem Keeps.stopSlowly (h : Keeps ps s t) (hp : ps.contains .fmu = true) (k : AxisNo) : Keeps ps s (t.stopSlowly k) :=
  (h.comeToRest hp _ _ _).ite ((h.setAxis hp _ _).beginSlowing hp _)

theorem Keeps.stopAtOnce (h : Keeps ps s t) (hp : ps.contains .fmu = true) (k : AxisNo) : Keeps ps s (t.stopAtOnce k) :=
  (h.setAxis hp _ _).comeToRest hp _ _ _

theorem Keeps.endValveTest (h : Keeps ps s t) (hp : ps.contains .fmu = true) (k : AxisNo) :
    Keeps ps s (t.endValveTest k) := by
  unfold State.endValveTest
  dsimp only
  split
  · exact h.setAxis hp _ _
  · exact h

theorem Keeps.completeRaise (h : Keeps ps s t) (hp : ps.contains .fmu = true) (k : AxisNo) :
    Keeps ps s (t.completeRaise k) := by
  unfold State.completeRaise
  dsimp only
  split
  · exact h.setAxis hp _ _
  · exact ((h.setAxis hp _ _).sendAll _).reportRest _

theorem Keeps.beginSegment (h : Keeps ps s t) (hp : ps.contains .fmu = true) (k : AxisNo) (phase : FillPhase) :
    Keeps ps s (t.beginSegment k phase) := by
  unfold State.beginSegment
  dsimp only
  split
  · exact h
  · cases phase
    · exact h.beginMove hp _ _ _ _ _
    · exact h.setAxis hp _ _
    · exact (h.completeRaise hp _).ite (h.beginMove hp _ _ _ _ _)

theorem Keeps.phaseEntry (h : Keeps ps s t) (hp : ps.contains .fmu = true) (k : AxisNo) (phase : FillPhase) :
    Keeps ps s (t.phaseEntry k phase) := by
  unfold State.phaseEntry
  dsimp only
  split
  · exact (h.setAxis hp _ _).send _
  · exact ((h.setAxis hp _ _).send _).beginSegment hp _ _

theorem Keeps.consultAgain (h : Keeps ps s t) (hp : ps.contains .fmu = true) (k : AxisNo) :
    Keeps ps s (t.consultAgain k) := by
  unfold State.consultAgain
  dsimp only
  split
  · exact h.setAxis hp _ _
  · split
    · exact (h.setAxis hp _ _).send _
    · exact (h.setAxis hp _ _).beginSegment hp _ _

theorem Keeps.completeLowering (h : Keeps ps s t) (hp : ps.contains .fmu = true) (k : AxisNo) :
    Keeps ps s (t.completeLowering k) := ((h.setAxis hp _ _).reportRest _).phaseEntry hp _ _

theorem Keeps.closeFill (h : Keeps ps s t) (hp : ps.contains .fmu = true) (k : AxisNo) : Keeps ps s (t.closeFill k) := by
  unfold State.closeFill
  extract_lets a s1
  have h1 : Keeps ps s s1 := (h.setAxis hp _ _).sendAll _
  split
  · exact ((h1.completeLowering hp _).ite (h1.beginSlowing hp _)).ite (h1.phaseEntry hp _ _)
  · exact (h1.setAxis hp _ _).phaseEntry hp _ _
  · exact h1.ite (h1.beginSegment hp _ _)
  · exact h1

theorem Keeps.windowExpiry (h : Keeps ps s t) (hp : ps.contains .fmu = true) (k : AxisNo) (pitch : Pitch) :
    Keeps ps s (t.windowExpiry k pitch) := by
  unfold State.windowExpiry
  split
  · exact (((h.setAxis hp _ _).send _).closeFill hp _).ite h
  · exact h

theorem Keeps.startDue (h : Keeps ps s t) (hp : ps.contains .fmu = true) (k : AxisNo) (pitch : Pitch) :
    Keeps ps s (t.startDue k pitch) := by
  unfold State.startDue
  dsimp only
  split
  · exact h
  · exact (((h.setAxis hp _ _).send _).phaseEntry hp _ _).ite ((h.setAxis hp _ _).send _)

theorem Keeps.axisPitch (h : Keeps ps s t) (hp : ps.contains .fmu = true) (pitch : Pitch) (k : AxisNo) :
    Keeps ps s (t.axisPitch pitch k) := (h.windowExpiry hp _ _).startDue hp _ _

theorem Keeps.completeMove (h : Keeps ps s t) (hp : ps.contains .fmu = true) (k : AxisNo) :
    Keeps ps s (t.completeMove k) := by
  unfold State.completeMove
  split
  · exact h.comeToRest hp _ _ _
  · exact h.comeToRest hp _ _ _
  · exact h.haltAxis hp _ _
  · exact h.completeLowering hp _
  · exact h.completeRaise hp _
  · exact h

theorem Keeps.findHome (h : Keeps ps s t) (hp : ps.contains .fmu = true) (k : AxisNo) : Keeps ps s (t.findHome k) :=
  ((h.setAxis hp _ _).reportRest _).post _

theorem Keeps.beginHoming (h : Keeps ps s t) (hp : ps.contains .fmu = true) (k : AxisNo) :
    Keeps ps s (t.beginHoming k) := by
  unfold State.beginHoming
  dsimp only
  split
  · exact ((h.setAxis hp _ _).send _).beginMove hp _ _ _ _ _
  · exact (h.setAxis hp _ _).beginMove hp _ _ _ _ _

theorem Keeps.homeMember (h : Keeps ps s t) (hp : ps.contains .fmu = true) (k : AxisNo) :
    Keeps ps s (homeMember k t).1 := by
  unfold Machine.homeMember
  dsimp only
  split
  · exact h
  · split
    all_goals try exact h
    all_goals
      split
      · exact h
      · split
        · exact (h.setAxis hp _ _).post _
        · exact h.beginHoming hp _

theorem Keeps.clearHaltMember (h : Keeps ps s t) (hp : ps.contains .fmu = true) (k : AxisNo) :
    Keeps ps s (clearHaltMember k t).1 := by
  unfold Machine.clearHaltMember
  dsimp only
  split
  · exact h
  · split
    · exact h
    · exact (h.setAxis hp _ _).reportSource _ _ _

theorem Keeps.stopEffect (h : Keeps ps s t) (hp : ps.contains .fmu = true) (mode : StopMode) (k : AxisNo) :
    Keeps ps s (stopEffect mode k t).1 := by
  have hdrop : Keeps ps s (t.dropFill k) := h.dropFill hp k
  unfold Machine.stopEffect
  dsimp only
  split
  case h_1 | h_2 | h_3 | h_16 => exact h
  case h_4 => exact h.setAxis hp _ _
  case h_5 => exact hdrop.setAxis hp _ _
  case h_6 => exact ((h.setAxis hp _ _).dropFill hp _).setAxis hp _ _
  case h_7 | h_8 =>
    split
    · exact hdrop.setAxis hp _ _
    · split
      · exact hdrop.setAxis hp _ _
      · exact hdrop.stopSlowly hp _
  case h_9 | h_10 =>
    split
    · exact hdrop.setAxis hp _ _
    · exact hdrop.stopAtOnce hp _
  case h_11 | h_12 => exact h.stopSlowly hp _
  case h_13 | h_14 | h_15 => exact h.stopAtOnce hp _

theorem Keeps.stopMember (h : Keeps ps s t) (hp : ps.contains .fmu = true) (mode : StopMode) (notify : Bool) (k : AxisNo) :
    Keeps ps s (stopMember mode notify k t).1 :=
  have hr := ((h.setAxis hp k { t.axis k with notify := (t.axis k).notify || notify }).endValveTest hp k).stopEffect hp mode k
  hr.ite (hr.notifyRest hp _ _)

theorem Keeps.dutyMember (h : Keeps ps s t) (hp : ps.contains .fmu = true) (duty : Duty) (k : AxisNo) :
    Keeps ps s (dutyMember duty k t).1 := by
  unfold Machine.dutyMember
  dsimp only
  split
  · exact h
  · exact h
  · split
    · exact h.setAxis hp _ _
    · exact h
  · split
    · exact h
    · exact h.setAxis hp _ _

theorem Keeps.beginManual (h : Keeps ps s t) (hp : ps.contains .fmu = true) (k : AxisNo) (down : Bool) (count : Option Nat)
    (flat : Bool) : Keeps ps s (t.beginManual k down count flat) :=
  (h.setAxis hp _ _).beginMove hp _ _ _ _ _

theorem Keeps.moveMember (h : Keeps ps s t) (hp : ps.contains .fmu = true) (target : Int) (k : AxisNo) :
    Keeps ps s (moveMember target k t).1 := by
  unfold Machine.moveMember
  dsimp only
  split
  · exact h
  · split
    · exact h
    · split
      · exact (h.setAxis hp _ _).notifyRest hp _ _
      · exact h.beginManual hp _ _ _ _

theorem Keeps.jogMember (h : Keeps ps s t) (hp : ps.contains .fmu = true) (down : Bool) (k : AxisNo) :
    Keeps ps s (jogMember down k t).1 := by
  unfold Machine.jogMember
  dsimp only
  split
  · exact h
  · split
    · split
      · exact h
      · exact h.beginManual hp _ _ _ _
    · exact h.beginManual hp _ _ _ _

theorem Keeps.valveMember (h : Keeps ps s t) (hp : ps.contains .fmu = true) (durationMs : Nat) (k : AxisNo) :
    Keeps ps s (valveMember durationMs k t).1 := by
  unfold Machine.valveMember
  dsimp only
  split
  · exact h
  · exact h.setAxis hp _ _

theorem Keeps.closeAxis (h : Keeps ps s t) (hp : ps.contains .fmu = true) (k : AxisNo) : Keeps ps s (t.closeAxis k) := by
  unfold State.closeAxis
  dsimp only
  split
  · exact h
  · split
    · exact (h.endValveTest hp _).notifyRest hp _ _
    · split
      · exact h.stopSlowly hp _
      · exact h.stopSlowly hp _
      · exact h

theorem Keeps.departAxis (h : Keeps ps s t) (hp : ps.contains .fmu = true) (serial : Nat) (k : AxisNo) :
    Keeps ps s (t.departAxis serial k) :=
  (((h.setAxis hp _ _).closeFill hp _).ite (h.setAxis hp _ _)).ite h

theorem Keeps.clearAxis (h : Keeps ps s t) (hp : ps.contains .fmu = true) (k : AxisNo) : Keeps ps s (t.clearAxis k) :=
  ((h.setAxis hp _ _).closeFill hp _).ite (h.setAxis hp _ _)

theorem Keeps.reportActiveSet (h : Keeps ps s t) : Keeps ps s t.reportActiveSet := h.send _

theorem Keeps.writeRecipe (h : Keeps ps s t) (n : RecipeNo) (r : Recipe) : Keeps ps s (t.writeRecipe n r) :=
  (h.configure _ (by rfl)).reportActiveSet.ite (h.configure _ (by rfl))

theorem Keeps.setTempStale (h : Keeps ps s t) (hp : ps.contains .fmu = true) (stale : Bool) :
    Keeps ps s (t.setTempStale stale) := (h.setFmu hp _).reportSource _ _ _

theorem Keeps.takeTemperature (h : Keeps ps s t) (hp : ps.contains .fmu = true) (i : Int) :
    Keeps ps s (t.takeTemperature i) := (h.setFmu hp _).setTempStale hp _

/-! ## One camera (chapter 4) -/

theorem Keeps.reportCameraSources (h : Keeps ps s t) (before : Ctu) : Keeps ps s (t.reportCameraSources before) :=
  (h.reportSource _ _ _).reportSource _ _ _

theorem Keeps.setCameraState (h : Keeps ps s t) (hp : ps.contains .ctu = true) (k : CameraNo) (new : CameraState)
    (c : CameraCause) : Keeps ps s (t.setCameraState k new c) :=
  h.ite (((h.setCamera hp _ _).post _).reportCameraSources _)

theorem Keeps.firePulse (h : Keeps ps s t) (hp : ps.contains .ctu = true) (k : CameraNo) (serial : Option Nat)
    (pitch : Pitch) (expiry : Option Pitch) : Keeps ps s (t.firePulse k serial pitch expiry) := (h.setCamera hp _ _).send _

theorem Keeps.reportVerdict (h : Keeps ps s t) (serial : Nat) (k : CameraNo) (v : Verdict) :
    Keeps ps s (t.reportVerdict serial k v) := h.sendAll _

theorem Keeps.countCamera (h : Keeps ps s t) (hp : ps.contains .ctu = true) (k : CameraNo) (c : CameraCounter) :
    Keeps ps s (t.countCamera k c) := h.setCamera hp _ _

theorem Keeps.reportPending (h : Keeps ps s t) (hp : ps.contains .ctu = true) (k : CameraNo) (v : Verdict)
    (c : Option CameraCounter) : Keeps ps s (t.reportPending k v c) := by
  refine h.foldl (fun u e hu => ?_) _
  split
  · exact (hu.reportVerdict _ _ _).countCamera hp _ _
  · exact hu.reportVerdict _ _ _
  · exact hu

theorem Keeps.resolvePending (h : Keeps ps s t) (hp : ps.contains .ctu = true) (k : CameraNo) (v : Verdict)
    (c : Option CameraCounter) : Keeps ps s (t.resolvePending k v c) := (h.reportPending hp _ _ _).setCamera hp _ _

theorem Keeps.triggerCases (h : Keeps ps s t) (hp : ps.contains .ctu = true) (k : CameraNo) (sc : Scheduled) :
    Keeps ps s (t.triggerCases k sc) := by
  unfold State.triggerCases
  dsimp only
  split
  · exact h.reportVerdict _ _ _
  · exact h.reportVerdict _ _ _
  · exact (h.reportVerdict _ _ _).countCamera hp _ _
  · have hfault : Keeps ps s (t.faultAtTrigger k sc.serial) :=
      (((h.setCameraState hp _ _ _).reportVerdict _ _ _).countCamera hp _ _).resolvePending hp _ _ _
    exact hfault.ite (((h.reportVerdict _ _ _).countCamera hp _ _).ite (h.firePulse hp _ _ _ _))

theorem Keeps.takeTrigger (h : Keeps ps s t) (hp : ps.contains .ctu = true) (k : CameraNo) :
    Keeps ps s (t.takeTrigger k) := by
  unfold State.takeTrigger
  dsimp only
  split
  · exact h
  · exact ((h.setCamera hp _ _).send _).triggerCases hp _ _

theorem Keeps.expireEntry (h : Keeps ps s t) (hp : ps.contains .ctu = true) (k : CameraNo) (e : PendingEntry) :
    Keeps ps s (t.expireEntry k e) := by
  unfold State.expireEntry
  dsimp only
  split
  · exact ((h.reportVerdict _ _ _).countCamera hp _ _).setCamera hp _ _
  · exact (h.countCamera hp _ _).setCamera hp _ _

theorem Keeps.expireWindows (h : Keeps ps s t) (hp : ps.contains .ctu = true) (k : CameraNo) (pitch : Pitch) :
    Keeps ps s (t.expireWindows k pitch) := h.foldl (fun _ _ hu => hu.expireEntry hp _ _) _

theorem Keeps.schedule (h : Keeps ps s t) (hp : ps.contains .ctu = true) (k : CameraNo) (pitch : Pitch)
    (records : List Announced) : Keeps ps s (t.schedule k pitch records) := by
  unfold State.schedule
  split
  · exact h.setCamera hp _ _
  · exact h

theorem Keeps.cameraPitch (h : Keeps ps s t) (hp : ps.contains .ctu = true) (pitch : Pitch) (records : List Announced)
    (k : CameraNo) : Keeps ps s (t.cameraPitch pitch records k) :=
  have h1 := (h.expireWindows hp k pitch).schedule hp k pitch records
  (h1.takeTrigger hp _).ite h1

theorem Keeps.bindVerdict (h : Keeps ps s t) (hp : ps.contains .ctu = true) (k : CameraNo) (ng : Bool) (e : PendingEntry) :
    Keeps ps s (t.bindVerdict k ng e) := by
  unfold State.bindVerdict
  dsimp only
  split
  · exact ((h.setCamera hp _ _).reportVerdict _ _ _).countCamera hp _ _
  · exact (h.setCamera hp _ _).post _

theorem Keeps.loseCamera (h : Keeps ps s t) (hp : ps.contains .ctu = true) (k : CameraNo) : Keeps ps s (t.loseCamera k) :=
  have h1 := h.setCamera hp k { t.camera k with binding := .down }
  h1.ite (((h1.setCamera hp _ _).setCameraState hp _ _ _).resolvePending hp _ _ _)

theorem Keeps.leaveTest (h : Keeps ps s t) (hp : ps.contains .ctu = true) (k : CameraNo) (c : CameraCause) :
    Keeps ps s (t.leaveTest k c) := (h.setCamera hp _ _).setCameraState hp _ _ _

theorem Keeps.testMember (h : Keeps ps s t) (hp : ps.contains .ctu = true) (grant : Nat) (on : Bool) (k : CameraNo) :
    Keeps ps s (testMember grant on k t).1 := by
  unfold Machine.testMember
  dsimp only
  split
  · exact (h.setCamera hp _ _).setCameraState hp _ _ _
  · split <;> exact h
  · exact h
  · exact h.leaveTest hp _ _
  · exact h

theorem Keeps.testTriggerMember (h : Keeps ps s t) (hp : ps.contains .ctu = true) (grant : Nat) (k : CameraNo) :
    Keeps ps s (testTriggerMember grant k t).1 := by
  unfold Machine.testTriggerMember
  dsimp only
  split
  · exact h
  · split
    · exact ((h.setCamera hp _ _).setCameraState hp _ _ _).resolvePending hp _ _ _
    · split
      · exact h.countCamera hp _ _
      · exact h.firePulse hp _ _ _ _

theorem Keeps.rearmMember (h : Keeps ps s t) (hp : ps.contains .ctu = true) (k : CameraNo) :
    Keeps ps s (rearmMember k t).1 := by
  unfold Machine.rearmMember
  dsimp only
  split
  · exact h
  · exact ((h.reportPending hp _ _ _).setCamera hp _ _).setCameraState hp _ _ _

end

end Sys2Proof.Invariants
end

section
/-!
SUPPORT. What the operations of the SWS, the SST, the TMU, the ACU, the PML and the LNK leave alone, one lemma an
operation, in the order of the model.
-/

namespace Sys2Proof.Invariants

open Sys2Proof Sys2Proof.Machine Sys2Proof.Safety

section

variable {ps : List Region} {s t : State}

/-! ## The switch (chapter 5) -/

theorem Keeps.transmit (h : Keeps ps s t) (f : SwitchFrame) : Keeps ps s (t.transmit f) := h.setSws _ (by rfl)

theorem Keeps.sendSwitch (h : Keeps ps s t) (m : SwitchMessage) : Keeps ps s (t.sendSwitch m) :=
    (h.setSws _ (by rfl)).transmit _

theorem Keeps.setWay (h : Keeps ps s t) (hp : ps.contains .stations = true) (n : Fin 16) (w : Fin 4) (e : Option Station) :
    Keeps ps s (t.setWay n w e) := h.setStationSet hp _ _

theorem Keeps.setVictim (h : Keeps ps s t) (hp : ps.contains .stations = true) (n : Fin 16) (w : Fin 4) :
    Keeps ps s (t.setVictim n w) := h.setStationSet hp _ _

theorem Keeps.reportTerminals (h : Keeps ps s t) (id : Nat) : Keeps ps s (t.reportTerminals id) := h.send _

theorem Keeps.reportLeft (h : Keeps ps s t) (e : Station) : Keeps ps s (t.reportLeft e) := by
  unfold State.reportLeft
  split
  · exact (h.reportTerminals _).ite h
  · exact h

theorem Keeps.sendForget (h : Keeps ps s t) (hp : ps.contains .stations = true) (e : Station) (reason : ForgetReason) :
    Keeps ps s (t.sendForget e reason) := (h.sendSwitch _).setStations hp _ (by rfl)

theorem Keeps.recomputeBindings (h : Keeps ps s t) : Keeps ps s t.recomputeBindings :=
  ((h.setSws _ (by rfl)).sendAll _).ite (h.setSws _ (by rfl))

theorem Keeps.settleErrors (h : Keeps ps s t) (p : PortIx) : Keeps ps s (t.settleErrors p) :=
  (h.setPort _ _).reportSource _ _ _

theorem Keeps.setBlocked (h : Keeps ps s t) (p : PortIx) (b : Bool) : Keeps ps s (t.setBlocked p b) :=
  (h.setPort _ _).reportSource _ _ _

theorem Keeps.onPort (h : Keeps ps s t) (port : Nat) {f : PortIx → State → State} (hf : ∀ p, Keeps ps s (f p t)) :
    Keeps ps s (t.onPort port f) := by
  unfold State.onPort
  split
  · exact hf _
  · exact h.countSwitch _

theorem Keeps.answerQuery (h : Keeps ps s t) (q : Query) (b : Bool) : Keeps ps s (t.answerQuery q b) :=
  ((h.transmit _).countSwitch _).send _

theorem Keeps.hitOwnPort (h : Keeps ps s t) (hp : ps.contains .stations = true) (q : Query) (w : Fin 4) (e : Station) :
    Keeps ps s (t.hitOwnPort q w e) := ((h.setWay hp _ _ _).setVictim hp _ _).answerQuery _ _

theorem Keeps.hitOtherPort (h : Keeps ps s t) (hp : ps.contains .stations = true) (q : Query) (e : Station) :
    Keeps ps s (t.hitOtherPort q e) := ((h.setVictim hp _ _).post _).answerQuery _ _

theorem Keeps.evict (h : Keeps ps s t) (hp : ps.contains .stations = true) (n : Fin 16) (w : Fin 4) (e : Station) :
    Keeps ps s (t.evict n w e) :=
  ((((h.setWay hp _ _ _).sendForget hp _ _).reportLeft _).ite (h.setWay hp _ _ _)).setVictim hp _ _

theorem Keeps.learn (h : Keeps ps s t) (hp : ps.contains .stations = true) (q : Query) (role : Role) (state : StationState)
    (grant : Option Nat)
    {f : Fin 4 → State → State} (hf : ∀ w u, Keeps ps s u → Keeps ps s (f w u)) :
    Keeps ps s (t.learn q role state grant f) := by
  unfold State.learn
  dsimp only
  split
  · exact hf _ _ (h.setWay hp _ _ _)
  · exact hf _ _ ((h.evict hp _ _ _).setWay hp _ _ _)
  · exact (h.countSwitch _).answerQuery _ _
  · exact (h.post _).answerQuery _ _

theorem Keeps.missQuery (h : Keeps ps s t) (hp : ps.contains .stations = true) (q : Query) : Keeps ps s (t.missQuery q) := by
  unfold State.missQuery
  split
  · exact h.learn hp _ _ _ _ (fun w u hu => (hu.post _).answerQuery _ _)
  · exact h.learn hp _ _ _ _ (fun w u hu => hu.answerQuery _ _)
  · split
    · exact (h.learn hp _ _ _ _ (fun w u hu => (hu.reportTerminals _).answerQuery _ _)).ite (h.answerQuery _ _)
    · exact h.answerQuery _ _

theorem Keeps.judgeQuery (h : Keeps ps s t) (hp : ps.contains .stations = true) (q : Query) :
    Keeps ps s (t.judgeQuery q) := by
  unfold State.judgeQuery
  refine (h.answerQuery _ _).ite ?_
  split
  · exact (h.hitOwnPort hp _ _ _).ite (h.hitOtherPort hp _ _)
  · exact h.missQuery hp _

theorem Keeps.dropForget (h : Keeps ps s t) (hp : ps.contains .stations = true) (a : Address) :
    Keeps ps s (t.dropForget a) := h.setStations hp _ (by rfl)

theorem Keeps.endFlushing (h : Keeps ps s t) (hp : ps.contains .stations = true) (a : Address)
    (f : Station → Option Station) :
    Keeps ps s (t.endFlushing a f) := by
  unfold State.endFlushing
  split
  · exact (h.setWay hp _ _ _).ite h
  · exact h

theorem Keeps.blockPort (h : Keeps ps s t) (p : PortIx) : Keeps ps s (t.blockPort p) :=
  h.ite ((h.setBlocked _ _).sendSwitch _)

theorem Keeps.expireForget (h : Keeps ps s t) (hp : ps.contains .stations = true) (f : Forget) :
    Keeps ps s (t.expireForget f) := by
  unfold State.expireForget
  extract_lets s1 s2
  have h2 : Keeps ps s s2 :=
    (((((h.dropForget hp _).countSwitch _).endFlushing hp _ _).blockPort _).recomputeBindings).post _
  split
  · exact h2.send _
  · exact h2

theorem Keeps.firstCamera (h : Keeps ps s t) (hp : ps.contains .ctu = true) (k : CameraNo) : Keeps ps s (t.firstCamera k) :=
  ((h.setCamera hp _ _).setCameraState hp _ _ _).ite (h.setCamera hp _ _)

theorem Keeps.firstAxis (h : Keeps ps s t) (hp : ps.contains .fmu = true) (k : AxisNo) : Keeps ps s (t.firstAxis k) :=
  h.setAxis hp _ _

theorem Keeps.overWays (h : Keeps ps s t) {f : Fin 16 → Fin 4 → Station → State → State}
    (hf : ∀ n w e u, Keeps ps s u → Keeps ps s (f n w e u)) : Keeps ps s (t.overWays f) := by
  refine h.foldl (fun u x hu => ?_) _
  split
  · exact hf _ _ _ _ hu
  · exact hu

theorem Keeps.changePolicy (h : Keeps ps s t) (hp : ps.contains .stations = true) (p : PortIx) (old new : Policy) :
    Keeps ps s (t.changePolicy p old new) := by
  have hflush : ∀ u, Keeps ps s u → Keeps ps s (u.flushStrangers p) := fun u hu =>
    hu.overWays fun n w e v hv => ((hv.setWay hp _ _ _).sendForget hp _ _).ite hv
  have hclear : ∀ u, Keeps ps s u → Keeps ps s (u.clearStrangers p) := fun u hu =>
    hu.overWays fun n w e v hv => (hv.setWay hp _ _ _).ite hv
  have h1 : Keeps ps s (if old = .learn then t.flushStrangers p else t) := (hflush _ h).ite h
  exact h.ite ((hclear _ h1).ite h1)

theorem Keeps.stationDone (h : Keeps ps s t) (hr : ps.contains .reply = true) : Keeps ps s t.stationDone :=
  h.markDirty.recomputeBindings.replyOk hr _

theorem Keeps.pinNew (h : Keeps ps s t) (hp : ps.contains .stations = true) (hr : ps.contains .reply = true) (a : Address)
    (p : PortIx) (r : Role) : Keeps ps s (t.pinNew a p r) := by
  unfold State.pinNew
  dsimp only
  split
  · exact (h.setWay hp _ _ _).stationDone hr
  · exact ((h.evict hp _ _ _).setWay hp _ _ _).stationDone hr
  · exact h.refuse hr _
  · exact h.refuse hr _

theorem Keeps.pinOver (h : Keeps ps s t) (hp : ps.contains .stations = true) (hr : ps.contains .reply = true) (p : PortIx)
    (r : Role) (w : Fin 4) (old : Station) : Keeps ps s (t.pinOver p r w old) :=
  ((h.setWay hp _ _ _).reportLeft _).stationDone hr

theorem Keeps.flushScope (h : Keeps ps s t) (hp : ps.contains .stations = true) (inScope : Station → Bool) :
    Keeps ps s (flushScope t inScope).1 := by
  have hone : ∀ n w (acc : State × Nat × Bool), Keeps ps s acc.1 → Keeps ps s (flushOne inScope n w acc).1 := by
    rintro n w ⟨u, handled, stopped⟩ hu
    unfold flushOne
    dsimp only
    split
    · exact hu
    · split
      · exact hu
      · split
        · split
          · exact ((hu.setWay hp _ _ _).sendForget hp _ _).reportLeft _
          · exact hu
        · exact hu.setWay hp _ _ _
        · exact hu.setWay hp _ _ _
  unfold Machine.flushScope
  generalize allWays = ways
  suffices ∀ acc : State × Nat × Bool, Keeps ps s acc.1 →
      Keeps ps s (ways.foldl (fun acc p => flushOne inScope p.1 p.2 acc) acc).1 from this _ h
  induction ways with
  | nil => exact fun _ hacc => hacc
  | cons p ways ih => exact fun acc hacc => ih _ (hone _ _ _ hacc)

theorem Keeps.flush (h : Keeps ps s t) (hp : ps.contains .stations = true) (hr : ps.contains .reply = true)
    (inScope : Station → Bool) : Keeps ps s (t.flush inScope) :=
  h.require hr _ _ ((h.flushScope hp inScope).replyOk hr _)

theorem Keeps.setService (h : Keeps ps s t) (id : Nat) (x : Option (Nat × GrantState)) : Keeps ps s (t.setService id x) :=
  h.foldl (fun _ _ hu => (hu.setPort _ _).ite hu) _

/-! ## The store and the clocks (chapters 8 and 11) -/

theorem Keeps.postStoreDone (h : Keeps ps s t) (kind : SaveKind) (ok : Bool) : Keeps ps s (t.postStoreDone kind ok) :=
  h.post _

theorem Keeps.beginAccountSave (h : Keeps ps s t) : Keeps ps s t.beginAccountSave := by
  unfold State.beginAccountSave
  split
  · exact h.setSst _
  · exact h.postStoreDone _ _

theorem Keeps.latchStoreFailed (h : Keeps ps s t) : Keeps ps s t.latchStoreFailed := h.send _

theorem Keeps.takeDeferred (h : Keeps ps s t) : Keeps ps s t.takeDeferred := (h.setTmu _).beginAccountSave.ite h

theorem Keeps.completeSave (h : Keeps ps s t) (n : BankName) (sequence : BitVec 32) (image : Image) (whole : Bool) :
    Keeps ps s (t.completeSave n sequence image whole) :=
  ((h.setSst _).postStoreDone _ _).ite ((h.setSst _).latchStoreFailed.postStoreDone _ _)

theorem Keeps.completeAccountSave (h : Keeps ps s t) (n : BankName) (sequence : BitVec 32) (image : Image) (whole : Bool) :
    Keeps ps s (t.completeAccountSave n sequence image whole) :=
  ((h.setSst _).postStoreDone _ _).ite ((h.setSst _).latchStoreFailed.postStoreDone _ _)

theorem Keeps.advanceHall (h : Keeps ps s t) : Keeps ps s t.advanceHall := by
  unfold State.advanceHall
  split
  · exact h
  · exact h
  · exact (h.setTmu _).ite ((h.setTmu _).setDraws _)

theorem Keeps.advanceTime (h : Keeps ps s t) : Keeps ps s t.advanceTime := h.advanceHall.setTmu _

theorem Keeps.reportHoldover (h : Keeps ps s t) (before : Tmu) : Keeps ps s (t.reportHoldover before) :=
  h.reportSource _ _ _

theorem Keeps.setTime (h : Keeps ps s t) (hall : Nat) : Keeps ps s (t.setTime hall) := by
  unfold State.setTime
  dsimp only
  split
  · exact ((h.setTmu _).post _).reportHoldover _
  · exact ((h.setTmu _).post _).reportHoldover _

theorem Keeps.takeMark (h : Keeps ps s t) (hall : Nat) : Keeps ps s (t.takeMark hall) := by
  have hlock : ∀ offset, Keeps ps s (t.lockTo hall offset) := fun offset =>
    ((h.setTmu _).post _).reportHoldover _
  unfold State.takeMark
  dsimp only
  split
  · exact hlock _
  · split
    · exact ((h.setTmu _).post _).ite (h.setTmu _)
    · exact hlock _

theorem Keeps.enterHoldover (h : Keeps ps s t) : Keeps ps s t.enterHoldover :=
  ((h.setTmu _).post _).reportHoldover _

theorem Keeps.handAccount (h : Keeps ps s t) (a : Account) (before : Tmu) (old new : AlarmState) :
    Keeps ps s (t.handAccount a before old new) := by
  cases a
  · exact (h.send _).ite ((h.send _).ite h)
  · exact h.reportSource _ _ _
  · exact h.reportSource _ _ _

theorem Keeps.putAccount (h : Keeps ps s t) (a : Account) (x : AccountRecord) (cause : AccountCause) :
    Keeps ps s (t.putAccount a x cause) :=
  (h.setTmu _).ite (((h.setTmu _).post _).handAccount _ _ _ _)

theorem Keeps.resetAccount (h : Keeps ps s t) (a : Account) : Keeps ps s (t.resetAccount a) :=
  (h.putAccount _ _ _).markDirty

theorem Keeps.accountSaveDue (h : Keeps ps s t) : Keeps ps s t.accountSaveDue := by
  unfold State.accountSaveDue
  split
  · exact h.setTmu _
  · exact h
  · exact h.beginAccountSave

/-! ## Watches, access and grants (chapters 6 and 7) -/

theorem Keeps.takeHit (h : Keeps ps s t) (w : WatchNo) (x : Watch) (subject : WatchSubject) :
    Keeps ps s (t.takeHit w x subject) := ((h.setWatch _ _).post _).sendAll _

theorem Keeps.countNg (h : Keeps ps s t) (w : WatchNo) (x : Watch) (n serial : Nat) (k : CameraNo) (v : Verdict) :
    Keeps ps s (t.countNg w x n serial k v) := by
  unfold State.countNg
  split
  · exact (h.takeHit _ _ _).ite (h.setWatch _ _)
  · exact h.setWatch _ _

theorem Keeps.atWatch (h : Keeps ps s t) (r : Report) (w : WatchNo) : Keeps ps s (t.atWatch r w) := by
  unfold State.atWatch
  split
  · exact h
  · refine h.ite ?_
    split
    · exact (h.countNg _ _ _ _ _ _).ite h
    · split
      · exact h.takeHit _ _ _
      · exact h

theorem Keeps.noteHolder (h : Keeps ps s t) (r : Report) : Keeps ps s (t.noteHolder r) := by
  unfold State.noteHolder
  split
  · exact h.setHolder _ _
  · exact h.setHolder _ _
  · exact (h.setHolder _ _).ite h
  · exact h

theorem Keeps.clearHolder (h : Keeps ps s t) (w : WatchNo) : Keeps ps s (t.clearHolder w) := h.setAcu _

theorem Keeps.dropWatch (h : Keeps ps s t) (w : WatchNo) : Keeps ps s (t.dropWatch w) := by
  unfold State.dropWatch
  split
  · exact h
  · exact ((h.clearHolder _).sendAll _).setWatch _ _

theorem Keeps.disableWatch (h : Keeps ps s t) (id : Nat) (w : WatchNo) : Keeps ps s (t.disableWatch id w) := by
  unfold State.disableWatch
  split
  · exact h
  · exact (((h.clearHolder _).sendAll _).setWatch _ _).ite h

theorem Keeps.writeWatch (h : Keeps ps s t) (hr : ps.contains .reply = true) (w : WatchNo) (x : Watch) :
    Keeps ps s (t.writeWatch w x) := (((h.dropWatch _).setWatch _ _).sendAll _).replyOk hr _

theorem Keeps.resumeMember (h : Keeps ps s t) (k : AxisNo) : Keeps ps s (resumeMember k t).1 := by
  unfold Machine.resumeMember
  split
  · exact h
  · exact (h.setHolder _ _).send _

theorem Keeps.unlockTo (h : Keeps ps s t) (hr : ps.contains .reply = true) (level : Nat) : Keeps ps s (t.unlockTo level) :=
  (h.setAcu _).replyOk hr _

theorem Keeps.wrongPasscode (h : Keeps ps s t) (hr : ps.contains .reply = true) : Keeps ps s t.wrongPasscode :=
  ((h.setAcu _).ite (h.setAcu _)).refuse hr _

theorem Keeps.openGrant (h : Keeps ps s t) (hr : ps.contains .reply = true) (slot : Fin 4) (level : Nat) (axes : AxisSet)
    (cameras : CameraSet)
    (ports : PortSet) (gate : Bool) (minutes : Nat) :
    Keeps ps s (t.openGrant slot level axes cameras ports gate minutes) :=
  (((h.setGrant _ _).setAcu _).send _).replyOk hr _

theorem Keeps.startClosing (h : Keeps ps s t) (slot : Fin 4) (g : Grant) (cause : CloseCause) :
    Keeps ps s (t.startClosing slot g cause) :=
  ((h.setGrant _ _).foldl (fun _ _ hu => hu.disableWatch _ _) _).sendAll _

theorem Keeps.grantReport (h : Keeps ps s t) (r : GrantReport) (slot : Fin 4) : Keeps ps s (t.grantReport r slot) := by
  unfold State.grantReport
  split
  · exact h
  · exact (((((h.setGrant _ _).send _).send _).post _).setGrant _ _ |>.ite (h.setGrant _ _)).ite h

/-! ## The permit and the link (chapters 9 and 10) -/

theorem Keeps.ackMember (h : Keeps ps s t) (hp : ps.contains .pml = true) (n : Fin 16) : Keeps ps s (ackMember n t).1 := by
  unfold Machine.ackMember
  dsimp only
  split
  · exact h
  · split
    · exact (h.setSource hp _ _).weigh hp _
    · exact h

theorem Keeps.configureSource (h : Keeps ps s t) (hs : ps.contains .sources = true) (hp : ps.contains .pml = true)
    (n : Fin 16) (c : SourceSettings) : Keeps ps s (t.configureSource n c) := by
  have hwritten : Keeps ps s (t.configure { t.cfg with sources := t.cfg.sources.set n c }) := h.configureSources hs _
  exact (hwritten.weigh hp n).settlePermit hp _ _

theorem Keeps.hunt (h : Keeps ps s t) : Keeps ps s t.hunt := h.setLnk _ (by rfl)

theorem Keeps.abandonFrame (h : Keeps ps s t) : Keeps ps s t.abandonFrame := by
  unfold State.abandonFrame
  split
  · exact h
  · exact (h.countLink _).hunt

theorem Keeps.takeFrame (h : Keeps ps s t) (hq : ps.contains .inputQueue = true) (f : FrameParts) :
    Keeps ps s (t.takeFrame f) := by
  have hoffer : ∀ r, Keeps ps s (t.offer r) := fun r => (h.writeLnk _ (by rfl) (.inl hq) (.inr (by rfl))).ite
    ((h.countLink _).setLnk _ (by rfl))
  unfold State.takeFrame
  exact (h.countLink _).ite ((h.countLink _).ite (hoffer _))

theorem Keeps.takeInHand (h : Keeps ps s t) (hq : ps.contains .inputQueue = true) (f : RequestFrame)
    (rest : List RequestFrame) : Keeps ps s (t.takeInHand f rest) :=
  ((h.writeLnk _ (by rfl) (.inl hq) (.inr (by rfl))).countLink _).setAcu _

theorem Keeps.handRequest (h : Keeps ps s t) (hr : ps.contains .reply = true) (f : RequestFrame) :
    Keeps ps s (t.handRequest f) := by
  unfold State.handRequest
  split
  · exact h.refuse hr _
  · exact h.refuse hr _
  · exact h.send _

/-- A fetch takes notices out and makes ATTN what is left (R190, R191). -/
theorem Keeps.fetch (h : Keeps ps s t) (hr : ps.contains .reply = true) (hrunning : t.phase = .running) (n : Nat) :
    Keeps ps s (t.fetch n) := by
  have hfetched : Keeps ps t (t.setLnk { t.lnk with
      notices := t.lnk.notices.drop n, attn := !(t.lnk.notices.drop n).isEmpty }) := by
    refine ⟨rfl, rfl, rfl, fun r _ => by cases r <;> rfl, fun _ => ?_, fun hroom => ?_⟩
    · simp [attnSettled, hrunning]
    · rw [setLnk_lnk, List.length_drop]
      omega
  exact (h.trans hfetched).replyOk hr _

end

end Sys2Proof.Invariants
end

section
/-!
SUPPORT. What each command leaves alone: the regions it writes, and that it answers a next state that keeps every other.
-/

namespace Sys2Proof.Invariants

open Sys2Proof Sys2Proof.Machine Sys2Proof.Safety

/-- The commands that can begin or complete a start. -/
def restarts : Instr → Bool
  | .pinReset | .resetRelease | .startUpComplete .. | .softReset | .replySent => true
  | _ => false

/-- The regions that a command may write when it does not restart the part. -/
def writes : Instr → List Region
  | .stepEvent _ | .encoderError | .gatePulseExpiry | .fillReport .. | .verdictReport .. | .watchReport .. => [.ltr]
  | .lineGeometry .. => [.ltr, .geometry, .reply]
  | .lineClear => [.ltr, .reply]
  | .assignmentArbiter .. | .fmuPitchEvent .. | .fillWindowExpiry .. | .dwellExpiry _ | .stepPulse _ | .moveComplete _
  | .homingTravelExhausted _ | .homeFound _ | .limitActive _ | .driveBindingChange .. | .valveTestExpiry _ | .fmuDeparture _
  | .fmuLineClear | .holdListAdd .. | .holdListRemove .. | .holdRelease .. | .accountAlarmEntry _ | .accountAlarmExit _
  | .fmuGrantClosingStart .. | .fmuGrantCompletion _ | .tempDeadlineExpiry => [.fmu]
  | .axisHome _ | .clearHalt _ | .axisStop .. | .axisDuty .. | .axisMove .. | .axisJog .. | .valveTest .. | .recipeSelect _
  | .productTemp _ => [.fmu, .reply]
  | .ctuPitchEvent .. | .verdictWindowExpiry .. | .lineTrigger _ | .triggerPulseEnd _ | .verdictArrival .. | .ctuDeparture _
  | .cameraBindingChange .. | .ctuLineClear | .activeCameraSetReport _ | .ctuGrantClosingStart _ => [.ctu]
  | .cameraRearm _ | .cameraTest .. | .testTrigger .. => [.ctu, .reply]
  | .query .. => [.queries]
  | .answer => [.queries, .stations]
  | .forgetDone _ | .forgetExpiry _ | .swsGrantClosingStart _ => [.stations]
  | .firstSetting => [.fmu, .ctu]
  | .portConfig .. | .stationPin .. | .stationUnpin _ | .stationQuarantine _ | .stationRelease _ | .stationFlush _ =>
    [.stations, .reply]
  | .sourceActivation _ | .sourceDeactivation _ | .eventSourceLatch _ | .extensionExpiry _ => [.pml]
  | .faultAck _ => [.pml, .reply]
  | .permitConfig .. => [.pml, .sources, .reply]
  | .requestFrame _ => [.inputQueue]
  | .requestTaken => [.inputQueue, .reply]
  | .pinReset | .resetRelease | .startUpComplete .. | .switchBadFrame _ | .linkReport .. | .errorReport .. |
    .swsGrantOpened .. | .swsGrantClosed _ | .lockoutExpiry
  | .idleDeadlineExpiry | .grantExpiry _ | .closingReport _ | .acuReport _ | .timeMark _ | .phaseTermExpiry | .holdoverExpiry
  | .accountCount _ | .accountSaveExpiry | .accountSaveComplete _ | .saveComplete _ | .frameGapTimeout | .syncFound
  | .frameAbandonedForLength _ => []
  | _ => [.reply]

theorem Keeps.agrees {ps : List Region} {s t : State} (h : Keeps ps s t) (r : Region) (hr : ps.contains r = false) :
    agree s t r := h.unwritten r (by simpa using hr)

/-- A command answers a next state that keeps all but the regions named. -/
def Leads (ps : List Region) (s : State) (r : Result) : Prop := ∃ t, r = .next t ∧ Keeps ps s t

section

variable {ps : List Region} {s : State} {c : Instr} {f : State → State}

theorem leads_taken (hf : s.phase = .running → Keeps ps s (s.received c) → Keeps ps s (f (s.received c))) :
    Leads ps s (taken c s f) := by
  by_cases h : s.phase = .running
  · exact ⟨_, taken_running h c f, hf h ((Keeps.refl ps s).received c)⟩
  · exact ⟨s, taken_before h c f, Keeps.refl ps s⟩

theorem leads_takenOnSwitchLink (hf : Keeps ps s (s.received c) → Keeps ps s (f (s.received c))) :
    Leads ps s (takenOnSwitchLink c s f) := by
  by_cases h : s.phase = .held
  · exact ⟨s, takenOnSwitchLink_held h c f, Keeps.refl ps s⟩
  · exact ⟨_, takenOnSwitchLink_awake h c f, hf ((Keeps.refl ps s).received c)⟩

/-- A reader makes its reply and nothing else. -/
theorem leads_reader (body : State → List Byte) (hr : ps.contains .reply = true) :
    Leads ps s (taken c s fun s => s.replyOk (body s)) := leads_taken fun _ h => h.replyOk hr _

end

/-! ## The commands with cases of their own -/

theorem stepEvent_leads (input : EncoderInput) (s : State) : Leads [.ltr] s (execStepEvent input s) :=
  leads_taken fun _ h => ((h.setLtr rfl _).forwardStep rfl).ite ((h.setLtr rfl _).backwardStep rfl)

theorem gatePulseExpiry_leads (s : State) : Leads [.ltr] s (execGatePulseExpiry s) := by
  refine leads_taken fun _ h => ?_
  split
  · exact (h.setLtr rfl _).ite h
  · exact h

theorem assignmentArbiter_leads (serial : Nat) (recipe : RecipeNo) (p : Pitch) (s : State) :
    Leads [.fmu] s (execAssignmentArbiter serial recipe p s) := by
  refine leads_taken fun _ h => ?_
  split
  · exact ((h.setAxis rfl _ _).setFmu rfl _).send _
  · exact h.send _

theorem dwellExpiry_leads (k : AxisNo) (s : State) : Leads [.fmu] s (execDwellExpiry k s) := by
  refine leads_taken fun _ h => ?_
  split
  · exact ((h.setAxis rfl _ _).phaseEntry rfl _ _).ite h
  · exact h

theorem valveTestExpiry_leads (k : AxisNo) (s : State) : Leads [.fmu] s (execValveTestExpiry k s) := by
  refine leads_taken fun _ h => ?_
  split
  · exact (((h.endValveTest rfl _).send _).notifyRest rfl _ _).ite h
  · exact h

theorem fmuGrantCompletion_leads (axes : AxisSet) (s : State) : Leads [.fmu] s (execFmuGrantCompletion axes s) := by
  refine leads_taken fun _ h => h.foldl (fun u k hu => ?_) _
  split
  · exact hu.setAxis rfl _ _
  · exact hu

theorem triggerPulseEnd_leads (k : CameraNo) (s : State) : Leads [.ctu] s (execTriggerPulseEnd k s) := by
  refine leads_taken fun _ h => ?_
  dsimp only
  split
  · exact (h.setCamera rfl _ _).ite h
  · exact h

theorem verdictArrival_leads (k : CameraNo) (ng : Bool) (tag : Tag) (s : State) :
    Leads [.ctu] s (execVerdictArrival k ng tag s) := by
  refine leads_taken fun _ h => ?_
  dsimp only
  split
  · exact h.bindVerdict rfl _ _ _
  · exact ((h.setCamera rfl _ _).countCamera rfl _ _).ite ((h.countCamera rfl _ _).post _)

theorem testTrigger_leads (cameras : CameraSet) (grant : Nat) (s : State) :
    Leads [.ctu, .reply] s (execTestTrigger cameras grant s) := by
  refine leads_taken fun _ h => h.require rfl _ _ (Keeps.replyOk (h.runMembersDetailed _ _ fun k u hu => ?_) rfl _)
  split
  · exact hu
  · exact hu.testTriggerMember rfl _ _

theorem switchBadFrame_leads (frame : BadFrame) (s : State) : Leads [] s (execSwitchBadFrame frame s) := by
  refine leads_takenOnSwitchLink fun h => ?_
  split
  · exact h.countSwitch _
  · split
    · exact h.countSwitch _
    · exact (h.countSwitch _).ite ((h.countSwitch _).ite h)

theorem answer_leads (s : State) : Leads [.queries, .stations] s (execAnswer s) := by
  refine leads_taken fun _ h => ?_
  split
  · exact h
  · exact (h.setQueries rfl _).judgeQuery rfl _

theorem forgetDone_leads (a : Address) (s : State) : Leads [.stations] s (execForgetDone a s) := by
  refine leads_takenOnSwitchLink fun h => ?_
  split
  · exact h.countSwitch _
  · have h1 := (h.dropForget rfl a).endFlushing rfl a fun _ => none
    dsimp only
    split
    · exact h1.send _
    · exact h1

theorem forgetExpiry_leads (a : Address) (s : State) : Leads [.stations] s (execForgetExpiry a s) := by
  refine leads_taken fun _ h => ?_
  split
  · exact (h.expireForget rfl _).ite h
  · exact h

theorem firstSetting_leads (s : State) : Leads [.fmu, .ctu] s (execFirstSetting s) :=
  leads_taken fun _ h => Keeps.ite (((h.recomputeBindings.setSws _ (by rfl)).foldl (fun _ _ hu => hu.firstAxis rfl _) _).foldl
    (fun _ _ hu => hu.firstCamera rfl _) _) h

theorem portConfig_leads (p policy warn alarm : Nat) (s : State) :
    Leads [.stations, .reply] s (execPortConfig p policy warn alarm s) := by
  refine leads_taken fun _ h => h.withLevel rfl _ (h.requireSome rfl _ _ fun p => h.requireSome rfl _ _ fun new =>
    h.require rfl _ _ ?_)
  dsimp only
  split
  · exact h.refuse rfl _
  · exact (((h.changePolicy rfl _ _ _).configure _ (by rfl)).settleErrors _).replyOk rfl _

theorem stationPin_leads (a : Address) (p role : Nat) (u : Option Nat) (s : State) :
    Leads [.stations, .reply] s (execStationPin a p role u s) := by
  refine leads_taken fun _ h => h.withLevel rfl _ (h.require rfl _ _
    (h.requireSome rfl _ _ fun p => h.requireSome rfl _ _ fun r =>
    (h.refuse rfl _).ite ?_))
  split
  · exact (h.refuse rfl _).ite (h.pinOver rfl rfl _ _ _ _)
  · exact (h.refuse rfl _).ite (h.pinNew rfl rfl _ _ _)

theorem stationUnpin_leads (a : Address) (s : State) : Leads [.stations, .reply] s (execStationUnpin a s) := by
  refine leads_taken fun _ h => h.withLevel rfl _ ?_
  split
  · exact h.refuse rfl _
  · exact (h.refuse rfl _).ite ((h.require rfl _ _ (((h.setWay rfl _ _ _).sendForget rfl _ _).stationDone rfl)).ite
    ((h.setWay rfl _ _ _).stationDone rfl))

theorem stationQuarantine_leads (a : Address) (s : State) : Leads [.stations, .reply] s (execStationQuarantine a s) := by
  refine leads_taken fun _ h => h.withLevel rfl _ ?_
  split
  · exact h.refuse rfl _
  · exact (h.refuse rfl _).ite ((h.require rfl _ _ (((h.setWay rfl _ _ _).sendForget rfl _ _).stationDone rfl)).ite
    (h.replyOk rfl _))

theorem stationRelease_leads (a : Address) (s : State) : Leads [.stations, .reply] s (execStationRelease a s) := by
  refine leads_taken fun _ h => h.withLevel rfl _ ?_
  split
  · exact h.refuse rfl _
  · exact (h.refuse rfl _).ite ((h.replyOk rfl _).ite (h.require rfl _ _ ((h.setWay rfl _ _ _).stationDone rfl)))

theorem stationFlush_leads (scope : FlushScope) (s : State) : Leads [.stations, .reply] s (execStationFlush scope s) := by
  refine leads_taken fun _ h => h.withLevel rfl _ ?_
  cases scope with
  | unknown _ => exact h.refuse rfl _
  | all => exact h.flush rfl rfl _
  | port n => exact h.requireSome rfl _ _ fun p => h.flush rfl rfl _
  | address a =>
    dsimp only
    split
    · exact h.refuse rfl _
    · exact (h.refuse rfl _).ite (h.flush rfl rfl _)

theorem swsGrantClosingStart_leads (id : Nat) (s : State) : Leads [.stations] s (execSwsGrantClosingStart id s) :=
  leads_taken fun _ h => Keeps.reportTerminals (Keeps.send ((h.setService _ _).overWays fun _ _ _ _ hu =>
    ((hu.setWay rfl _ _ _).sendForget rfl _ _).ite hu) _) _

theorem unlock_leads (level : Nat) (code : List Byte) (s : State) : Leads [.reply] s (execUnlock level code s) := by
  refine leads_taken fun _ h => h.require rfl _ _ (h.require rfl _ _ ?_)
  split
  · exact (h.unlockTo rfl _).ite (h.wrongPasscode rfl)
  · exact (h.unlockTo rfl _).ite (h.refuse rfl _)

theorem lockoutExpiry_leads (s : State) : Leads [] s (execLockoutExpiry s) := by
  refine leads_taken fun _ h => ?_
  split
  · exact (h.setAcu _).ite h
  · exact h

theorem grantExtend_leads (id minutes : Nat) (s : State) : Leads [.reply] s (execGrantExtend id minutes s) := by
  refine leads_taken fun _ h => h.require rfl _ _ ?_
  split
  · exact h.withLevel rfl _ (h.require rfl _ _ (h.require rfl _ _ ((h.setGrant _ _).replyOk rfl _)))
  · exact h.refuse rfl _

theorem grantExpiry_leads (slot : Fin 4) (s : State) : Leads [] s (execGrantExpiry slot s) := by
  refine leads_taken fun _ h => ?_
  split
  · exact (h.startClosing _ _ _).ite h
  · exact h

theorem grantClose_leads (id : Nat) (s : State) : Leads [.reply] s (execGrantClose id s) := by
  refine leads_taken fun _ h => h.require rfl _ _ ?_
  split
  · split
    · exact (h.startClosing _ _ _).replyAccepted rfl _
    · exact h.replyOk rfl _
  · exact h.refuse rfl _

theorem accountReset_leads (id account : Nat) (s : State) : Leads [.reply] s (execAccountReset id account s) := by
  refine leads_taken fun _ h => h.require rfl _ _ (h.requireSome rfl _ _ fun a => ?_)
  split
  · exact h.refuse rfl _
  · exact ((h.resetAccount _).replyOk rfl _).ite (h.refuse rfl _)

theorem watchSet_leads (w : Nat) (ops : WatchOperands) (act sc id en : Nat) (s : State) :
    Leads [.reply] s (execWatchSet w ops act sc id en s) := by
  refine leads_taken fun _ h => h.requireSome rfl _ _ fun w => h.requireSome rfl _ _ fun x => ?_
  split
  · exact h.refuse rfl _
  · exact (h.refuse rfl _).ite (h.writeWatch rfl _ _)

theorem watchClear_leads (w sc id : Nat) (s : State) : Leads [.reply] s (execWatchClear w sc id s) := by
  refine leads_taken fun _ h => h.requireSome rfl _ _ fun sc => ?_
  split
  · exact h.refuse rfl _
  · refine h.requireSome rfl _ _ fun w => ?_
    split
    · exact h.refuse rfl _
    · exact ((h.dropWatch _).replyOk rfl _).ite (h.refuse rfl _)

theorem watchAck_leads (w : Nat) (s : State) : Leads [.reply] s (execWatchAck w s) := by
  refine leads_taken fun _ h => h.withLevel rfl _ (h.requireSome rfl _ _ fun w => ?_)
  split
  · exact h.refuse rfl _
  · exact (h.setWatch _ _).replyOk rfl _

theorem phaseTermExpiry_leads (s : State) : Leads [] s (execPhaseTermExpiry s) := by
  refine leads_taken fun _ h => ?_
  split
  · exact (h.setTmu _).ite h
  · exact h

theorem holdoverExpiry_leads (s : State) : Leads [] s (execHoldoverExpiry s) := by
  refine leads_taken fun _ h => ?_
  split
  · exact h.enterHoldover.ite h
  · exact h

theorem accountSaveComplete_leads (whole : Bool) (s : State) : Leads [] s (execAccountSaveComplete whole s) := by
  refine leads_taken fun _ h => ?_
  split
  · exact h.completeAccountSave _ _ _ _
  · exact h

theorem saveComplete_leads (whole : Bool) (s : State) : Leads [] s (execSaveComplete whole s) := by
  refine leads_taken fun _ h => ?_
  split
  · exact (h.completeSave _ _ _ _).takeDeferred
  · exact h

theorem faultAck_leads (sources : List Nat) (s : State) : Leads [.pml, .reply] s (execFaultAck sources s) := by
  refine leads_taken fun _ h => h.withLevel rfl _ (h.require rfl _ _ ?_)
  have h1 := h.runMembers (ackMembers sources) (fun n => n.val) (f := ackMember) fun n u hu => hu.ackMember rfl n
  dsimp only
  split
  · exact (h1.settlePermit rfl _ _).replyOk rfl _
  · exact h1.replyOk rfl _

theorem requestFrame_leads (bytes : List Byte) (s : State) : Leads [.inputQueue] s (execRequestFrame bytes s) := by
  refine leads_taken fun _ h => ?_
  split
  · exact (h.takeFrame rfl _).hunt
  · exact h

theorem requestTaken_leads (s : State) : Leads [.inputQueue, .reply] s (execRequestTaken s) := by
  refine leads_taken fun _ h => ?_
  split
  · exact (h.takeInHand rfl _ _).handRequest rfl _
  · exact h

theorem syncFound_leads (s : State) : Leads [] s (execSyncFound s) := by
  refine leads_taken fun _ h => ?_
  split
  · exact h.setLnk _ (by rfl)
  · exact h

/-! ## Every command -/

/-- A command that does not restart the part answers a next state and keeps every region it does not write. -/
theorem exec_leads (c : Instr) (s : State) (hc : restarts c = false) : Leads (writes c) s (exec c s) := by
  cases c with
  | pinReset | resetRelease | startUpComplete | softReset | replySent => cases hc
  | stepEvent input => exact stepEvent_leads _ _
  | encoderError =>
    exact show Leads [.ltr] s (execEncoderError s) from
      leads_taken fun _ h => (h.setLtr rfl _).countLine rfl _ _
  | gatePulseExpiry => exact gatePulseExpiry_leads _
  | fillReport =>
    exact show Leads [.ltr] s (execFillReport _ _ s) from
      leads_taken fun _ h => h.setLtr rfl _
  | verdictReport =>
    exact show Leads [.ltr] s (execVerdictReport _ _ _ s) from
      leads_taken fun _ h => h.setLtr rfl _
  | watchReport =>
    exact show Leads [.ltr] s (execWatchReport _ _ _ s) from
      leads_taken fun _ h => h.setLtr rfl _
  | lineGeometry =>
    exact show Leads [.ltr, .geometry, .reply] s (execLineGeometry _ _ _ _ s) from
      leads_taken fun _ h => h.withLevel rfl _ (h.requireSome rfl _ _ fun d => h.require rfl _ _ (h.require rfl _ _
      ((h.applyGeometry rfl rfl _).replyOk rfl _)))
  | lineClear =>
    exact show Leads [.ltr, .reply] s (execLineClear s) from
      leads_taken fun _ h => h.withLevel rfl _ (h.require rfl _ _ ((h.clearTrack rfl).replyOk rfl _))
  | lineStatus =>
    exact show Leads [.reply] s (execLineStatus s) from
      leads_reader _ rfl
  | trimRead =>
    exact show Leads [.reply] s (execTrimRead s) from
      leads_reader _ rfl
  | fillStatus =>
    exact show Leads [.reply] s (execFillStatus s) from
      leads_reader _ rfl
  | switchStatus =>
    exact show Leads [.reply] s (execSwitchStatus s) from
      leads_reader _ rfl
  | accessStatus =>
    exact show Leads [.reply] s (execAccessStatus s) from
      leads_reader _ rfl
  | grantRead =>
    exact show Leads [.reply] s (execGrantRead s) from
      leads_reader _ rfl
  | watchRead =>
    exact show Leads [.reply] s (execWatchRead s) from
      leads_reader _ rfl
  | clockStatus =>
    exact show Leads [.reply] s (execClockStatus s) from
      leads_reader _ rfl
  | accountRead =>
    exact show Leads [.reply] s (execAccountRead s) from
      leads_reader _ rfl
  | permitStatus =>
    exact show Leads [.reply] s (execPermitStatus s) from
      leads_reader _ rfl
  | identity =>
    exact show Leads [.reply] s (execIdentity s) from
      leads_reader _ rfl
  | stationLookup =>
    exact show Leads [.reply] s (execStationLookup _ s) from
      leads_reader _ rfl
  | trackRead =>
    exact show Leads [.reply] s (execTrackRead _ s) from
      leads_taken fun _ h => h.require rfl _ _ (h.replyOk rfl _)
  | rejectLogRead =>
    exact show Leads [.reply] s (execRejectLogRead _ s) from
      leads_taken fun _ h => h.require rfl _ _ (h.replyOk rfl _)
  | axisStatus =>
    exact show Leads [.reply] s (execAxisStatus _ s) from
      leads_taken fun _ h => h.require rfl _ _ (h.replyOk rfl _)
  | cameraStatus =>
    exact show Leads [.reply] s (execCameraStatus _ s) from
      leads_taken fun _ h => h.require rfl _ _ (h.replyOk rfl _)
  | forgetRead =>
    exact show Leads [.reply] s (execForgetRead _ s) from
      leads_taken fun _ h => h.require rfl _ _ (h.replyOk rfl _)
  | recipeRead =>
    exact show Leads [.reply] s (execRecipeRead _ s) from
      leads_taken fun _ h => h.requireSome rfl _ _ fun n => h.replyOk rfl _
  | stationRead =>
    exact show Leads [.reply] s (execStationRead _ s) from
      leads_taken fun _ h => h.requireSome rfl _ _ fun n => h.replyOk rfl _
  | assignmentArbiter => exact assignmentArbiter_leads _ _ _ _
  | fmuPitchEvent =>
    exact show Leads [.fmu] s (execFmuPitchEvent _ _ s) from
      leads_taken fun _ h => h.foldl (fun _ _ hu => hu.axisPitch rfl _ _) _
  | fillWindowExpiry =>
    exact show Leads [.fmu] s (execFillWindowExpiry _ _ s) from
      leads_taken fun _ h => h.windowExpiry rfl _ _
  | dwellExpiry => exact dwellExpiry_leads _ _
  | stepPulse =>
    exact show Leads [.fmu] s (execStepPulse _ s) from
      leads_taken fun _ h => (h.setAxis rfl _ _).ite h
  | moveComplete =>
    exact show Leads [.fmu] s (execMoveComplete _ s) from
      leads_taken fun _ h => (h.completeMove rfl _).ite h
  | homingTravelExhausted =>
    exact show Leads [.fmu] s (execHomingTravelExhausted _ s) from
      leads_taken fun _ h => (h.haltAxis rfl _ _).ite h
  | homeFound =>
    exact show Leads [.fmu] s (execHomeFound _ s) from
      leads_taken fun _ h => ((h.setInputs _).findHome rfl _).ite (h.setInputs _)
  | limitActive =>
    exact show Leads [.fmu] s (execLimitActive _ s) from
      leads_taken fun _ h => ((h.setInputs _).haltAxis rfl _ _).ite (h.setInputs _)
  | driveBindingChange =>
    exact show Leads [.fmu] s (execDriveBindingChange _ _ s) from
      leads_taken fun _ h => ((h.setAxis rfl _ _).haltAxis rfl _ _).ite (h.setAxis rfl _ _)
  | valveTestExpiry => exact valveTestExpiry_leads _ _
  | axisHome =>
    exact show Leads [.fmu, .reply] s (execAxisHome _ s) from
      leads_taken fun _ h => h.wholeSet rfl _ _ _ (h.onAxes rfl _ fun k _ hu => hu.homeMember rfl k)
  | clearHalt =>
    exact show Leads [.fmu, .reply] s (execClearHalt _ s) from
      leads_taken fun _ h => h.wholeSet rfl _ _ _ (h.onAxes rfl _ fun k _ hu => hu.clearHaltMember rfl k)
  | axisStop =>
    exact show Leads [.fmu, .reply] s (execAxisStop _ _ _ s) from
      leads_taken fun _ h => h.require rfl _ _ (h.withLevel rfl _ (h.requireSome rfl _ _ fun m =>
      h.requireSome rfl _ _ fun n => h.onAxes rfl _ fun k _ hu => hu.stopMember rfl m n k))
  | axisConfig =>
    exact show Leads [.reply] s (execAxisConfig _ _ _ _ _ _ s) from
      leads_taken fun _ h => h.withLevel rfl _ (h.requireSome rfl _ _ fun k => h.require rfl _ _ (h.require rfl _ _
      ((h.configure _ (by rfl)).replyOk rfl _)))
  | axisDuty =>
    exact show Leads [.fmu, .reply] s (execAxisDuty _ _ _ s) from
      leads_taken fun _ h => h.require rfl _ _ (h.requireSome rfl _ _ fun d =>
      h.onAxes rfl _ fun k _ hu => hu.afterGrant _ (hu.dutyMember rfl d k))
  | axisMove =>
    exact show Leads [.fmu, .reply] s (execAxisMove _ _ _ s) from
      leads_taken fun _ h => h.require rfl _ _ (h.onAxes rfl _ fun k _ hu => hu.afterGrant _ (hu.moveMember rfl _ k))
  | axisJog =>
    exact show Leads [.fmu, .reply] s (execAxisJog _ _ _ s) from
      leads_taken fun _ h => h.require rfl _ _ (h.requireSome rfl _ _ fun d =>
      h.onAxes rfl _ fun k _ hu => hu.afterGrant _ (hu.jogMember rfl d k))
  | valveTest =>
    exact show Leads [.fmu, .reply] s (execValveTest _ _ _ s) from
      leads_taken fun _ h => h.require rfl _ _ (h.onAxes rfl _ fun k _ hu => hu.afterGrant _ (hu.valveMember rfl _ k))
  | fmuDeparture =>
    exact show Leads [.fmu] s (execFmuDeparture _ s) from
      leads_taken fun _ h => h.foldl (fun _ _ hu => hu.departAxis rfl _ _) _
  | fmuLineClear =>
    exact show Leads [.fmu] s (execFmuLineClear s) from
      leads_taken fun _ h => h.foldl (fun _ _ hu => hu.clearAxis rfl _) _
  | holdListAdd =>
    exact show Leads [.fmu] s (execHoldListAdd _ _ _ s) from
      leads_taken fun _ h => h.setAxis rfl _ _
  | holdListRemove =>
    exact show Leads [.fmu] s (execHoldListRemove _ _ s) from
      leads_taken fun _ h => ((h.setAxis rfl _ _).consultAgain rfl _).ite (h.setAxis rfl _ _)
  | holdRelease =>
    exact show Leads [.fmu] s (execHoldRelease _ _ s) from
      leads_taken fun _ h => ((h.setAxis rfl _ _).consultAgain rfl _).ite h
  | accountAlarmEntry =>
    exact show Leads [.fmu] s (execAccountAlarmEntry _ s) from
      leads_taken fun _ h => (h.setAxis rfl _ _).ite h
  | accountAlarmExit =>
    exact show Leads [.fmu] s (execAccountAlarmExit _ s) from
      leads_taken fun _ h => h.setAxis rfl _ _
  | fmuGrantClosingStart =>
    exact show Leads [.fmu] s (execFmuGrantClosingStart _ _ s) from
      leads_taken fun _ h => (h.foldl (fun _ _ hu => hu.closeAxis rfl _) _).send _
  | fmuGrantCompletion => exact fmuGrantCompletion_leads _ _
  | recipeWrite =>
    exact show Leads [.reply] s (execRecipeWrite _ _ s) from
      leads_taken fun _ h => h.withLevel rfl _ (h.requireSome rfl _ _ fun n => h.requireSome rfl _ _ fun r =>
      h.require rfl _ _ ((h.writeRecipe _ _).replyOk rfl _))
  | recipeSelect =>
    exact show Leads [.fmu, .reply] s (execRecipeSelect _ s) from
      leads_taken fun _ h => h.withLevel rfl _ (h.requireSome rfl _ _ fun n =>
      ((h.setFmu rfl _).reportActiveSet).replyOk rfl _)
  | trimWrite =>
    exact show Leads [.reply] s (execTrimWrite _ _ s) from
      leads_taken fun _ h => h.withLevel rfl _ (h.require rfl _ _ ((h.configure _ (by rfl)).replyOk rfl _))
  | trimMode =>
    exact show Leads [.reply] s (execTrimMode _ _ s) from
      leads_taken fun _ h => h.withLevel rfl _ (h.requireSome rfl _ _ fun m => (h.configure _ (by rfl)).replyOk rfl _)
  | productTemp =>
    exact show Leads [.fmu, .reply] s (execProductTemp _ s) from
      leads_taken fun _ h => h.withLevel rfl _ (h.require rfl _ _ ((h.takeTemperature rfl _).replyOk rfl _))
  | tempDeadlineExpiry =>
    exact show Leads [.fmu] s (execTempDeadlineExpiry s) from
      leads_taken fun _ h => (h.setTempStale rfl _).ite h
  | ctuPitchEvent =>
    exact show Leads [.ctu] s (execCtuPitchEvent _ _ s) from
      leads_taken fun _ h => h.foldl (fun _ _ hu => hu.cameraPitch rfl _ _ _) _
  | verdictWindowExpiry =>
    exact show Leads [.ctu] s (execVerdictWindowExpiry _ _ s) from
      leads_taken fun _ h => h.expireWindows rfl _ _
  | lineTrigger =>
    exact show Leads [.ctu] s (execLineTrigger _ s) from
      leads_taken fun _ h => h.ite (h.foldl (fun _ _ hu => (hu.takeTrigger rfl _).ite hu) _)
  | triggerPulseEnd => exact triggerPulseEnd_leads _ _
  | verdictArrival => exact verdictArrival_leads _ _ _ _
  | cameraBindingChange =>
    exact show Leads [.ctu] s (execCameraBindingChange _ _ s) from
      leads_taken fun _ h => (h.loseCamera rfl _).ite (h.setCamera rfl _ _)
  | ctuDeparture =>
    exact show Leads [.ctu] s (execCtuDeparture _ s) from
      leads_taken fun _ h => h.foldl (fun _ _ hu => hu.setCamera rfl _ _) _
  | ctuLineClear =>
    exact show Leads [.ctu] s (execCtuLineClear s) from
      leads_taken fun _ h => h.foldl (fun _ _ hu => hu.setCamera rfl _ _) _
  | activeCameraSetReport =>
    exact show Leads [.ctu] s (execActiveCameraSetReport _ s) from
      leads_taken fun _ h => (h.setCtu rfl _).reportCameraSources _
  | ctuGrantClosingStart =>
    exact show Leads [.ctu] s (execCtuGrantClosingStart _ s) from
      leads_taken fun _ h => h.foldl (fun _ _ hu => (hu.leaveTest rfl _ _).ite hu) _
  | cameraConfig =>
    exact show Leads [.reply] s (execCameraConfig _ _ _ _ s) from
      leads_taken fun _ h => h.withLevel rfl _ (h.requireSome rfl _ _ fun k => h.require rfl _ _ (h.require rfl _ _
      ((h.configure _ (by rfl)).replyOk rfl _)))
  | cameraRearm =>
    exact show Leads [.ctu, .reply] s (execCameraRearm _ s) from
      leads_taken fun _ h => h.wholeSet rfl _ _ _ (h.onCameras rfl _ fun k _ hu => hu.rearmMember rfl k)
  | cameraTest =>
    exact show Leads [.ctu, .reply] s (execCameraTest _ _ _ s) from
      leads_taken fun _ h => h.require rfl _ _ (h.requireSome rfl _ _ fun b =>
      h.onCameras rfl _ fun k _ hu => hu.afterGrant _ (hu.testMember rfl _ b k))
  | testTrigger => exact testTrigger_leads _ _ _
  | switchBadFrame => exact switchBadFrame_leads _ _
  | query =>
    exact show Leads [.queries] s (execQuery _ _ _ s) from
      leads_takenOnSwitchLink fun h => h.onPort _ fun p => (h.setQueries rfl _).ite ((h.countSwitch _).send _)
  | answer => exact answer_leads _
  | linkReport =>
    exact show Leads [] s (execLinkReport _ _ s) from
      leads_takenOnSwitchLink fun h => h.onPort _ fun p =>
      (h.setSws _ (by rfl)).ite ((h.setSws _ (by rfl)).setPort _ _).recomputeBindings
  | errorReport =>
    exact show Leads [] s (execErrorReport _ _ s) from
      leads_takenOnSwitchLink fun h => h.onPort _ fun p => (h.setPort _ _).settleErrors _
  | forgetDone => exact forgetDone_leads _ _
  | forgetExpiry => exact forgetExpiry_leads _ _
  | firstSetting => exact firstSetting_leads _
  | portConfig => exact portConfig_leads _ _ _ _ _
  | stationPin => exact stationPin_leads _ _ _ _ _
  | stationUnpin => exact stationUnpin_leads _ _
  | stationQuarantine => exact stationQuarantine_leads _ _
  | stationRelease => exact stationRelease_leads _ _
  | stationFlush => exact stationFlush_leads _ _
  | portUnblock =>
    exact show Leads [.reply] s (execPortUnblock _ s) from
      leads_taken fun _ h => h.withLevel rfl _ (h.requireSome rfl _ _ fun p =>
      ((((h.setBlocked _ _).sendSwitch _).recomputeBindings).replyOk rfl _).ite (h.replyOk rfl _))
  | swsGrantOpened =>
    exact show Leads [] s (execSwsGrantOpened _ _ s) from
      leads_taken fun _ h => h.foldl (fun _ _ hu => hu.setPort _ _) _
  | swsGrantClosingStart => exact swsGrantClosingStart_leads _ _
  | swsGrantClosed =>
    exact show Leads [] s (execSwsGrantClosed _ s) from
      leads_taken fun _ h => h.setService _ _
  | unlock => exact unlock_leads _ _ _
  | lockoutExpiry => exact lockoutExpiry_leads _
  | lock =>
    exact show Leads [.reply] s (execLock s) from
      leads_taken fun _ h => (h.setAcu _).replyOk rfl _
  | idleDeadlineExpiry =>
    exact show Leads [] s (execIdleDeadlineExpiry s) from
      leads_taken fun _ h => ((h.setAcu _).post _).ite h
  | passcodeSet level _ =>
    refine show Leads [.reply] s (execPasscodeSet _ _ s) from
      leads_taken fun _ h => h.withLevel rfl _ (h.require rfl _ _ (Keeps.replyOk ?_ rfl _))
    exact h.configure _ (by unfold withPasscode; split <;> rfl)
  | grantOpen =>
    exact show Leads [.reply] s (execGrantOpen _ _ _ _ _ _ s) from
      leads_taken fun _ h => h.requireSome rfl _ _ fun g => h.require rfl _ _ (h.withLevel rfl _ (h.requireSome rfl _ _
      fun slot => h.require rfl _ _ (h.require rfl _ _ (h.openGrant rfl _ _ _ _ _ _ _))))
  | grantExtend => exact grantExtend_leads _ _ _
  | grantExpiry => exact grantExpiry_leads _ _
  | grantClose => exact grantClose_leads _ _
  | closingReport =>
    exact show Leads [] s (execClosingReport _ s) from
      leads_taken fun _ h => h.foldl (fun _ _ hu => hu.grantReport _ _) _
  | accountReset => exact accountReset_leads _ _ _
  | watchSet => exact watchSet_leads _ _ _ _ _ _ _
  | watchClear => exact watchClear_leads _ _ _ _
  | acuReport =>
    exact show Leads [] s (execAcuReport _ s) from
      leads_taken fun _ h => (h.foldl (fun _ _ hu => hu.atWatch _ _) _).noteHolder _
  | axisResume =>
    exact show Leads [.reply] s (execAxisResume _ s) from
      leads_taken fun _ h => h.wholeSet rfl _ _ _ (h.onAxes rfl _ fun k _ hu => hu.resumeMember k)
  | watchAck => exact watchAck_leads _ _
  | timeSet =>
    exact show Leads [.reply] s (execTimeSet _ s) from
      leads_taken fun _ h => h.withLevel rfl _ (h.require rfl _ _ (h.require rfl _ _ ((h.setTime _).replyOk rfl _)))
  | timeMark =>
    exact show Leads [] s (execTimeMark _ s) from
      leads_takenOnSwitchLink fun h => h.takeMark _
  | phaseTermExpiry => exact phaseTermExpiry_leads _
  | holdoverExpiry => exact holdoverExpiry_leads _
  | accountCount =>
    exact show Leads [] s (execAccountCount _ s) from
      leads_taken fun _ h => h.putAccount _ _ _
  | accountConfig =>
    exact show Leads [.reply] s (execAccountConfig _ _ _ s) from
      leads_taken fun _ h => h.withLevel rfl _ (h.requireSome rfl _ _ fun a => h.require rfl _ _
      ((h.putAccount _ _ _).markDirty.replyOk rfl _))
  | accountSaveExpiry =>
    exact show Leads [] s (execAccountSaveExpiry s) from
      leads_taken fun _ h => ((h.setTmu _).accountSaveDue).ite h
  | accountSaveComplete => exact accountSaveComplete_leads _ _
  | sourceActivation =>
    exact show Leads [.pml] s (execSourceActivation _ s) from
      leads_taken fun _ h => h.activateSource rfl _
  | sourceDeactivation =>
    exact show Leads [.pml] s (execSourceDeactivation _ s) from
      leads_taken fun _ h => h.deactivateSource rfl _
  | eventSourceLatch =>
    exact show Leads [.pml] s (execEventSourceLatch _ s) from
      leads_taken fun _ h => h.latchSource rfl _
  | extensionExpiry =>
    exact show Leads [.pml] s (execExtensionExpiry _ s) from
      leads_taken fun _ h => ((h.weigh rfl _).settlePermit rfl _ _).ite h
  | faultAck => exact faultAck_leads _ _
  | permitConfig =>
    exact show Leads [.pml, .sources, .reply] s (execPermitConfig _ _ _ _ s) from
      leads_taken fun _ h => h.withLevel rfl _ (h.requireSome rfl _ _ fun n => h.requireSome rfl _ _ fun e =>
      h.requireSome rfl _ _ fun m => h.require rfl _ _
        (h.require rfl _ _ (h.require rfl _ _ ((h.configureSource rfl rfl _ _).replyOk rfl _))))
  | requestFrame => exact requestFrame_leads _ _
  | frameGapTimeout =>
    exact show Leads [] s (execFrameGapTimeout s) from
      leads_taken fun _ h => h.abandonFrame
  | requestTaken => exact requestTaken_leads _
  | fetchNotices =>
    exact show Leads [.reply] s (execFetchNotices _ s) from
      leads_taken fun hrunning h => h.require rfl _ _ (h.fetch rfl hrunning _)
  | save =>
    exact show Leads [.reply] s (execSave s) from
      leads_taken fun _ h => h.withLevel rfl _ (h.require rfl _ _ ((h.setSst _).replyAccepted rfl _))
  | saveComplete => exact saveComplete_leads _ _
  | syncFound => exact syncFound_leads _
  | frameAbandonedForLength =>
    exact show Leads [] s (execFrameAbandonedForLength _ s) from
      leads_taken fun _ h => h.abandonFrame.ite h

end Sys2Proof.Invariants
end

section
/-!
SUPPORT. A command and a step by what they can do: a command keeps what it does not write, restarts the part, or completes a
start; a step runs a command or lets a microsecond pass. Every invariant follows from those cases.
-/

namespace Sys2Proof.Invariants

open Sys2Proof Sys2Proof.Machine Sys2Proof.Safety Sys2Proof.Claims

/-! ## Restarts -/

/-- The part is held in reset, or begins start-up: every block takes its reset values (R202, R203). -/
def Restarted (s t : State) : Prop := (∃ clock, t = s.reboot clock .held) ∨ ∃ clock, t = s.beginStartUp clock

/-- The part at the completion of start-up, before it raises its sources (R203). -/
def begun (a b : Bool) (s : State) : State :=
  ((s.setPhase .running).setLtr { s.ltr with refA := a, refB := b }).startDeadlines

theorem softReset_outcome (s : State) :
    ∃ t, execSoftReset s = .next t ∧ (Keeps [.reply] s t ∨ Restarted s t) := by
  by_cases hrunning : s.phase = .running
  · refine ⟨_, taken_running hrunning _ _, ?_⟩
    have h : Keeps [.reply] s (s.received .softReset) := (Keeps.refl _ s).received _
    unfold State.withLevel State.require
    split
    · exact .inl (h.refuse rfl _)
    · dsimp only
      split
      · split
        · exact .inl ((h.replyOk rfl _).setLnk _ (by rfl))
        · exact .inr (.inr ⟨_, rfl⟩)
      · exact .inl (h.refuse rfl _)
  · exact ⟨s, taken_before hrunning _ _, .inl (Keeps.refl _ s)⟩

theorem replySent_outcome (s : State) :
    ∃ t, execReplySent s = .next t ∧ (Keeps [.reply] s t ∨ Restarted s t) := by
  by_cases hrunning : s.phase = .running
  · refine ⟨_, taken_running hrunning _ _, ?_⟩
    have h : Keeps [.reply] s (s.received .replySent) := (Keeps.refl _ s).received _
    split
    · exact .inl h
    · split
      · exact .inr (.inr ⟨_, rfl⟩)
      · exact .inl ((h.countLink _).writeLnk _ (by rfl) (.inr (by rfl)) (.inl rfl))
  · exact ⟨s, taken_before hrunning _ _, .inl (Keeps.refl _ s)⟩

/-- What a command can do. -/
theorem exec_outcome (c : Instr) (s : State) :
    ∃ t, exec c s = .next t ∧ (Keeps (writes c) s t ∨ Restarted s t
      ∨ s.phase = .starting ∧ ∃ a b, t = (begun a b s).raiseAtStart) := by
  cases hc : restarts c with
  | false =>
    obtain ⟨t, ht, hkeeps⟩ := exec_leads c s hc
    exact ⟨t, ht, .inl hkeeps⟩
  | true =>
    cases c
    case pinReset => exact ⟨_, rfl, .inr (.inl (.inl ⟨_, rfl⟩))⟩
    case resetRelease =>
      by_cases h : s.phase = .held
      · exact ⟨_, if_pos h, .inr (.inl (.inr ⟨_, rfl⟩))⟩
      · exact ⟨s, if_neg h, .inl (Keeps.refl _ s)⟩
    case startUpComplete a b =>
      by_cases h : s.phase = .starting
      · exact ⟨_, if_pos h, .inr (.inr ⟨h, a, b, rfl⟩)⟩
      · exact ⟨s, if_neg h, .inl (Keeps.refl _ s)⟩
    case softReset =>
      obtain ⟨t, ht, h⟩ := softReset_outcome s
      exact ⟨t, ht, h.imp_right .inl⟩
    case replySent =>
      obtain ⟨t, ht, h⟩ := replySent_outcome s
      exact ⟨t, ht, h.imp_right .inl⟩
    all_goals cases hc

/-- A property that holds after a command: one proof for what keeps, one for what restarts, one for what completes a start. -/
theorem exec_preserves {Q : State → Prop} {c : Instr} {s t : State} (he : exec c s = .next t)
    (hkeeps : Keeps (writes c) s t → Q t) (hrestart : Restarted s t → Q t)
    (hstart : s.phase = .starting → ∀ a b, t = (begun a b s).raiseAtStart → Q t) : Q t := by
  obtain ⟨u, hu, h⟩ := exec_outcome c s
  obtain rfl : u = t := by simpa only [hu, Host.Outcome.next.injEq] using he
  obtain h | h | ⟨hphase, a, b, h⟩ := h
  · exact hkeeps h
  · exact hrestart h
  · exact hstart hphase a b h

/-! ## Steps -/

/-- Settles O53: the front command is taken off the queue and run. -/
theorem stepRunsTheCommandAtTheFront : Obligations.StepRunsTheCommandAtTheFront := by
  intro c rest s h
  simp only [step, h]
  rfl

/-- A property that holds after a step: one proof for commands, one for a microsecond. -/
theorem step_preserves {P Q : State → Prop} (hpending : ∀ s x, P s → P (s.setPending x))
    (hexec : ∀ c s t, P s → exec c s = .next t → Q t) (htick : ∀ s, P s → Q (tick s)) {s t : State} (h : P s)
    (hstep : step s = .next t) : Q t := by
  unfold step at hstep
  split at hstep
  · exact hexec _ _ _ (hpending _ _ h) hstep
  · split at hstep
    · exact hexec _ _ _ h hstep
    · obtain rfl : tick s = t := by simpa only [Host.Outcome.next.injEq] using hstep
      exact htick _ h

/-- A microsecond changes none of the levels of an axis, and neither its motion state nor its valve test. -/
theorem ramped_levels (a : Axis) :
    a.ramped.valve = a.valve ∧ a.ramped.dir = a.dir ∧ a.ramped.motion = a.motion
      ∧ a.ramped.valveTestEnd = a.valveTestEnd := by
  unfold Axis.ramped
  split
  · exact ⟨rfl, rfl, rfl, rfl⟩
  · unfold Axis.rampedOn
    split <;> exact ⟨rfl, rfl, rfl, rfl⟩

/-- A microsecond changes the axes by their ramps, the feed of inputs, and no region besides. -/
theorem tick_eq (s : State) :
    ∃ u feed, tick s = u.setFeed feed ∧ Keeps [.fmu] s u
      ∧ ∀ k : AxisNo, u.axis k = s.axis k ∨ u.axis k = (s.axis k).ramped := by
  have hfeed : ∀ t : State, Keeps [.fmu] s t →
      ∃ u feed, t.takeFeed = u.setFeed feed ∧ Keeps [.fmu] s u ∧ u.fmu = t.fmu := by
    intro t ht
    unfold State.takeFeed
    split
    · exact ⟨t, t.feed, rfl, ht, rfl⟩
    · exact ⟨_, _, rfl, ht.setInputs _, rfl⟩
  unfold tick
  split
  · obtain ⟨u, feed, hu, hkeeps, hfmu⟩ := hfeed s (Keeps.refl _ s)
    exact ⟨u, feed, hu, hkeeps, fun k => .inl (by rw [State.axis, hfmu]; rfl)⟩
  · have hramp : Keeps [.fmu] s s.advanceTime.rampAxes := ((Keeps.refl _ s).advanceTime).setFmu rfl _
    obtain ⟨u, feed, hu, hkeeps, hfmu⟩ := hfeed _ hramp
    have hsame : s.advanceTime.fmu = s.fmu := ((Keeps.refl [] s).advanceTime).unwritten .fmu (by decide)
    refine ⟨u, feed, hu, hkeeps, fun k => .inr ?_⟩
    rw [State.axis, hfmu]
    simp [State.rampAxes, hsame, State.axis]

/-! ## Completion before start-up completes (log 30) -/

theorem exec_before_completion {c : Instr} {s : State} (h : ¬ running s) (hc : ¬ takenEarly c) : exec c s = .next s := by
  cases c <;> first | exact if_neg h | exact absurd trivial hc

theorem exec_while_held {c : Instr} {s : State} (h : s.phase = .held) (hc : takenEarly c) (hpin : c ≠ .pinReset)
    (hrelease : c ≠ .resetRelease) : exec c s = .next s := by
  cases c
  case pinReset => exact absurd rfl hpin
  case resetRelease => exact absurd rfl hrelease
  case startUpComplete => exact if_neg (by simp [h])
  case query | linkReport | errorReport | forgetDone | timeMark | switchBadFrame => exact if_pos h
  all_goals exact hc.elim

theorem begun_keeps (a b : Bool) (s : State) : Keeps [.ltr, .fmu] (s.setPhase .running) (begun a b s) :=
  ((((((Keeps.refl _ (s.setPhase .running)).setLtr rfl _).setFmu rfl _).setAcu _).setTmu _).setSws _ (by rfl))

theorem Keeps.raiseIf {ps : List Region} {s t : State} (h : Keeps ps s t) (hp : ps.contains .pml = true) (present : Bool)
    (src : FaultSource) : Keeps ps s (t.raiseIf present src) := (h.activateSource hp _).ite h

theorem Keeps.latchFailedLoad {ps : List Region} {s t : State} (h : Keeps ps s t) (hp : ps.contains .pml = true) :
    Keeps ps s t.latchFailedLoad := (h.latchSource hp _).ite h

/-- The sources raised at the completion of start-up, after RESTARTED, write the PML alone (R182). -/
theorem raiseAtStart_keeps (s : State) : Keeps [.pml] (s.latchSource .restarted) s.raiseAtStart :=
  ((((Keeps.refl _ (s.latchSource .restarted)).latchFailedLoad rfl).raiseIf rfl _ _).raiseIf rfl _ _).raiseIf rfl _ _

theorem completed_keeps (a b : Bool) (s : State) :
    Keeps [.ltr, .fmu, .pml] (s.setPhase .running) (begun a b s).raiseAtStart :=
  (((begun_keeps a b s).mono (by decide)).latchSource rfl _).trans ((raiseAtStart_keeps _).mono (by decide))

/-- Settles O55: what each command can do leaves the queue and the feed, and the commands taken before completion are few. -/
theorem everyCommandCompletes : Obligations.EveryCommandCompletes := by
  refine ⟨fun c s => ?_, fun c s => exec_before_completion, fun c s => exec_while_held⟩
  obtain ⟨t, ht, h | (⟨clock, rfl⟩ | ⟨clock, rfl⟩) | ⟨_, a, b, rfl⟩⟩ := exec_outcome c s
  · exact ⟨t, ht, h.pending, h.feed⟩
  · exact ⟨_, ht, rfl, rfl⟩
  · exact ⟨_, ht, rfl, rfl⟩
  · exact ⟨_, ht, (completed_keeps a b s).pending, (completed_keeps a b s).feed⟩

end Sys2Proof.Invariants
end

section
/-!
SUPPORT. The invariants of the whole part: PERMIT and ATTN with the outputs before completion, the sizes of the queues, the
forced sources, and the state at reset.
-/

namespace Sys2Proof.Invariants

open Sys2Proof Sys2Proof.Machine Sys2Proof.Safety Sys2Proof.Claims

/-! ## PERMIT follows its sources (R177) -/

/-- PERMIT is what the sources give. -/
def permitSettled (s : State) : Prop := s.pml.permit = permitOf s.pml

theorem permitSettled_iff (s : State) :
    permitSettled s ↔ (s.pml.permit = true ↔ ∀ n : Fin 16, (s.source n).inEffect = false) := by
  rw [permitSettled, Bool.eq_iff_iff, permitOf_iff]
  rfl

theorem permitSettled_of_pml {s t : State} (h : t.pml = s.pml) (hs : permitSettled s) : permitSettled t := by
  rwa [permitSettled, h]

theorem settlePermit_settles (s : State) (src : FaultSource) (c : PermitCause) : permitSettled (s.settlePermit src c) := by
  rw [permitSettled, settlePermit_permit, permitOf, permitOf, settlePermit_sources]

theorem activateSource_settled {s : State} (h : permitSettled s) (src : FaultSource) :
    permitSettled (s.activateSource src) := by
  unfold State.activateSource
  dsimp only
  split
  · exact h
  · exact settlePermit_settles _ _ _

theorem deactivateSource_settled {s : State} (h : permitSettled s) (src : FaultSource) :
    permitSettled (s.deactivateSource src) := by
  unfold State.deactivateSource
  dsimp only
  split
  · exact settlePermit_settles _ _ _
  · exact h

theorem latchSource_event_settles (s : State) {src : FaultSource} (hevent : src.isEvent = true) :
    permitSettled (s.latchSource src) := by
  unfold State.latchSource
  dsimp only
  rw [if_pos hevent]
  exact settlePermit_settles _ _ _

theorem latchSource_settled {s : State} (h : permitSettled s) (src : FaultSource) : permitSettled (s.latchSource src) := by
  by_cases hevent : src.isEvent = true
  · exact latchSource_event_settles s hevent
  · unfold State.latchSource
    dsimp only
    rwa [if_neg hevent]

/-- A member of FAULT_ACK that is active, or not latched, is left as it is (R179). -/
theorem ackMember_unchanged {s : State} {n : Fin 16} (h : (!(s.source n).active && (s.source n).latched) = false) :
    (ackMember n s).1 = s := by
  unfold ackMember
  dsimp only
  split
  · rfl
  · split
    · simp_all
    · rfl

/-- With no latch to clear, a FAULT_ACK changes no source (R179). -/
theorem ack_unchanged {s : State} {members : List (Fin 16)} (h : ackChanged s members = none) :
    (runMembers members (fun n => n.val) ackMember s).1 = s := by
  unfold runMembers runMembersDetailed
  generalize ([] : List Byte) = bytes
  induction members generalizing bytes with
  | nil => rfl
  | cons n rest ih =>
    simp only [ackChanged, List.find?_cons] at h
    split at h
    · cases h
    · rename_i hn
      rw [List.foldl_cons, ackMember_unchanged (by simpa using hn)]
      exact ih h _

theorem configureSource_settles (s : State) (n : Fin 16) (c : SourceSettings) : permitSettled (s.configureSource n c) :=
  settlePermit_settles _ _ _

theorem withLevel_induct {P : State → Prop} {s : State} {need : Nat} {f : State → State}
    (hrefuse : ∀ r, P (s.refuse r)) (hf : P (f s)) : P (s.withLevel need f) := by
  unfold State.withLevel
  split
  · exact hrefuse _
  · exact hf

theorem require_induct {P : State → Prop} {s : State} {ok : Bool} {r : Reason} {f : State → State}
    (hrefuse : ∀ r, P (s.refuse r)) (hf : ok = true → P (f s)) : P (s.require ok r f) := by
  unfold State.require
  split
  · exact hf ‹_›
  · exact hrefuse _

theorem requireSome_induct {α : Type} {P : State → Prop} {s : State} {x : Option α} {r : Reason}
    {f : α → State → State}
    (hrefuse : ∀ r, P (s.refuse r)) (hf : ∀ v, x = some v → P (f v s)) : P (s.requireSome x r f) := by
  cases x with
  | none => exact hrefuse _
  | some v => exact hf v rfl

theorem taken_induct {P : State → Prop} {c : Instr} {s t : State} {f : State → State} (ht : taken c s f = .next t)
    (hs : P s) (hf : P (f (s.received c))) : P t := by
  by_cases h : s.phase = .running
  · rw [taken_running h, Host.Outcome.next.injEq] at ht
    rwa [← ht]
  · rw [taken_before h, Host.Outcome.next.injEq] at ht
    rwa [← ht]

theorem faultAck_settled {sources : List Nat} {s t : State} (h : permitSettled s) (ht : exec (.faultAck sources) s = .next t) :
    permitSettled t := by
  refine taken_induct (show execFaultAck sources s = .next t from ht) h ?_
  have hr : ∀ r, permitSettled ((s.received (.faultAck sources)).refuse r) := fun r =>
    permitSettled_of_pml (by simp) h
  refine withLevel_induct hr (require_induct hr fun _ => ?_)
  dsimp only
  split
  · exact permitSettled_of_pml (replyOk_pml _ _) (settlePermit_settles _ _ _)
  · rename_i hnone
    exact permitSettled_of_pml (replyOk_pml _ _) (by rw [ack_unchanged hnone]; exact h)

theorem permitConfig_settled {source enable mode extension : Nat} {s t : State} (h : permitSettled s)
    (ht : exec (.permitConfig source enable mode extension) s = .next t) : permitSettled t := by
  refine taken_induct (show execPermitConfig source enable mode extension s = .next t from ht) h ?_
  have hr : ∀ r, permitSettled ((s.received (.permitConfig source enable mode extension)).refuse r) := fun r =>
    permitSettled_of_pml (by simp) h
  exact withLevel_induct hr (requireSome_induct hr fun n _ => requireSome_induct hr fun e _ => requireSome_induct hr fun m _ =>
    require_induct hr fun _ => require_induct hr fun _ => require_induct hr fun _ =>
      permitSettled_of_pml (replyOk_pml _ _) (configureSource_settles _ _ _))

theorem extensionExpiry_settled {source : FaultSource} {s t : State} (h : permitSettled s)
    (ht : exec (.extensionExpiry source) s = .next t) : permitSettled t := by
  refine taken_induct (show execExtensionExpiry source s = .next t from ht) h ?_
  dsimp only
  split
  · exact settlePermit_settles _ _ _
  · exact h

/-- Every command that writes the PML settles PERMIT. -/
theorem exec_permitSettled {c : Instr} {s t : State} (h : permitSettled s) (ht : exec c s = .next t)
    (hkeeps : Keeps (writes c) s t) : permitSettled t := by
  cases c
  case sourceActivation src =>
    exact taken_induct (show execSourceActivation src s = .next t from ht) h (activateSource_settled (s := s.received _) h src)
  case sourceDeactivation src =>
    exact taken_induct (show execSourceDeactivation src s = .next t from ht) h
      (deactivateSource_settled (s := s.received _) h src)
  case eventSourceLatch src =>
    exact taken_induct (show execEventSourceLatch src s = .next t from ht) h (latchSource_settled (s := s.received _) h src)
  case extensionExpiry => exact extensionExpiry_settled h ht
  case faultAck => exact faultAck_settled h ht
  case permitConfig => exact permitConfig_settled h ht
  all_goals exact permitSettled_of_pml (hkeeps.agrees .pml rfl) h

/-! ## The outputs before start-up completes (R203) -/

/-- The levels but ATTN stay where the blocks they are read from stay. -/
theorem level_agree {s t : State} (h : ∀ r ∈ [Region.ltr, .fmu, .ctu, .reply, .pml], agree s t r) {o : Output}
    (ho : o ≠ .attn) : t.level o = s.level o := by
  have hltr : t.ltr = s.ltr := h .ltr (by decide)
  have hfmu : t.fmu = s.fmu := h .fmu (by decide)
  have hctu : t.ctu = s.ctu := h .ctu (by decide)
  have hreply : t.lnk.reply = s.lnk.reply := h .reply (by decide)
  have hpml : t.pml = s.pml := h .pml (by decide)
  cases o
  case attn => exact absurd rfl ho
  all_goals simp only [State.level, State.axis, State.camera, hltr, hfmu, hctu, hreply, hpml]

theorem attnSettled_of_follows {s : State} (h : outputsFollow s) : attnSettled s := by
  obtain ⟨hquiet, -, hattn⟩ := h
  by_cases hrunning : s.phase = .running
  · rw [attnSettled, Bool.eq_iff_iff, hattn hrunning]
    simp [hrunning]
  · have hlow : s.lnk.attn = false := by simpa [State.level, resetLevel] using hquiet hrunning .attn
    simp [attnSettled, hlow, hrunning]

theorem follows_of_running {s : State} (hrunning : s.phase = .running) (hpermit : permitSettled s) (hattn : attnSettled s) :
    outputsFollow s := by
  refine ⟨fun h => absurd hrunning h, fun _ => (permitSettled_iff s).mp hpermit, fun _ => ?_⟩
  rw [hattn]
  simp [hrunning]

theorem follows_of_quiet {s : State} (hphase : s.phase ≠ .running) (hquiet : outputsAtReset s) : outputsFollow s :=
  ⟨fun _ => hquiet, fun h => absurd h hphase, fun h => absurd h hphase⟩

/-- The outputs stay where they are while the part does not run and the blocks they are read from stay. -/
theorem follows_of_agree {s t : State} (h : outputsFollow s) (hs : s.phase ≠ .running) (hphase : t.phase = s.phase)
    (hattn : attnSettled t) (hagree : ∀ r ∈ [Region.ltr, .fmu, .ctu, .reply, .pml], agree s t r) : outputsFollow t := by
  have ht : t.phase ≠ .running := hphase ▸ hs
  refine follows_of_quiet ht fun o => ?_
  by_cases ho : o = .attn
  · subst ho
    have hlow : t.lnk.attn = false := by simp [attnSettled] at hattn; simp [hattn, ht]
    simp [State.level, resetLevel, hlow]
  · rw [level_agree hagree ho]
    exact h.1 hs o

/-- The messages that the switch link brings before completion write no block with an output. -/
theorem writes_early {c : Instr} (hc : takenEarly c) :
    [Region.ltr, .fmu, .ctu, .reply, .pml].all (fun r => !(writes c).contains r) = true := by
  cases c
  case query | linkReport | errorReport | forgetDone | timeMark | switchBadFrame => rfl
  case pinReset | resetRelease | startUpComplete => rfl
  all_goals exact hc.elim

theorem follows_of_keeps {c : Instr} {s t : State} (h : outputsFollow s) (ht : exec c s = .next t)
    (hkeeps : Keeps (writes c) s t) : outputsFollow t := by
  have hattn : attnSettled t := hkeeps.attn (attnSettled_of_follows h)
  by_cases hrunning : s.phase = .running
  · exact follows_of_running (hkeeps.phase.trans hrunning)
      (exec_permitSettled ((permitSettled_iff s).mpr (h.2.1 hrunning)) ht hkeeps) hattn
  · by_cases hearly : takenEarly c
    · refine follows_of_agree h hrunning hkeeps.phase hattn fun r hr => hkeeps.agrees r ?_
      simpa using List.all_eq_true.mp (writes_early hearly) r hr
    · rw [exec_before_completion hrunning hearly, Host.Outcome.next.injEq] at ht
      exact ht ▸ h

/-- After a reset every output is at its level of R203. -/
theorem follows_of_restarted {s t : State} (h : Restarted s t) : outputsFollow t := by
  have hrebooted : ∀ clock phase, outputsAtReset (s.reboot clock phase) := by
    intro clock phase o
    cases o
    case valve k | dir k => simp [State.level, resetLevel, State.axis, State.reboot, resetAxes]
    case trig k | tag0 k | tag1 k => simp [State.level, resetLevel, State.camera, State.reboot]
    all_goals rfl
  obtain ⟨clock, rfl⟩ | ⟨clock, rfl⟩ := h
  · exact follows_of_quiet (by simp [State.reboot]) (hrebooted clock .held)
  · exact follows_of_quiet (by simp [State.beginStartUp, State.reboot, State.sendSwitch, State.transmit])
      (hrebooted clock .starting)

/-- Latching RESTARTED settles PERMIT and ATTN, and the sources raised after it keep them settled (R203). -/
theorem follows_of_completed (a b : Bool) (s : State) : outputsFollow (begun a b s).raiseAtStart := by
  refine follows_of_running (completed_keeps a b s).phase ?_ ?_
  · have hraise : ∀ {u : State} (present : Bool) (src : FaultSource), permitSettled u →
        permitSettled (u.raiseIf present src) := by
      intro u present src hu
      unfold State.raiseIf
      split
      · exact activateSource_settled hu src
      · exact hu
    refine hraise _ _ (hraise _ _ (hraise _ _ ?_))
    unfold State.latchFailedLoad
    split
    · exact latchSource_event_settles _ rfl
    · exact latchSource_event_settles _ rfl
  · refine (raiseAtStart_keeps _).attn ?_
    exact ((Keeps.refl [.pml] _).settlePermit rfl _ _).attn (post_attnSettled _ _)

/-- A microsecond changes no level but, by the notices, ATTN. -/
theorem tick_level {s : State} {o : Output} (ho : o ≠ .attn) : (tick s).level o = s.level o := by
  obtain ⟨u, feed, htick, hkeeps, haxes⟩ := tick_eq s
  have hlevels : ∀ k, (u.axis k).valve = (s.axis k).valve ∧ (u.axis k).dir = (s.axis k).dir := by
    intro k
    obtain hk | hk := haxes k
    · exact hk ▸ ⟨rfl, rfl⟩
    · exact hk ▸ ⟨(ramped_levels _).1, (ramped_levels _).2.1⟩
  have hltr : u.ltr = s.ltr := hkeeps.agrees .ltr rfl
  have hctu : u.ctu = s.ctu := hkeeps.agrees .ctu rfl
  have hreply : u.lnk.reply = s.lnk.reply := hkeeps.agrees .reply rfl
  have hpml : u.pml = s.pml := hkeeps.agrees .pml rfl
  have hfeed : (tick s).level o = u.level o := by rw [htick]; cases o <;> rfl
  rw [hfeed]
  cases o
  case attn => exact absurd rfl ho
  case valve k => simp only [State.level, (hlevels k).1]
  case dir k => simp only [State.level, (hlevels k).2]
  all_goals simp only [State.level, State.camera, hltr, hctu, hreply, hpml]

theorem follows_of_tick {s : State} (h : outputsFollow s) : outputsFollow (tick s) := by
  obtain ⟨u, feed, htick, hkeeps, haxes⟩ := tick_eq s
  have hattn : attnSettled (tick s) := htick ▸ hkeeps.attn (attnSettled_of_follows h)
  have hphase : (tick s).phase = s.phase := htick ▸ hkeeps.phase
  have hpml : (tick s).pml = s.pml := htick ▸ hkeeps.agrees .pml rfl
  by_cases hrunning : s.phase = .running
  · exact follows_of_running (hphase.trans hrunning)
      (permitSettled_of_pml hpml ((permitSettled_iff s).mpr (h.2.1 hrunning))) hattn
  · refine follows_of_quiet (hphase ▸ hrunning) fun o => ?_
    by_cases ho : o = .attn
    · have hlow : (tick s).lnk.attn = false := by
        rw [attnSettled, hphase] at hattn
        simp [hattn, hrunning]
      simp [ho, State.level, resetLevel, hlow]
    · rw [tick_level ho]
      exact h.1 hrunning o

/-- Settles O56: every command that keeps the part running settles PERMIT and ATTN, and every other leaves the outputs low. -/
theorem everyStepKeepsPermitAndAttn : Obligations.EveryStepKeepsPermitAndAttn := fun _ _ =>
  step_preserves (fun _ _ h => h)
    (fun _ s _ h ht => exec_preserves ht (follows_of_keeps h ht) follows_of_restarted
      fun _ a b hcompleted => hcompleted ▸ follows_of_completed a b s)
    fun _ => follows_of_tick

end Sys2Proof.Invariants
end

section
/-!
SUPPORT. Properties that read one region of the state, and how they pass the shared operations; and the valves, closed out of
FILLING and valve tests.
-/

namespace Sys2Proof.Invariants

open Sys2Proof Sys2Proof.Machine Sys2Proof.Safety Sys2Proof.Claims

/-! ## Properties of one region -/

/-- A property that reads one region of the state and nothing besides. -/
structure ReadsOnly (r : Region) (P : State → Prop) : Prop where
  of_agree : ∀ {s t : State}, agree s t r → P s → P t

section

variable {r : Region} {P : State → Prop} {s t : State}

theorem ReadsOnly.of_keeps (hP : ReadsOnly r P) {ps : List Region} (hk : Keeps ps s t) (hr : ps.contains r = false)
    (h : P s) : P t := hP.of_agree (hk.agrees r hr) h

theorem ReadsOnly.received (hP : ReadsOnly r P) (h : P s) (c : Instr) : P (s.received c) :=
  hP.of_keeps ((Keeps.refl [] s).received c) rfl h

theorem ReadsOnly.send (hP : ReadsOnly r P) (h : P s) (c : Instr) : P (s.send c) :=
  hP.of_keeps ((Keeps.refl [] s).send c) rfl h

theorem ReadsOnly.sendAll (hP : ReadsOnly r P) (h : P s) (cs : List Instr) : P (s.sendAll cs) :=
  hP.of_keeps ((Keeps.refl [] s).sendAll cs) rfl h

theorem ReadsOnly.post (hP : ReadsOnly r P) (h : P s) (n : Notice) : P (s.post n) :=
  hP.of_keeps ((Keeps.refl [] s).post n) rfl h

theorem ReadsOnly.reportSource (hP : ReadsOnly r P) (h : P s) (src : FaultSource) (a b : Bool) :
    P (s.reportSource src a b) := hP.of_keeps ((Keeps.refl [] s).reportSource src a b) rfl h

theorem ReadsOnly.answer (hP : ReadsOnly r P) (hr : [Region.reply].contains r = false) (h : P s) (a : Answer) :
    P (s.answer a) := hP.of_keeps ((Keeps.refl [.reply] s).answer rfl a) hr h

theorem ReadsOnly.withLevel (hP : ReadsOnly r P) (hr : [Region.reply].contains r = false) (h : P s) (need : Nat)
    {f : State → State} (hf : P (f s)) : P (s.withLevel need f) := withLevel_induct (fun _ => hP.answer hr h _) hf

theorem ReadsOnly.require (hP : ReadsOnly r P) (hr : [Region.reply].contains r = false) (h : P s) (ok : Bool) (why : Reason)
    {f : State → State} (hf : ok = true → P (f s)) : P (s.require ok why f) :=
  require_induct (fun _ => hP.answer hr h _) hf

theorem ReadsOnly.requireSome (hP : ReadsOnly r P) (hr : [Region.reply].contains r = false) (h : P s) {α : Type}
    (x : Option α) (why : Reason) {f : α → State → State} (hf : ∀ v, x = some v → P (f v s)) :
    P (s.requireSome x why f) := requireSome_induct (fun _ => hP.answer hr h _) hf

theorem ReadsOnly.wholeSet (hP : ReadsOnly r P) (hr : [Region.reply].contains r = false) (h : P s) (named : Bool)
    (need : Nat) (common : Bool) {f : State → State} (hf : P (f s)) : P (s.wholeSet named need common f) :=
  hP.require hr h _ _ fun _ => hP.withLevel hr h _ (hP.require hr h _ _ fun _ => hf)

end

theorem ite_induct {P : State → Prop} {s t : State} {c : Prop} [Decidable c] (hs : c → P s) (ht : ¬ c → P t) :
    P (if c then s else t) := by
  split
  · exact hs ‹_›
  · exact ht ‹_›

theorem runMembersDetailed_induct {α : Type} {P : State → Prop} {number : α → Nat}
    {f : α → State → State × MemberResult × Nat} (hf : ∀ m u, P u → P (f m u).1) (members : List α) {s : State} (h : P s) :
    P (runMembersDetailed members number f s).1 := by
  unfold runMembersDetailed
  generalize ([] : List Byte) = bytes
  induction members generalizing s bytes with
  | nil => exact h
  | cons m rest ih => exact ih (hf m s h) _

theorem ReadsOnly.onAxes {r : Region} {P : State → Prop} {s : State} (hP : ReadsOnly r P)
    (hr : [Region.reply].contains r = false) {f : AxisNo → State → State × MemberResult}
    (hf : ∀ k u, P u → P (f k u).1) (h : P s) (axes : AxisSet) : P (s.onAxes axes f) :=
  hP.answer hr (runMembersDetailed_induct hf _ h) _

theorem ReadsOnly.onCameras {r : Region} {P : State → Prop} {s : State} (hP : ReadsOnly r P)
    (hr : [Region.reply].contains r = false) {f : CameraNo → State → State × MemberResult}
    (hf : ∀ k u, P u → P (f k u).1) (h : P s) (cameras : CameraSet) : P (s.onCameras cameras f) :=
  hP.answer hr (runMembersDetailed_induct hf _ h) _

theorem afterGrant_induct {P : State → Prop} {s : State} {check : Option Reason} {f : State → State × MemberResult}
    (h : P s) (hf : P (f s).1) : P (afterGrant check s f).1 := by
  cases check with
  | some _ => exact h
  | none => exact hf

theorem foldl_induct {α : Type} {P : State → Prop} {f : State → α → State} (hf : ∀ u x, P u → P (f u x)) (l : List α)
    {s : State} (h : P s) : P (l.foldl f s) := by
  induction l generalizing s with
  | nil => exact h
  | cons x l ih => exact ih (hf s x h)

/-- A property holds after a command's outcome when it held before. -/
def Maintains (P : State → Prop) (s : State) (r : Result) : Prop := P s → ∀ t, r = .next t → P t

section

variable {r : Region} {P : State → Prop} {c : Instr} {s : State} {f : State → State}

theorem ReadsOnly.maintains_taken (hP : ReadsOnly r P) (hf : P (s.received c) → P (f (s.received c))) :
    Maintains P s (taken c s f) := fun h _ ht => taken_induct ht h (hf (hP.received h c))

theorem ReadsOnly.maintains_onSwitchLink (hP : ReadsOnly r P) (hf : P (s.received c) → P (f (s.received c))) :
    Maintains P s (takenOnSwitchLink c s f) := by
  intro h t ht
  by_cases hheld : s.phase = .held
  · rw [takenOnSwitchLink_held hheld, Host.Outcome.next.injEq] at ht
    exact ht ▸ h
  · rw [takenOnSwitchLink_awake hheld, Host.Outcome.next.injEq] at ht
    exact ht ▸ hf (hP.received h c)

end

/-! ## Axes with the valve closed but in a test -/

/-- The valve of an axis is low, or a valve test runs on it. -/
def shut (a : Axis) : Prop := a.valve = true → a.valveTestEnd.isSome = true

/-- The valve of an axis is low but in FILLING and in a valve test. -/
def shutOutOfFilling (a : Axis) : Prop := a.valve = true → a.motion = .filling ∨ a.valveTestEnd.isSome = true

theorem shut.outOfFilling {a : Axis} (h : shut a) : shutOutOfFilling a := fun hv => .inr (h hv)

theorem shutOutOfFilling.shut {a : Axis} (h : shutOutOfFilling a) (hm : a.motion ≠ .filling) : shut a := fun hv =>
  (h hv).resolve_left hm

theorem shut_of_low {a : Axis} (h : a.valve = false) : shut a := fun hv => absurd hv (by simp [h])

theorem shut_of_eq {a b : Axis} (h : shut a) (hb : (b.valve, b.valveTestEnd) = (a.valve, a.valveTestEnd)) : shut b := by
  simp only [Prod.mk.injEq] at hb
  simpa only [Invariants.shut, hb.1, hb.2] using h

theorem settleRetire_valve (a : Axis) :
    (a.settleRetire.valve, a.settleRetire.valveTestEnd, a.settleRetire.motion) = (a.valve, a.valveTestEnd, a.motion) := by
  unfold Axis.settleRetire
  split <;> rfl

theorem disarmed_valve (a : Axis) :
    (a.disarmed.valve, a.disarmed.valveTestEnd) = (a.valve, a.valveTestEnd)
      ∧ (a.disarmed.motion = a.motion ∨ a.motion ≠ .filling) := by
  unfold Axis.disarmed
  split
  · rename_i h
    exact ⟨rfl, .inr (by simp [h.2.1])⟩
  · exact ⟨rfl, .inl rfl⟩

/-- Every axis follows R46, and the valve of one is closed but in a test. -/
def shutAt (k : AxisNo) (s : State) : Prop := valveFollowsMotion s ∧ shut (s.axis k)

section

variable {s t : State} {k : AxisNo}

theorem valves_readsFmu : ReadsOnly .fmu valveFollowsMotion where
  of_agree := fun {s t} (hfmu : t.fmu = s.fmu) h => by
    unfold valveFollowsMotion State.axis
    rw [hfmu]
    exact h

theorem shutAt_readsFmu (k : AxisNo) : ReadsOnly .fmu (shutAt k) where
  of_agree := fun {s t} (hfmu : t.fmu = s.fmu) h => by
    refine ⟨valves_readsFmu.of_agree hfmu h.1, ?_⟩
    unfold State.axis
    rw [hfmu]
    exact h.2

theorem valves_setAxis (h : valveFollowsMotion s) {a : Axis} (ha : shutOutOfFilling a) :
    valveFollowsMotion (s.setAxis k a) := by
  intro j
  by_cases hj : j = k
  · rw [hj, setAxis_axis_self]
    exact ha
  · rw [setAxis_axis_ne hj]
    exact h j

theorem shutAt_setAxis (h : valveFollowsMotion s) {a : Axis} (ha : shut a) : shutAt k (s.setAxis k a) :=
  ⟨valves_setAxis h ha.outOfFilling, by rwa [setAxis_axis_self]⟩

/-- A write of an axis that leaves its valve, its test and its motion alone. -/
theorem valves_rewrite (h : valveFollowsMotion s) {a : Axis}
    (ha : (a.valve, a.valveTestEnd, a.motion) = ((s.axis k).valve, (s.axis k).valveTestEnd, (s.axis k).motion)) :
    valveFollowsMotion (s.setAxis k a) := by
  simp only [Prod.mk.injEq] at ha
  obtain ⟨hvalve, htest, hmotion⟩ := ha
  refine valves_setAxis h ?_
  rw [shutOutOfFilling, hvalve, htest, hmotion]
  exact h k

/-- A write of a shut axis that leaves its valve and its test alone, whatever its motion becomes. -/
theorem shutAt_rewrite (h : shutAt k s) {a : Axis}
    (ha : (a.valve, a.valveTestEnd) = ((s.axis k).valve, (s.axis k).valveTestEnd)) : shutAt k (s.setAxis k a) :=
  shutAt_setAxis h.1 (shut_of_eq h.2 ha)

theorem shutAt_close (h : valveFollowsMotion s) {a : Axis} (ha : a.valve = false) : shutAt k (s.setAxis k a) :=
  shutAt_setAxis h (shut_of_low ha)

theorem shutAt_of_motion (h : valveFollowsMotion s) (hm : (s.axis k).motion ≠ .filling) : shutAt k s :=
  ⟨h, shutOutOfFilling.shut (h k) hm⟩

/-! ## The valves through the operations of an axis -/

theorem reportRest_reads {P : State → Prop} (hP : ReadsOnly .fmu P) (h : P s) (k : AxisNo) : P (s.reportRest k) :=
  hP.of_keeps ((Keeps.refl [] s).reportRest k) rfl h

theorem valves_notifyRest (h : valveFollowsMotion s) (k : AxisNo) (c : EndCause) :
    valveFollowsMotion (s.notifyRest k c) :=
  ite_induct (fun _ => valves_readsFmu.post (valves_rewrite h (by rfl)) _) fun _ => h

theorem valves_dropFill (h : valveFollowsMotion s) (k : AxisNo) : valveFollowsMotion (s.dropFill k) :=
  valves_readsFmu.sendAll (valves_rewrite h (settleRetire_valve { s.axis k with
    assignments := [], held := none, fill := none, dwellEnd := none })) _

theorem dropFill_axis (s : State) (k : AxisNo) :
    (s.dropFill k).axis k
      = { s.axis k with assignments := [], held := none, fill := none, dwellEnd := none }.settleRetire := by
  simp [State.dropFill]

theorem shut_settleRetire {a : Axis} (h : shut a) : shut a.settleRetire := by
  unfold Axis.settleRetire
  split <;> exact h

theorem shutAt_dropFill (h : shutAt k s) : shutAt k (s.dropFill k) := by
  refine ⟨valves_dropFill h.1 k, ?_⟩
  rw [dropFill_axis]
  exact shut_settleRetire (shut_of_eq h.2 rfl)

theorem valves_haltAxis (h : valveFollowsMotion s) (k : AxisNo) (c : HaltCause) : valveFollowsMotion (s.haltAxis k c) := by
  refine ite_induct (fun _ => h) fun _ => valves_readsFmu.reportSource (valves_readsFmu.post ?_ _) _ _ _
  have hclosed : valveFollowsMotion (((s.dropFill k).setAxis k { ((s.dropFill k).axis k).atRest with
      motion := .halted, position := none, haltCause := some c, valve := false, valveTestEnd := none
      notify := false }).send (.acuReport (.halt k c (s.axis k).motion))) :=
    valves_readsFmu.send (shutAt_close (valves_dropFill h k) (by rfl)).1 _
  exact ite_induct (fun _ => reportRest_reads valves_readsFmu hclosed _) fun _ => hclosed

theorem valves_beginMove (h : valveFollowsMotion s) (k : AxisNo) (down : Bool) (count : Option Nat) (p : Profile)
    (flat : Bool) : valveFollowsMotion (s.beginMove k down count p flat) :=
  have h1 : valveFollowsMotion (s.setAxis k ((s.axis k).startMove down count p flat)) := valves_rewrite h (by rfl)
  ite_induct (fun _ => valves_haltAxis h1 k _) fun _ => h1

theorem valves_beginSlowing (h : valveFollowsMotion s) (k : AxisNo) : valveFollowsMotion (s.beginSlowing k) :=
  ite_induct (fun _ => valves_haltAxis (valves_rewrite h (by rfl)) k _) fun _ => valves_rewrite h (by rfl)

theorem valves_comeToRest (h : shutAt k s) (m : Motion) (c : EndCause) : valveFollowsMotion (s.comeToRest k m c) :=
  valves_notifyRest (reportRest_reads valves_readsFmu (shutAt_rewrite h (by rfl)).1 k) k c

theorem valves_stopSlowly (h : shutAt k s) : valveFollowsMotion (s.stopSlowly k) :=
  ite_induct (fun _ => valves_comeToRest h _ _) fun _ => valves_beginSlowing (shutAt_rewrite h (by rfl)).1 k

theorem valves_stopAtOnce (h : shutAt k s) : valveFollowsMotion (s.stopAtOnce k) :=
  valves_comeToRest (shutAt_rewrite h (by rfl)) _ _

theorem valves_endValveTest (h : valveFollowsMotion s) (k : AxisNo) : valveFollowsMotion (s.endValveTest k) := by
  unfold State.endValveTest
  dsimp only
  split
  · exact (shutAt_close h (by rfl)).1
  · exact h

theorem shut_removeAssignment {a : Axis} (h : shut a) (serial : Nat) : shut (a.removeAssignment serial) :=
  shut_settleRetire (shut_of_eq h rfl)

theorem valves_completeRaise (h : shutAt k s) : valveFollowsMotion (s.completeRaise k) := by
  unfold State.completeRaise
  dsimp only
  split
  · exact (shutAt_rewrite h (by rfl)).1
  · rename_i f _
    have hfill : shut (if f.closing = true then s.axis k else (s.axis k).removeAssignment f.serial) := by
      split
      · exact h.2
      · exact shut_removeAssignment h.2 _
    have hrest : shut ({ (if f.closing = true then s.axis k else (s.axis k).removeAssignment f.serial).atRest with
        fill := none
        motion := (if f.closing = true then s.axis k
          else (s.axis k).removeAssignment f.serial).freeMotion } : Axis).settleRetire :=
      shut_settleRetire (shut_of_eq hfill (by rfl))
    exact reportRest_reads valves_readsFmu (valves_readsFmu.sendAll (shutAt_setAxis h.1 hrest).1 _) k

theorem valves_beginSegment (h : valveFollowsMotion s) {phase : FillPhase} (hm : (s.axis k).motion = segmentMotion phase) :
    valveFollowsMotion (s.beginSegment k phase) := by
  unfold State.beginSegment
  dsimp only
  split
  · exact h
  · cases phase
    · exact valves_beginMove h k _ _ _ _
    · exact valves_setAxis h fun _ => .inl hm
    · exact ite_induct (fun _ => valves_completeRaise (shutAt_of_motion h (by simp [hm, segmentMotion])))
        fun _ => valves_beginMove h k _ _ _ _

theorem valves_phaseEntry (h : shutAt k s) (phase : FillPhase) : valveFollowsMotion (s.phaseEntry k phase) := by
  unfold State.phaseEntry
  extract_lets base a holder s1
  have h1 : valveFollowsMotion s1 := valves_readsFmu.send (shutAt_rewrite h (by rfl)).1 _
  have hm : (s1.axis k).motion = segmentMotion phase := by simp [s1, a]
  clear_value s1 holder
  cases holder with
  | some _ => exact h1
  | none => exact valves_beginSegment h1 hm

theorem valves_consultAgain (h : valveFollowsMotion s) (k : AxisNo) : valveFollowsMotion (s.consultAgain k) := by
  unfold State.consultAgain
  dsimp only
  split
  · exact valves_rewrite h (by rfl)
  · rename_i phase hphase
    have hm : (s.axis k).motion = segmentMotion phase := by
      cases hmotion : (s.axis k).motion <;> rw [hmotion] at hphase <;> cases hphase <;> rfl
    split
    · exact valves_readsFmu.send (valves_rewrite h (by rfl)) _
    · exact valves_beginSegment (valves_rewrite h (by rfl)) (by simp [hm])

theorem valves_completeLowering (h : shutAt k s) : valveFollowsMotion (s.completeLowering k) :=
  valves_phaseEntry (reportRest_reads (shutAt_readsFmu k) (shutAt_rewrite h (by rfl)) k) _

theorem valves_closeFill (h : valveFollowsMotion s) (k : AxisNo) : valveFollowsMotion (s.closeFill k) := by
  unfold State.closeFill
  extract_lets a s1
  have h1 : valveFollowsMotion s1 := valves_readsFmu.sendAll (valves_rewrite h (by rfl)) _
  have hm : (s1.axis k).motion = a.motion := by simp [s1, a]
  split
  · rename_i hlowering
    have hshut : shutAt k s1 := shutAt_of_motion h1 (by simp [hm, hlowering])
    exact ite_induct (fun _ => ite_induct (fun _ => valves_completeLowering hshut) fun _ => valves_beginSlowing h1 k)
      fun _ => valves_phaseEntry hshut _
  · exact valves_phaseEntry (shutAt_close h1 (by rfl)) _
  · rename_i hraising
    exact ite_induct (fun _ => h1) fun _ => valves_beginSegment h1 (hm.trans hraising)
  · exact h1

theorem valves_removeAssignment (h : valveFollowsMotion s) (k : AxisNo) (serial : Nat) :
    valveFollowsMotion (s.setAxis k ((s.axis k).removeAssignment serial)) :=
  valves_rewrite h (settleRetire_valve _)

theorem valves_windowExpiry (h : valveFollowsMotion s) (k : AxisNo) (pitch : Pitch) :
    valveFollowsMotion (s.windowExpiry k pitch) := by
  unfold State.windowExpiry
  split
  · exact ite_induct (fun _ => valves_closeFill (valves_readsFmu.send (valves_removeAssignment h k _) _) k) fun _ => h
  · exact h

theorem valves_startDue (h : valveFollowsMotion s) (k : AxisNo) (pitch : Pitch) :
    valveFollowsMotion (s.startDue k pitch) := by
  unfold State.startDue
  dsimp only
  split
  · exact h
  · refine ite_induct (fun hready => ?_) fun _ => valves_readsFmu.send (valves_removeAssignment h k _) _
    have harmed : (s.axis k).motion = .armed := by simp [Axis.readyFor] at hready; exact hready.1.1.1
    have hshut : shutAt k s := shutAt_of_motion h (by simp [harmed])
    exact valves_phaseEntry ((shutAt_readsFmu k).send (shutAt_rewrite hshut (by rfl)) _) _

theorem valves_axisPitch (h : valveFollowsMotion s) (pitch : Pitch) (k : AxisNo) :
    valveFollowsMotion (s.axisPitch pitch k) := valves_startDue (valves_windowExpiry h k pitch) k pitch

theorem valves_completeMove (h : valveFollowsMotion s) (k : AxisNo) : valveFollowsMotion (s.completeMove k) := by
  unfold State.completeMove
  split
  case h_1 | h_2 => exact valves_comeToRest (shutAt_of_motion h (by simp_all)) _ _
  case h_3 => exact valves_haltAxis h k _
  case h_4 => exact valves_completeLowering (shutAt_of_motion h (by simp_all))
  case h_5 => exact valves_completeRaise (shutAt_of_motion h (by simp_all))
  case h_6 => exact h

theorem valves_findHome (h : shutAt k s) : valveFollowsMotion (s.findHome k) :=
  valves_readsFmu.post (reportRest_reads valves_readsFmu (shutAt_rewrite h (by rfl)).1 k) _

theorem valves_beginHoming (h : shutAt k s) : valveFollowsMotion (s.beginHoming k) := by
  have h1 := (shutAt_rewrite h (a := { s.axis k with motion := .homing, position := none, notify := true }) rfl).1
  unfold State.beginHoming
  dsimp only
  split
  · exact valves_beginMove (valves_readsFmu.send h1 _) k _ _ _ _
  · exact valves_beginMove h1 k _ _ _ _

theorem valves_homeMember (h : valveFollowsMotion s) (k : AxisNo) : valveFollowsMotion (homeMember k s).1 := by
  unfold homeMember
  dsimp only
  split
  · exact h
  · split
    case h_9 | h_10 | h_11 =>
      have hshut : shutAt k s := shutAt_of_motion h (by simp_all)
      split
      · exact h
      · split
        · exact valves_readsFmu.post (shutAt_rewrite hshut (by rfl)).1 _
        · exact valves_beginHoming hshut
    all_goals exact h

theorem valves_clearHaltMember (h : valveFollowsMotion s) (k : AxisNo) : valveFollowsMotion (clearHaltMember k s).1 := by
  unfold clearHaltMember
  dsimp only
  split
  · exact h
  · rename_i hhalted
    have hshut : shutAt k s := shutAt_of_motion h (by simp_all)
    split
    · exact h
    · exact valves_readsFmu.reportSource (shutAt_rewrite hshut (by rfl)).1 _ _ _

/-- An axis that is made to stand with its valve shut. -/
theorem valves_stand (h : shutAt k s) (m : Motion) : valveFollowsMotion (s.setAxis k { s.axis k with motion := m }) :=
  (shutAt_rewrite h (by rfl)).1

theorem valves_stopEffect (h : valveFollowsMotion s) (mode : StopMode) (k : AxisNo) :
    valveFollowsMotion (stopEffect mode k s).1 := by
  have hshut : (s.axis k).motion ≠ .filling → shutAt k s := shutAt_of_motion h
  unfold stopEffect
  dsimp only
  split
  case h_1 | h_2 | h_3 | h_16 => exact h
  case h_4 => exact valves_stand (hshut (by simp_all)) _
  case h_5 => exact valves_stand (shutAt_dropFill (hshut (by simp_all))) _
  case h_6 => exact valves_stand (shutAt_dropFill (shutAt_close h (by rfl))) _
  case h_7 | h_8 =>
    have hdropped := shutAt_dropFill (hshut (by simp_all))
    split
    · exact valves_stand hdropped _
    · split
      · exact valves_stand hdropped _
      · exact valves_stopSlowly hdropped
  case h_9 | h_10 =>
    have hdropped := shutAt_dropFill (hshut (by simp_all))
    split
    · exact valves_stand hdropped _
    · exact valves_stopAtOnce hdropped
  case h_11 | h_12 => exact valves_stopSlowly (hshut (by simp_all))
  case h_13 | h_14 | h_15 => exact valves_stopAtOnce (hshut (by simp_all))

theorem valves_stopMember (h : valveFollowsMotion s) (mode : StopMode) (notify : Bool) (k : AxisNo) :
    valveFollowsMotion (stopMember mode notify k s).1 :=
  have hstopped := valves_stopEffect (valves_endValveTest (valves_rewrite h (by rfl)) k) mode k
  ite_induct (fun _ => hstopped) fun _ => valves_notifyRest hstopped k _

theorem valves_toAuto (h : valveFollowsMotion s) (k : AxisNo) : valveFollowsMotion (s.setAxis k (s.axis k).toAuto) :=
  (shutAt_close h (by rfl)).1

theorem valves_dutyMember (h : valveFollowsMotion s) (duty : Duty) (k : AxisNo) :
    valveFollowsMotion (dutyMember duty k s).1 := by
  unfold dutyMember
  dsimp only
  split
  · exact h
  · exact h
  · split
    · exact valves_rewrite h (by rfl)
    · exact h
  · split
    · exact h
    · exact valves_toAuto h k

theorem valves_beginManual (h : shutAt k s) (down : Bool) (count : Option Nat) (flat : Bool) :
    valveFollowsMotion (s.beginManual k down count flat) := valves_beginMove (shutAt_rewrite h (by rfl)).1 k _ _ _ _

/-- A manual command acts on an axis whose motion is not FILLING (R42). -/
theorem manualCheck_motion {a : Axis} {unhomedAllowed : Bool} (h : manualCheck a unhomedAllowed = none) :
    a.motion ≠ .filling := by
  intro hfilling
  unfold manualCheck at h
  rw [hfilling] at h
  split at h
  · cases h
  · split at h <;> cases h

theorem valves_moveMember (h : valveFollowsMotion s) (target : Int) (k : AxisNo) :
    valveFollowsMotion (moveMember target k s).1 := by
  unfold moveMember
  dsimp only
  split
  · exact h
  · split
    · exact h
    · rename_i hcheck
      split
      · exact valves_notifyRest (valves_rewrite h (by rfl)) k _
      · exact valves_beginManual (shutAt_of_motion h (manualCheck_motion hcheck)) _ _ _

theorem valves_jogMember (h : valveFollowsMotion s) (down : Bool) (k : AxisNo) :
    valveFollowsMotion (jogMember down k s).1 := by
  unfold jogMember
  dsimp only
  split
  · exact h
  · rename_i hcheck
    have hshut : shutAt k s := shutAt_of_motion h (manualCheck_motion hcheck)
    split
    · split
      · exact h
      · exact valves_beginManual hshut _ _ _
    · exact valves_beginManual hshut _ _ _

theorem valves_valveMember (h : valveFollowsMotion s) (durationMs : Nat) (k : AxisNo) :
    valveFollowsMotion (valveMember durationMs k s).1 := by
  unfold valveMember
  dsimp only
  split
  · exact h
  · exact valves_setAxis h fun _ => .inr rfl

theorem valves_closeAxis (h : valveFollowsMotion s) (k : AxisNo) : valveFollowsMotion (s.closeAxis k) := by
  unfold State.closeAxis
  dsimp only
  split
  · exact h
  · split
    · exact valves_notifyRest (valves_endValveTest h k) k _
    · split
      case h_1 | h_2 => exact valves_stopSlowly (shutAt_of_motion h (by simp_all))
      case h_3 => exact h

theorem valves_disarmed (h : valveFollowsMotion s) {a : Axis}
    (ha : (a.valve, a.valveTestEnd, a.motion) = ((s.axis k).valve, (s.axis k).valveTestEnd, (s.axis k).motion)) :
    valveFollowsMotion (s.setAxis k a.disarmed) := by
  unfold Axis.disarmed
  simp only [Prod.mk.injEq] at ha
  split
  · rename_i hdisarm
    have hshut : shutAt k s := shutAt_of_motion h (by simp [← ha.2.2, hdisarm.2.1])
    exact (shutAt_rewrite hshut (by simp [ha.1, ha.2.1])).1
  · exact valves_rewrite h (by simp [ha])

theorem valves_settleRetire {a : Axis} (h : valveFollowsMotion (s.setAxis k a)) :
    valveFollowsMotion (s.setAxis k a.settleRetire) := by
  unfold Axis.settleRetire
  split
  · rw [← setAxis_setAxis s k a]
    exact valves_rewrite h (by simp)
  · exact h

theorem valves_departAxis (h : valveFollowsMotion s) (serial : Nat) (k : AxisNo) :
    valveFollowsMotion (s.departAxis serial k) :=
  ite_induct (fun _ => ite_induct (fun _ => valves_closeFill (valves_removeAssignment h k serial) k)
    fun _ => valves_disarmed h (settleRetire_valve _)) fun _ => h

theorem valves_clearAxis (h : valveFollowsMotion s) (k : AxisNo) : valveFollowsMotion (s.clearAxis k) := by
  unfold State.clearAxis
  extract_lets a a1
  have h1 : valveFollowsMotion (s.setAxis k a1) := valves_settleRetire (valves_disarmed h (by rfl))
  exact ite_induct (fun _ => valves_closeFill h1 k) fun _ => h1

theorem valves_of_axes (h : valveFollowsMotion s) (ht : t.fmu.axes = s.fmu.axes) : valveFollowsMotion t := by
  unfold valveFollowsMotion State.axis
  rw [ht]
  exact h

theorem settleRetire_take_valve (a : Axis) (retire : RetireState) :
    ({ a with retire := retire }.settleRetire.valve, { a with retire := retire }.settleRetire.valveTestEnd,
      { a with retire := retire }.settleRetire.motion) = (a.valve, a.valveTestEnd, a.motion) :=
  settleRetire_valve { a with retire := retire }

/-! ## The valves through every command -/

theorem valves_assignmentArbiter (serial : Nat) (recipe : RecipeNo) (p : Pitch) (s : State) :
    Maintains valveFollowsMotion s (execAssignmentArbiter serial recipe p s) := by
  refine valves_readsFmu.maintains_taken fun h => ?_
  generalize s.received _ = s at h ⊢
  split
  · rename_i k heligible
    refine valves_readsFmu.send ?_ _
    by_cases hidle : (s.axis k).motion = .idle
    · exact valves_of_axes (shutAt_rewrite (shutAt_of_motion h (by simp [hidle])) (by rfl)).1 rfl
    · refine valves_of_axes (valves_rewrite h (k := k) (a := (s.axis k).take serial recipe _) ?_) rfl
      unfold Axis.take
      rw [if_neg hidle]
  · exact valves_readsFmu.send h _

theorem valves_dwellExpiry (k : AxisNo) (s : State) : Maintains valveFollowsMotion s (execDwellExpiry k s) := by
  refine valves_readsFmu.maintains_taken fun h => ?_
  split
  · exact ite_induct (fun _ => valves_phaseEntry (shutAt_close h (by rfl)) _) fun _ => h
  · exact h

theorem valves_valveTestExpiry (k : AxisNo) (s : State) : Maintains valveFollowsMotion s (execValveTestExpiry k s) := by
  refine valves_readsFmu.maintains_taken fun h => ?_
  split
  · exact ite_induct (fun _ => valves_notifyRest (valves_readsFmu.send (valves_endValveTest h k) _) k _) fun _ => h
  · exact h

theorem valves_homeFound (k : AxisNo) (s : State) : Maintains valveFollowsMotion s (execHomeFound k s) := by
  refine valves_readsFmu.maintains_taken fun h => ?_
  generalize s.received _ = s at h ⊢
  have h1 : valveFollowsMotion (s.setInputs { s.inputs with home := withMember s.inputs.home k }) :=
    valves_readsFmu.of_keeps ((Keeps.refl [] _).setInputs _) rfl h
  exact ite_induct (fun hhoming => valves_findHome (shutAt_of_motion h1 fun hfilling =>
    absurd (hhoming.symm.trans hfilling) (by decide))) fun _ => h1

theorem valves_limitActive (k : AxisNo) (s : State) : Maintains valveFollowsMotion s (execLimitActive k s) := by
  refine valves_readsFmu.maintains_taken fun h => ?_
  generalize s.received _ = s at h ⊢
  have h1 : valveFollowsMotion (s.setInputs { s.inputs with limit := withMember s.inputs.limit k }) :=
    valves_readsFmu.of_keeps ((Keeps.refl [] _).setInputs _) rfl h
  exact ite_induct (fun _ => valves_haltAxis h1 k _) fun _ => h1

theorem valves_fmuGrantCompletion (axes : AxisSet) (s : State) :
    Maintains valveFollowsMotion s (execFmuGrantCompletion axes s) := by
  refine valves_readsFmu.maintains_taken fun h => foldl_induct (P := valveFollowsMotion) (fun u k hu => ?_) _ h
  split
  · exact valves_toAuto hu k
  · exact hu

theorem firstCamera_keeps (s : State) (k : CameraNo) : Keeps [.ctu] s (s.firstCamera k) :=
  ((Keeps.refl [.ctu] s).setCamera rfl _ _ |>.setCameraState rfl _ _ _).ite ((Keeps.refl [.ctu] s).setCamera rfl _ _)

theorem valves_firstSetting (s : State) : Maintains valveFollowsMotion s (execFirstSetting s) := by
  refine valves_readsFmu.maintains_taken fun h => ite_induct (fun _ => ?_) fun _ => h
  refine foldl_induct (P := valveFollowsMotion) (fun u k hu => valves_readsFmu.of_keeps (firstCamera_keeps u k) rfl hu) _ ?_
  refine foldl_induct (P := valveFollowsMotion) (fun u k hu => valves_rewrite hu (by rfl)) _ ?_
  exact valves_readsFmu.of_keeps ((Keeps.refl [] _).recomputeBindings.setSws _ (by rfl)) rfl h

/-- Every command that writes the FMU keeps the valves closed out of FILLING and tests. -/
theorem exec_valves {c : Instr} (h : valveFollowsMotion s) (ht : exec c s = .next t) (hkeeps : Keeps (writes c) s t) :
    valveFollowsMotion t := by
  have hother (hfmu : (writes c).contains .fmu = false) : Maintains valveFollowsMotion s (exec c s) := by
    intro h u hu
    obtain rfl : t = u := Host.Outcome.next.inj (ht.symm.trans hu)
    exact valves_readsFmu.of_keeps hkeeps hfmu h
  refine (show Maintains valveFollowsMotion s (exec c s) from ?_) h t ht
  cases c
  case assignmentArbiter => exact valves_assignmentArbiter _ _ _ _
  case dwellExpiry => exact valves_dwellExpiry _ _
  case valveTestExpiry => exact valves_valveTestExpiry _ _
  case homeFound => exact valves_homeFound _ _
  case limitActive => exact valves_limitActive _ _
  case fmuGrantCompletion => exact valves_fmuGrantCompletion _ _
  case firstSetting => exact valves_firstSetting _
  case fmuPitchEvent =>
    exact show Maintains valveFollowsMotion s (execFmuPitchEvent _ _ s) from
      valves_readsFmu.maintains_taken fun h =>
        foldl_induct (P := valveFollowsMotion) (fun _ k hu => valves_axisPitch hu _ k) _ h
  case fillWindowExpiry =>
    exact show Maintains valveFollowsMotion s (execFillWindowExpiry _ _ s) from
      valves_readsFmu.maintains_taken fun h => valves_windowExpiry h _ _
  case stepPulse =>
    exact show Maintains valveFollowsMotion s (execStepPulse _ s) from
      valves_readsFmu.maintains_taken fun h => ite_induct (fun _ => valves_rewrite h (by rfl)) fun _ => h
  case moveComplete =>
    exact show Maintains valveFollowsMotion s (execMoveComplete _ s) from
      valves_readsFmu.maintains_taken fun h => ite_induct (fun _ => valves_completeMove h _) fun _ => h
  case homingTravelExhausted =>
    exact show Maintains valveFollowsMotion s (execHomingTravelExhausted _ s) from
      valves_readsFmu.maintains_taken fun h => ite_induct (fun _ => valves_haltAxis h _ _) fun _ => h
  case driveBindingChange =>
    exact show Maintains valveFollowsMotion s (execDriveBindingChange _ _ s) from
      valves_readsFmu.maintains_taken fun h =>
        ite_induct (fun _ => valves_haltAxis (valves_rewrite h (by rfl)) _ _) fun _ =>
        valves_rewrite h (by rfl)
  case fmuDeparture =>
    exact show Maintains valveFollowsMotion s (execFmuDeparture _ s) from
      valves_readsFmu.maintains_taken fun h =>
        foldl_induct (P := valveFollowsMotion) (fun _ k hu => valves_departAxis hu _ k) _ h
  case fmuLineClear =>
    exact show Maintains valveFollowsMotion s (execFmuLineClear s) from
      valves_readsFmu.maintains_taken fun h =>
        foldl_induct (P := valveFollowsMotion) (fun _ k hu => valves_clearAxis hu k) _ h
  case holdListAdd =>
    exact show Maintains valveFollowsMotion s (execHoldListAdd _ _ _ s) from
      valves_readsFmu.maintains_taken fun h => valves_rewrite h (by rfl)
  case holdListRemove =>
    exact show Maintains valveFollowsMotion s (execHoldListRemove _ _ s) from
      valves_readsFmu.maintains_taken fun h =>
        ite_induct (fun _ => valves_consultAgain (valves_rewrite h (by rfl)) _) fun _ =>
        valves_rewrite h (by rfl)
  case holdRelease =>
    exact show Maintains valveFollowsMotion s (execHoldRelease _ _ s) from
      valves_readsFmu.maintains_taken fun h =>
        ite_induct (fun _ => valves_consultAgain (valves_rewrite h (by rfl)) _) fun _ => h
  case accountAlarmEntry =>
    exact show Maintains valveFollowsMotion s (execAccountAlarmEntry _ s) from
      valves_readsFmu.maintains_taken fun h => ite_induct (fun _ => valves_rewrite h (settleRetire_valve _)) fun _ => h
  case accountAlarmExit =>
    exact show Maintains valveFollowsMotion s (execAccountAlarmExit _ s) from
      valves_readsFmu.maintains_taken fun h => valves_rewrite h (by rfl)
  case fmuGrantClosingStart =>
    exact show Maintains valveFollowsMotion s (execFmuGrantClosingStart _ _ s) from
      valves_readsFmu.maintains_taken fun h => show valveFollowsMotion (State.send _ _) from
        valves_readsFmu.send (foldl_induct (P := valveFollowsMotion) (fun _ k hu => valves_closeAxis hu k) _ h) _
  case axisHome =>
    exact show Maintains valveFollowsMotion s (execAxisHome _ s) from
      valves_readsFmu.maintains_taken fun h => valves_readsFmu.wholeSet rfl h _ _ _
        (valves_readsFmu.onAxes rfl (fun k _ hu => valves_homeMember hu k) h _)
  case clearHalt =>
    exact show Maintains valveFollowsMotion s (execClearHalt _ s) from
      valves_readsFmu.maintains_taken fun h => valves_readsFmu.wholeSet rfl h _ _ _
        (valves_readsFmu.onAxes rfl (fun k _ hu => valves_clearHaltMember hu k) h _)
  case axisStop =>
    exact show Maintains valveFollowsMotion s (execAxisStop _ _ _ s) from
      valves_readsFmu.maintains_taken fun h =>
        valves_readsFmu.require rfl h _ _ fun _ => valves_readsFmu.withLevel rfl h _
        (valves_readsFmu.requireSome rfl h _ _ fun m _ => valves_readsFmu.requireSome rfl h _ _ fun n _ =>
          valves_readsFmu.onAxes rfl (fun k _ hu => valves_stopMember hu m n k) h _)
  case axisDuty =>
    exact show Maintains valveFollowsMotion s (execAxisDuty _ _ _ s) from
      valves_readsFmu.maintains_taken fun h =>
        valves_readsFmu.require rfl h _ _ fun _ => valves_readsFmu.requireSome rfl h _ _ fun d _ =>
        valves_readsFmu.onAxes rfl (fun k _ hu => afterGrant_induct hu (valves_dutyMember hu d k)) h _
  case axisMove =>
    exact show Maintains valveFollowsMotion s (execAxisMove _ _ _ s) from
      valves_readsFmu.maintains_taken fun h => valves_readsFmu.require rfl h _ _ fun _ =>
        valves_readsFmu.onAxes rfl (fun k _ hu => afterGrant_induct hu (valves_moveMember hu _ k)) h _
  case axisJog =>
    exact show Maintains valveFollowsMotion s (execAxisJog _ _ _ s) from
      valves_readsFmu.maintains_taken fun h =>
        valves_readsFmu.require rfl h _ _ fun _ => valves_readsFmu.requireSome rfl h _ _ fun down _ =>
        valves_readsFmu.onAxes rfl (fun k _ hu => afterGrant_induct hu (valves_jogMember hu down k)) h _
  case valveTest =>
    exact show Maintains valveFollowsMotion s (execValveTest _ _ _ s) from
      valves_readsFmu.maintains_taken fun h => valves_readsFmu.require rfl h _ _ fun _ =>
        valves_readsFmu.onAxes rfl (fun k _ hu => afterGrant_induct hu (valves_valveMember hu _ k)) h _
  case recipeSelect =>
    exact show Maintains valveFollowsMotion s (execRecipeSelect _ s) from
      valves_readsFmu.maintains_taken fun h =>
        valves_readsFmu.withLevel rfl h _ (valves_readsFmu.requireSome rfl h _ _ fun n _ =>
        valves_readsFmu.answer rfl (valves_readsFmu.send (valves_of_axes h (by rfl)) _) _)
  case productTemp =>
    exact show Maintains valveFollowsMotion s (execProductTemp _ s) from
      valves_readsFmu.maintains_taken fun h =>
        valves_readsFmu.withLevel rfl h _ (valves_readsFmu.require rfl h _ _ fun _ =>
        valves_readsFmu.answer rfl (valves_readsFmu.reportSource (valves_of_axes h (by rfl)) _ _ _) _)
  case tempDeadlineExpiry =>
    exact show Maintains valveFollowsMotion s (execTempDeadlineExpiry s) from
      valves_readsFmu.maintains_taken fun h =>
        ite_induct (fun _ => valves_readsFmu.reportSource (valves_of_axes h (by rfl)) _ _ _) fun _ => h
  all_goals exact hother rfl

/-! ## The valves through a restart, a completed start and a microsecond -/

theorem valves_of_restarted (h : Restarted s t) : valveFollowsMotion t := by
  obtain ⟨clock, rfl⟩ | ⟨clock, rfl⟩ := h <;>
    exact fun k hv => absurd hv (by simp [State.beginStartUp, State.reboot, State.sendSwitch, State.transmit, State.axis,
      resetAxes])

theorem valves_of_completed (h : valveFollowsMotion s) (a b : Bool) :
    valveFollowsMotion (begun a b s).raiseAtStart := by
  have hbegun : valveFollowsMotion (begun a b s) := valves_of_axes h rfl
  have hlatched : valveFollowsMotion ((begun a b s).latchSource .restarted) :=
    valves_readsFmu.of_keeps ((Keeps.refl [.pml] _).latchSource rfl _) rfl hbegun
  exact valves_readsFmu.of_keeps (raiseAtStart_keeps _) rfl hlatched

theorem valves_of_tick (h : valveFollowsMotion s) : valveFollowsMotion (tick s) := by
  obtain ⟨u, feed, htick, -, haxes⟩ := tick_eq s
  rw [htick]
  intro k hv
  have hu : (u.axis k).valve = true → (u.axis k).motion = .filling ∨ (u.axis k).valveTestEnd.isSome = true := by
    obtain hk | hk := haxes k
    · rw [hk]
      exact h k
    · obtain ⟨hvalve, -, hmotion, htest⟩ := ramped_levels (s.axis k)
      rw [hk, hvalve, hmotion, htest]
      exact h k
  exact hu hv

theorem everyStepKeepsTheValvesClosed : EveryStepKeepsTheValvesClosed := fun _ _ =>
  step_preserves (fun _ _ h => h)
    (fun _ _ _ h ht => exec_preserves ht (exec_valves h ht) valves_of_restarted
      fun _ a b hcompleted => hcompleted ▸ valves_of_completed h a b)
    fun _ => valves_of_tick

end

end Sys2Proof.Invariants
end

section
/-!
SUPPORT. The lists of the part within their sizes, and the configuration of the forced sources.
-/

namespace Sys2Proof.Invariants

open Sys2Proof Sys2Proof.Machine Sys2Proof.Safety Sys2Proof.Claims

/-! ## The track and the reject log -/

/-- The track and the reject log are within their sizes (R7, R15). -/
def lineListsFit (s : State) : Prop := s.ltr.track.length ≤ 128 ∧ s.ltr.log.length ≤ 16

theorem lineListsFit_readsLtr : ReadsOnly .ltr lineListsFit where
  of_agree := fun {s t} (hltr : t.ltr = s.ltr) h => by rwa [lineListsFit, hltr]

section

variable {s t : State}

/-- A write of the LTR that makes neither list longer. -/
theorem lineListsFit_setLtr (h : lineListsFit s) {l : Ltr} (htrack : l.track.length ≤ s.ltr.track.length)
    (hlog : l.log.length ≤ s.ltr.log.length) : lineListsFit (s.setLtr l) := ⟨htrack.trans h.1, hlog.trans h.2⟩

theorem countLine_lists (s : State) (c : LineCounter) (n : Nat) :
    (s.countLine c n).ltr.track = s.ltr.track ∧ (s.countLine c n).ltr.log = s.ltr.log := by
  unfold State.countLine
  dsimp only
  split <;> exact ⟨rfl, rfl⟩

theorem lineListsFit_countLine (h : lineListsFit s) (c : LineCounter) (n : Nat) : lineListsFit (s.countLine c n) := by
  rwa [lineListsFit, (countLine_lists s c n).1, (countLine_lists s c n).2]

theorem lineListsFit_settleReverse (h : lineListsFit s) : lineListsFit s.settleReverse :=
  lineListsFit_readsLtr.reportSource (lineListsFit_setLtr h (by rfl) (by rfl)) _ _ _

theorem markNewestFailed_length (log : List RejectEntry) : (markNewestFailed log).length = log.length := by
  unfold markNewestFailed
  split
  · rename_i e he
    have hne : log ≠ [] := by rintro rfl; cases he
    rw [List.length_append, List.length_dropLast, List.length_singleton]
    exact Nat.sub_add_cancel (List.length_pos_iff.mpr hne)
  · rfl

theorem lineListsFit_verifyStep (h : lineListsFit s) : lineListsFit (verifyStep s) :=
  ite_induct (fun _ => lineListsFit_readsLtr.send (lineListsFit_countLine
    (lineListsFit_setLtr h (by rfl) (by simp [markNewestFailed_length])) _ _) _) fun _ => h

theorem lineListsFit_removeOldest (h : lineListsFit s) (serial : Nat) (how : Departure) (reason : Option RejectReason) :
    lineListsFit (s.removeOldest.announceDeparture serial how reason) :=
  lineListsFit_readsLtr.sendAll (lineListsFit_setLtr h (by simp) (by rfl)) _

theorem logReject_length {log : List RejectEntry} (h : log.length ≤ 16) (e : RejectEntry) :
    (logReject log e).length ≤ 16 := by
  unfold logReject
  rw [List.length_append]
  split
  · rename_i hroom
    exact Nat.succ_le_of_lt hroom
  · simp only [List.length_drop, List.length_singleton]
    omega

theorem lineListsFit_reject (h : lineListsFit s) (e : RejectEntry) (c : LineCounter) :
    lineListsFit ((s.actuateGate.recordReject e).countLine c 1) :=
  lineListsFit_countLine (s := s.actuateGate.recordReject e) ⟨h.1, logReject_length h.2 e⟩ _ _

theorem lineListsFit_gateStep (h : lineListsFit s) : lineListsFit (gateStep s) := by
  have hempty : lineListsFit s.emptyVerify := lineListsFit_setLtr h (by rfl) (by rfl)
  unfold gateStep
  split
  · exact ite_induct (fun _ => lineListsFit_removeOldest (lineListsFit_countLine hempty _ _) _ _ _)
      fun _ => lineListsFit_removeOldest (lineListsFit_reject h _ _) _ _ _
  · exact lineListsFit_removeOldest (lineListsFit_countLine hempty _ _) _ _ _
  · exact lineListsFit_reject h _ _
  · exact hempty

theorem serialForNew_room {l : Ltr} {n : Nat} (h : serialForNew l = some n) : l.track.length < 128 := by
  unfold serialForNew at h
  split at h
  · assumption
  · cases h

theorem lineListsFit_setTrackFull (h : lineListsFit s) (full : Bool) : lineListsFit (s.setTrackFull full) :=
  lineListsFit_readsLtr.reportSource (lineListsFit_setLtr h (by rfl) (by rfl)) _ _ _

theorem lineListsFit_makeRecord (h : lineListsFit s) (hroom : s.ltr.track.length < 128) (serial : Nat) :
    lineListsFit (s.makeRecord serial) := by
  unfold State.makeRecord
  extract_lets recipe b
  have hadded : lineListsFit (s.setLtr { s.ltr with track := s.ltr.track ++ [b], nextSerial := serialAfter serial }) :=
    ⟨by simpa [Nat.succ_le_iff] using hroom, h.2⟩
  exact lineListsFit_readsLtr.send (lineListsFit_readsLtr.send
    (lineListsFit_setTrackFull (lineListsFit_countLine hadded _ _) _) _) _

theorem lineListsFit_infeedStep (h : lineListsFit s) : lineListsFit (infeedStep s) := by
  unfold infeedStep
  split
  · split
    · rename_i n hn
      exact lineListsFit_makeRecord h (serialForNew_room hn) _
    · exact ite_induct (fun _ => lineListsFit_countLine h _ _)
        fun _ => lineListsFit_setTrackFull (lineListsFit_countLine h _ _) _
  · exact h

theorem lineListsFit_pitchEvent (h : lineListsFit s) : lineListsFit (pitchEvent s) :=
  lineListsFit_readsLtr.sendAll (lineListsFit_infeedStep (lineListsFit_gateStep
    (lineListsFit_verifyStep (lineListsFit_setLtr h (by rfl) (by rfl))))) _

theorem lineListsFit_setStep (h : lineListsFit s) (n : Nat) : lineListsFit (s.setStep n) :=
  lineListsFit_readsLtr.send (lineListsFit_setLtr h (by rfl) (by rfl)) _

theorem lineListsFit_forwardStep (h : lineListsFit s) : lineListsFit (forwardStep s) :=
  ite_induct (fun _ => ite_induct (fun _ => lineListsFit_pitchEvent (lineListsFit_setStep h 0))
    fun _ => lineListsFit_setStep h _)
    fun _ => lineListsFit_settleReverse (lineListsFit_setLtr h (by rfl) (by rfl))

theorem lineListsFit_backwardStep (h : lineListsFit s) : lineListsFit (backwardStep s) :=
  lineListsFit_settleReverse (lineListsFit_setLtr h (by rfl) (by rfl))

theorem lineListsFit_updateRecord (h : lineListsFit s) (serial : Nat) (f : Bottle → Bottle) :
    lineListsFit (s.updateRecord serial f) := lineListsFit_setLtr h (by simp) (by rfl)

theorem lineListsFit_applyGeometry (h : lineListsFit s) (g : Geometry) : lineListsFit (s.applyGeometry g) :=
  have hcfg : lineListsFit (s.configure { s.cfg with geometry := g }) := h
  lineListsFit_settleReverse (ite_induct (fun _ => hcfg) fun _ => lineListsFit_setStep hcfg 0)

theorem lineListsFit_clearTrack (h : lineListsFit s) : lineListsFit s.clearTrack :=
  lineListsFit_readsLtr.sendAll (lineListsFit_setLtr (lineListsFit_countLine h _ _) (by simp) (by rfl)) _

theorem toggle_lists (l : Ltr) (input : EncoderInput) :
    (l.toggle input).track = l.track ∧ (l.toggle input).log = l.log := by cases input <;> exact ⟨rfl, rfl⟩

theorem lineListsFit_toggle (h : lineListsFit s) (input : EncoderInput) :
    lineListsFit (s.setLtr (s.ltr.toggle input)) :=
  lineListsFit_setLtr h (by rw [(toggle_lists _ _).1]) (by rw [(toggle_lists _ _).2])

theorem lineListsFit_gatePulseExpiry (s : State) : Maintains lineListsFit s (execGatePulseExpiry s) := by
  refine lineListsFit_readsLtr.maintains_taken fun h => ?_
  split
  · exact ite_induct (fun _ => lineListsFit_setLtr h (by rfl) (by rfl)) fun _ => h
  · exact h

end

/-- A property of one region holds after a command that does not write it. -/
theorem ReadsOnly.maintains_unwritten {r : Region} {P : State → Prop} (hP : ReadsOnly r P) {c : Instr} {s t : State}
    (ht : exec c s = .next t) (hkeeps : Keeps (writes c) s t) (hr : (writes c).contains r = false) :
    Maintains P s (exec c s) := by
  intro h u hu
  obtain rfl : t = u := Host.Outcome.next.inj (ht.symm.trans hu)
  exact hP.of_keeps hkeeps hr h

theorem exec_lineListsFit {c : Instr} {s t : State} (h : lineListsFit s) (ht : exec c s = .next t)
    (hkeeps : Keeps (writes c) s t) : lineListsFit t := by
  have hother := lineListsFit_readsLtr.maintains_unwritten ht hkeeps
  refine (show Maintains lineListsFit s (exec c s) from ?_) h t ht
  cases c
  case gatePulseExpiry => exact lineListsFit_gatePulseExpiry _
  case stepEvent =>
    exact show Maintains lineListsFit s (execStepEvent _ s) from
      lineListsFit_readsLtr.maintains_taken fun h =>
        ite_induct (fun _ => lineListsFit_forwardStep (lineListsFit_toggle h _))
          fun _ => lineListsFit_backwardStep (lineListsFit_toggle h _)
  case encoderError =>
    exact show Maintains lineListsFit s (execEncoderError s) from
      lineListsFit_readsLtr.maintains_taken fun h =>
        lineListsFit_countLine (lineListsFit_toggle (lineListsFit_toggle h .a) .b) _ _
  case fillReport =>
    exact show Maintains lineListsFit s (execFillReport _ _ s) from
      lineListsFit_readsLtr.maintains_taken fun h => lineListsFit_updateRecord h _ _
  case verdictReport =>
    exact show Maintains lineListsFit s (execVerdictReport _ _ _ s) from
      lineListsFit_readsLtr.maintains_taken fun h => lineListsFit_updateRecord h _ _
  case watchReport =>
    exact show Maintains lineListsFit s (execWatchReport _ _ _ s) from
      lineListsFit_readsLtr.maintains_taken fun h => lineListsFit_updateRecord h _ _
  case lineGeometry =>
    exact show Maintains lineListsFit s (execLineGeometry _ _ _ _ s) from
      lineListsFit_readsLtr.maintains_taken fun h => lineListsFit_readsLtr.withLevel rfl h _
        (lineListsFit_readsLtr.requireSome rfl h _ _ fun d _ => lineListsFit_readsLtr.require rfl h _ _ fun _ =>
          lineListsFit_readsLtr.require rfl h _ _ fun _ =>
            lineListsFit_readsLtr.answer rfl (lineListsFit_applyGeometry h _) _)
  case lineClear =>
    exact show Maintains lineListsFit s (execLineClear s) from
      lineListsFit_readsLtr.maintains_taken fun h => lineListsFit_readsLtr.withLevel rfl h _
        (lineListsFit_readsLtr.require rfl h _ _ fun _ => lineListsFit_readsLtr.answer rfl (lineListsFit_clearTrack h) _)
  all_goals exact hother rfl

/-! ## The query queue -/

/-- The query queue is within its size (R96). -/
def queriesFit (s : State) : Prop := s.sws.queries.length ≤ 8

theorem queriesFit_readsQueries : ReadsOnly .queries queriesFit where
  of_agree := fun {s t} (hqueries : t.sws.queries = s.sws.queries) h => by rwa [queriesFit, hqueries]

theorem queriesFit_query (a : Address) (port : Nat) (tag : Byte) (s : State) :
    Maintains queriesFit s (execQuery a port tag s) := by
  refine queriesFit_readsQueries.maintains_onSwitchLink fun h => ?_
  generalize s.received _ = s at h ⊢
  unfold State.onPort
  split
  · rename_i p _
    refine ite_induct (fun hroom => ?_) fun _ => queriesFit_readsQueries.send
      (queriesFit_readsQueries.of_keeps ((Keeps.refl [] s).countSwitch _) rfl h) _
    simpa [queriesFit, Nat.succ_le_iff, Config.queryCapacity] using hroom
  · exact queriesFit_readsQueries.of_keeps ((Keeps.refl [] s).countSwitch _) rfl h

theorem queriesFit_answer (s : State) : Maintains queriesFit s (execAnswer s) := by
  refine queriesFit_readsQueries.maintains_taken fun h => ?_
  generalize s.received _ = s at h ⊢
  split
  · exact h
  · rename_i q rest hq
    have hrest : queriesFit (s.setSws { s.sws with queries := rest }) :=
      (Nat.le_succ _).trans (by simpa [queriesFit, hq] using h)
    exact queriesFit_readsQueries.of_keeps ((Keeps.refl [.stations] _).judgeQuery rfl q) rfl hrest

theorem exec_queriesFit {c : Instr} {s t : State} (h : queriesFit s) (ht : exec c s = .next t)
    (hkeeps : Keeps (writes c) s t) : queriesFit t := by
  have hother := queriesFit_readsQueries.maintains_unwritten ht hkeeps
  refine (show Maintains queriesFit s (exec c s) from ?_) h t ht
  cases c
  case query => exact queriesFit_query _ _ _ _
  case answer => exact queriesFit_answer _
  all_goals exact hother rfl

/-! ## The input queue -/

/-- The input queue is within its size (R185). -/
def inputsFit (s : State) : Prop := s.lnk.queue.length ≤ 4

theorem inputsFit_readsQueue : ReadsOnly .inputQueue inputsFit where
  of_agree := fun {s t} (hqueue : t.lnk.queue = s.lnk.queue) h => by rwa [inputsFit, hqueue]

theorem inputsFit_offer {s : State} (h : inputsFit s) (f : RequestFrame) : inputsFit (s.offer f) := by
  refine ite_induct (fun hroom => ?_) fun _ => h
  simpa [inputsFit, Nat.succ_le_iff, Config.inputCapacity] using hroom

theorem inputsFit_requestFrame (bytes : List Byte) (s : State) : Maintains inputsFit s (execRequestFrame bytes s) := by
  refine inputsFit_readsQueue.maintains_taken fun h => ?_
  generalize s.received _ = s at h ⊢
  split
  · exact ite_induct (P := fun u => inputsFit u.hunt) (fun _ => h) fun _ =>
      ite_induct (P := fun u => inputsFit u.hunt) (fun _ => h) fun _ => inputsFit_offer h _
  · exact h

theorem inputsFit_requestTaken (s : State) : Maintains inputsFit s (execRequestTaken s) := by
  refine inputsFit_readsQueue.maintains_taken fun h => ?_
  generalize s.received _ = s at h ⊢
  split
  · rename_i f rest hinHand hqueue
    have hrest : inputsFit (s.takeInHand f rest) := by
      rw [inputsFit, hqueue] at h
      exact (Nat.le_succ rest.length).trans h
    exact inputsFit_readsQueue.of_keeps ((Keeps.refl [.reply] _).handRequest rfl f) rfl hrest
  · exact h

theorem exec_inputsFit {c : Instr} {s t : State} (h : inputsFit s) (ht : exec c s = .next t)
    (hkeeps : Keeps (writes c) s t) : inputsFit t := by
  have hother := inputsFit_readsQueue.maintains_unwritten ht hkeeps
  refine (show Maintains inputsFit s (exec c s) from ?_) h t ht
  cases c
  case requestFrame => exact inputsFit_requestFrame _ _
  case requestTaken => exact inputsFit_requestTaken _
  all_goals exact hother rfl

/-! ## The forced sources -/

theorem forced_readsSources : ReadsOnly .sources forcedSourcesForced where
  of_agree := fun {s t} (hsources : t.cfg.sources = s.cfg.sources) h => by
    unfold forcedSourcesForced State.sourceSettings
    rw [hsources]
    exact h

theorem sourceOfNo_injective : ∀ m n : Fin 16, sourceOfNo m = sourceOfNo n → m = n := by decide

theorem forced_configureSource {s : State} (h : forcedSourcesForced s) {n : Fin 16} (hn : isForced (sourceOfNo n) = false)
    (c : SourceSettings) : forcedSourcesForced (s.configureSource n c) := by
  have hset : forcedSourcesForced (s.configure { s.cfg with sources := s.cfg.sources.set n c }) := by
    intro m hm
    have hmn : n.val ≠ m.val := fun heq => by
      rw [Fin.ext heq.symm, hn] at hm
      cases hm
    exact (Vector.getElem_set_ne n.isLt m.isLt hmn).trans (h m hm)
  exact forced_readsSources.of_keeps (((Keeps.refl [.pml] _).weigh rfl _).settlePermit rfl _ _) rfl hset

theorem forced_permitConfig (source enable mode extension : Nat) (s : State) :
    Maintains forcedSourcesForced s (execPermitConfig source enable mode extension s) :=
  forced_readsSources.maintains_taken fun h => forced_readsSources.withLevel rfl h _
    (forced_readsSources.requireSome rfl h _ _ fun n _ => forced_readsSources.requireSome rfl h _ _ fun e _ =>
      forced_readsSources.requireSome rfl h _ _ fun m _ => forced_readsSources.require rfl h _ _ fun _ =>
        forced_readsSources.require rfl h _ _ fun hn => forced_readsSources.require rfl h _ _ fun _ =>
          forced_readsSources.answer rfl (forced_configureSource h (by simpa using hn) _) _)

theorem exec_forced {c : Instr} {s t : State} (h : forcedSourcesForced s) (ht : exec c s = .next t)
    (hkeeps : Keeps (writes c) s t) : forcedSourcesForced t := by
  have hother := forced_readsSources.maintains_unwritten ht hkeeps
  refine (show Maintains forcedSourcesForced s (exec c s) from ?_) h t ht
  cases c
  case permitConfig => exact forced_permitConfig _ _ _ _ _
  all_goals exact hother rfl

theorem forceSources_forced (c : Settings) (n : Fin 16) (hn : isForced (sourceOfNo n) = true) :
    (forceSources c).sources[n] = SourceSettings.forced := by
  simp [forceSources, hn]

/-! ## The sizes and the forced sources through a step -/

/-- The lists are within their sizes, and the forced sources are as R177 has them. -/
def sizesKept (s : State) : Prop := listsFit s ∧ forcedSourcesForced s

theorem listsFit_iff (s : State) :
    listsFit s ↔ lineListsFit s ∧ queriesFit s ∧ inputsFit s ∧ s.lnk.notices.length ≤ 32 :=
  ⟨fun ⟨htrack, hlog, hqueries, hqueue, hnotices⟩ => ⟨⟨htrack, hlog⟩, hqueries, hqueue, hnotices⟩,
    fun ⟨⟨htrack, hlog⟩, hqueries, hqueue, hnotices⟩ => ⟨htrack, hlog, hqueries, hqueue, hnotices⟩⟩

section

variable {s t : State}

theorem listsFit_of_keeps {c : Instr} (h : listsFit s) (hforced : forcedSourcesForced s) (ht : exec c s = .next t)
    (hkeeps : Keeps (writes c) s t) : sizesKept t := by
  obtain ⟨hline, hqueries, hinputs, hnotices⟩ := (listsFit_iff s).mp h
  exact ⟨(listsFit_iff t).mpr ⟨exec_lineListsFit hline ht hkeeps, exec_queriesFit hqueries ht hkeeps,
    exec_inputsFit hinputs ht hkeeps, hkeeps.room hnotices⟩, exec_forced hforced ht hkeeps⟩

theorem listsFit_of_restarted (h : Restarted s t) : sizesKept t := by
  obtain ⟨clock, rfl⟩ | ⟨clock, rfl⟩ := h <;>
    exact ⟨by simp [listsFit, State.beginStartUp, State.reboot, State.sendSwitch, State.transmit],
      fun n hn => forceSources_forced _ n hn⟩

/-- What writes none of the lists but the notices keeps them within their sizes. -/
theorem listsFit_of_unwritten {ps : List Region} (hkeeps : Keeps ps s t) (hline : lineListsFit s → lineListsFit t)
    (hps : [Region.queries, .inputQueue, .sources].all (fun r => !ps.contains r) = true)
    (h : listsFit s) (hforced : forcedSourcesForced s) : sizesKept t := by
  simp only [List.all_cons, List.all_nil, Bool.and_true, Bool.and_eq_true, Bool.not_eq_true'] at hps
  obtain ⟨hq, hi, hs⟩ := hps
  obtain ⟨hl, hqueries, hinputs, hnotices⟩ := (listsFit_iff s).mp h
  exact ⟨(listsFit_iff t).mpr ⟨hline hl, queriesFit_readsQueries.of_keeps hkeeps hq hqueries,
    inputsFit_readsQueue.of_keeps hkeeps hi hinputs, hkeeps.room hnotices⟩, forced_readsSources.of_keeps hkeeps hs hforced⟩

theorem listsFit_of_completed (h : listsFit s) (hforced : forcedSourcesForced s) (a b : Bool) :
    sizesKept (begun a b s).raiseAtStart := by
  refine listsFit_of_unwritten (completed_keeps a b s) (fun hline => ?_) rfl h hforced
  have hbegun : lineListsFit (begun a b s) := hline
  exact lineListsFit_readsLtr.of_keeps (raiseAtStart_keeps _) rfl
    (lineListsFit_readsLtr.of_keeps ((Keeps.refl [.pml] _).latchSource rfl _) rfl hbegun)

theorem listsFit_of_tick (h : listsFit s) (hforced : forcedSourcesForced s) :
    sizesKept (tick s) := by
  obtain ⟨u, feed, htick, hkeeps, -⟩ := tick_eq s
  have hu : sizesKept u :=
    listsFit_of_unwritten hkeeps (lineListsFit_readsLtr.of_keeps hkeeps rfl) rfl h hforced
  exact htick ▸ hu

theorem everyStepKeepsTheQueuesWithinTheirSizes : EveryStepKeepsTheQueuesWithinTheirSizes := fun _ _ h hforced =>
  step_preserves (P := sizesKept) (Q := sizesKept) (fun _ _ h => h)
    (fun _ _ _ h ht => exec_preserves (Q := sizesKept) ht (listsFit_of_keeps h.1 h.2 ht) listsFit_of_restarted
      fun _ a b hcompleted => hcompleted ▸ listsFit_of_completed h.1 h.2 a b)
    (fun _ h => listsFit_of_tick h.1 h.2) ⟨h, hforced⟩

end

/-- Settles O59: the valves by the motion states that every command leaves, the queues by the room each command asks for. -/
theorem everyStepKeepsValvesAndQueues : Obligations.EveryStepKeepsValvesAndQueues :=
  ⟨everyStepKeepsTheValvesClosed, everyStepKeepsTheQueuesWithinTheirSizes⟩

end Sys2Proof.Invariants
end

section
/-!
SUPPORT. The bottle track in order and its counters in balance: what the LTR's operations do to the records' serials and
positions, the next serial and the counters of records.
-/

namespace Sys2Proof.Invariants

open Sys2Proof Sys2Proof.Machine Sys2Proof.Safety Sys2Proof.Claims

/-! ## The counters of records in balance (R22) -/

/-- Records made are those passed, rejected, lost and cleared, and those in the track. -/
def balanced (v : Vector Nat 11) (inTrack : Nat) : Prop := v[0] = v[1] + v[2] + v[3] + v[4] + v[5] + v[6] + inTrack

/-- The counters of the records that have left the track. -/
def countsLeaving : LineCounter → Bool
  | .passed | .rejectedFill | .rejectedCamera | .rejectedSample | .lost | .cleared => true
  | _ => false

/-- The counters that are not of records. -/
def countsOther : LineCounter → Bool
  | .untrackedAtInfeed | .untrackedAtGate | .rejectsFailed | .encoderErrors => true
  | _ => false

theorem balanced_leaving {v : Vector Nat 11} {c : LineCounter} {n inTrack : Nat} (h : balanced v (inTrack + n))
    (hc : countsLeaving c = true) : balanced (v.set (lineCounterIx c) (v[lineCounterIx c] + n)) inTrack := by
  cases c
  case passed | rejectedFill | rejectedCamera | rejectedSample | lost | cleared =>
    simp only [balanced, lineCounterIx, Fin.getElem_fin, Vector.getElem_set] at h ⊢
    simp
    omega
  all_goals cases hc

theorem balanced_made {v : Vector Nat 11} {inTrack : Nat} (h : balanced v inTrack) :
    balanced (v.set (lineCounterIx .recordsMade) (v[lineCounterIx .recordsMade] + 1)) (inTrack + 1) := by
  simp only [balanced, lineCounterIx, Fin.getElem_fin, Vector.getElem_set] at h ⊢
  simp
  omega

theorem balanced_other {v : Vector Nat 11} {c : LineCounter} {inTrack : Nat} (h : balanced v inTrack)
    (hc : countsOther c = true) (x : Nat) : balanced (v.set (lineCounterIx c) x) inTrack := by
  cases c
  case untrackedAtInfeed | untrackedAtGate | rejectsFailed | encoderErrors =>
    simpa [balanced, lineCounterIx, Vector.getElem_set] using h
  all_goals cases hc

/-- While records made is below its top, so is every counter of records that left, by the most that are in the track. -/
theorem balanced_room {v : Vector Nat 11} {c : LineCounter} {inTrack : Nat} (h : balanced v inTrack)
    (hc : countsLeaving c = true) : v[lineCounterIx c] + inTrack ≤ v[0] := by
  cases c
  case passed | rejectedFill | rejectedCamera | rejectedSample | lost | cleared =>
    simp only [balanced, lineCounterIx, Fin.getElem_fin] at h ⊢
    simp
    omega
  all_goals cases hc

/-! ## The track in order (R5, R6) -/

/-- The track in strictly rising serials below the next serial, with positions strictly falling from below one bound and not
under another, and the counters of records in balance. -/
structure LineBetween (low high : Nat) (x : Ltr) : Prop where
  order : x.track.Pairwise fun b c => b.serial < c.serial ∧ position x.pitch c < position x.pitch b
  records : ∀ b ∈ x.track, 1 ≤ b.serial ∧ b.serial ≤ 4294967295 ∧ low ≤ position x.pitch b ∧ position x.pitch b < high
  next : ∀ n, x.nextSerial = some n → 1 ≤ n ∧ n ≤ 4294967295 ∧ ∀ b ∈ x.track, b.serial < n
  balance : balanced x.counters x.track.length

theorem lineKept_iff (s : State) :
    lineKept s ↔ 3 ≤ s.cfg.geometry.gateOffset ∧ s.cfg.geometry.gateOffset ≤ 1000
      ∧ LineBetween 0 s.cfg.geometry.gateOffset s.ltr := by
  constructor
  · rintro ⟨hlow, hhigh, horder, hrecords, hnext, hbalance⟩
    exact ⟨hlow, hhigh, horder, fun b hb => ⟨(hrecords b hb).1, (hrecords b hb).2.1, Nat.zero_le _, (hrecords b hb).2.2⟩,
      hnext, hbalance⟩
  · rintro ⟨hlow, hhigh, horder, hrecords, hnext, hbalance⟩
    exact ⟨hlow, hhigh, horder, fun b hb => ⟨(hrecords b hb).1, (hrecords b hb).2.1, (hrecords b hb).2.2.2⟩, hnext, hbalance⟩

section

variable {low high : Nat} {x y : Ltr} {s t : State}

/-- A write of the LTR that leaves its track, its pitch count and its next serial alone and its counters in balance. -/
theorem LineBetween.rewrite (h : LineBetween low high x)
    (hy : (y.track, y.pitch, y.nextSerial) = (x.track, x.pitch, x.nextSerial))
    (hbalance : balanced y.counters x.track.length) : LineBetween low high y := by
  simp only [Prod.mk.injEq] at hy
  obtain ⟨htrack, hpitch, hnext⟩ := hy
  refine ⟨?_, ?_, ?_, ?_⟩
  · simpa only [htrack, hpitch] using h.order
  · simpa only [htrack, hpitch] using h.records
  · simpa only [htrack, hnext] using h.next
  · rwa [htrack]

/-- A write of the LTR that touches neither the track nor what it is judged by. -/
theorem LineBetween.keep (h : LineBetween low high x)
    (hy : (y.track, y.pitch, y.nextSerial, y.counters) = (x.track, x.pitch, x.nextSerial, x.counters)) :
    LineBetween low high y := by
  simp only [Prod.mk.injEq] at hy
  obtain ⟨htrack, hpitch, hnext, hcounters⟩ := hy
  exact h.rewrite (by rw [htrack, hpitch, hnext]) (hcounters ▸ h.balance)

theorem countLine_ltr (s : State) (c : LineCounter) (n : Nat) :
    ∃ v, (s.countLine c n).ltr = { s.ltr with counters := s.ltr.counters.set (lineCounterIx c) v } := by
  unfold State.countLine
  dsimp only
  split
  · exact ⟨_, rfl⟩
  · exact ⟨_, rfl⟩

theorem LineBetween.countOther (h : LineBetween low high s.ltr) {c : LineCounter} (hc : countsOther c = true) (n : Nat) :
    LineBetween low high (s.countLine c n).ltr := by
  obtain ⟨v, hv⟩ := countLine_ltr s c n
  rw [hv]
  exact h.rewrite rfl (balanced_other h.balance hc v)

/-- The counter of records made is below its top (R22). -/
def roomToCount (x : Ltr) : Prop := x.counters[0] < 18446744073709551615

theorem countLine_leaving (hroom : roomToCount s.ltr) {c : LineCounter} {n : Nat} (hc : countsLeaving c = true)
    (h : balanced s.ltr.counters s.ltr.track.length) (hn : n ≤ s.ltr.track.length) :
    (s.countLine c n).ltr = { s.ltr with
      counters := s.ltr.counters.set (lineCounterIx c) (s.ltr.counters[lineCounterIx c] + n) } := by
  have hmost := balanced_room h hc
  rw [countLine_below (by unfold roomToCount at hroom; unfold Config.top64; omega)]

/-- The oldest record leaves the track, and its counter takes it (R12, R22). -/
theorem LineBetween.leave (h : LineBetween low (high + 1) s.ltr) (hroom : roomToCount s.ltr) {b : Bottle} {rest : List Bottle}
    (htrack : s.ltr.track = b :: rest) (hb : position s.ltr.pitch b = high) {c : LineCounter} (hc : countsLeaving c = true) :
    LineBetween low high (s.countLine c 1).removeOldest.ltr := by
  have horder := h.order
  have hrecords := h.records
  have hbalance := h.balance
  rw [htrack] at horder hrecords hbalance
  obtain ⟨hfirst, horder⟩ := List.pairwise_cons.mp horder
  have hltr : (s.countLine c 1).removeOldest.ltr = { s.ltr with
      track := rest, counters := s.ltr.counters.set (lineCounterIx c) (s.ltr.counters[lineCounterIx c] + 1) } := by
    show { (s.countLine c 1).ltr with track := (s.countLine c 1).ltr.track.drop 1 } = _
    rw [countLine_leaving hroom hc h.balance (by simp [htrack]), htrack]
    rfl
  rw [hltr]
  refine ⟨horder, fun d hd => ?_, fun n hn => ?_, balanced_leaving hbalance hc⟩
  · obtain ⟨hlow, hhigh, hposition, -⟩ := hrecords d (List.mem_cons_of_mem b hd)
    exact ⟨hlow, hhigh, hposition, hb ▸ (hfirst d hd).2⟩
  · obtain ⟨hlow, hhigh, hbelow⟩ := h.next n hn
    exact ⟨hlow, hhigh, fun d hd => hbelow d (htrack ▸ List.mem_cons_of_mem b hd)⟩

/-- No record is at the gate, so every position is before it. -/
theorem LineBetween.before_gate (h : LineBetween low (high + 1) x)
    (hfirst : ∀ b rest, x.track = b :: rest → position x.pitch b ≠ high) : LineBetween low high x := by
  refine ⟨h.order, fun d hd => ?_, h.next, h.balance⟩
  obtain ⟨hlow, hhigh, hposition, hbelow⟩ := h.records d hd
  refine ⟨hlow, hhigh, hposition, ?_⟩
  cases htrack : x.track with
  | nil => rw [htrack] at hd; cases hd
  | cons b rest =>
    have hb : position x.pitch b ≠ high := hfirst b rest htrack
    have hbhigh : position x.pitch b < high + 1 := (h.records b (by simp [htrack])).2.2.2
    rcases List.mem_cons.mp (htrack ▸ hd) with rfl | hrest
    · omega
    · have := (List.pairwise_cons.mp (htrack ▸ h.order)).1 d hrest
      omega

theorem primaryReason_counter (b : Bottle) : countsLeaving (rejectedCounter (primaryReason b)) = true := by
  unfold primaryReason
  split
  · rfl
  · split <;> rfl

theorem recordAtGate_some {s : State} {b : Bottle} (h : recordAtGate s = some b) :
    ∃ rest, s.ltr.track = b :: rest ∧ position s.ltr.pitch b = s.cfg.geometry.gateOffset := by
  unfold recordAtGate at h
  split at h
  · cases h
  · rename_i c rest htrack
    split at h
    · rename_i hposition
      cases h
      exact ⟨rest, htrack, hposition⟩
    · cases h

theorem recordAtGate_none {s : State} (h : recordAtGate s = none) {b : Bottle} {rest : List Bottle}
    (htrack : s.ltr.track = b :: rest) : position s.ltr.pitch b ≠ s.cfg.geometry.gateOffset := by
  unfold recordAtGate at h
  rw [htrack] at h
  dsimp only at h
  split at h
  · cases h
  · assumption

/-- After the gate step every record is before the gate. -/
theorem LineBetween.gateStep (h : LineBetween low (s.cfg.geometry.gateOffset + 1) s.ltr) (hroom : roomToCount s.ltr) :
    LineBetween low s.cfg.geometry.gateOffset (gateStep s).ltr := by
  unfold Machine.gateStep
  split
  · rename_i b hb _
    obtain ⟨rest, htrack, hposition⟩ := recordAtGate_some hb
    split
    · exact LineBetween.leave (s := s.emptyVerify) (h.keep rfl) hroom htrack hposition rfl
    · exact LineBetween.leave (s := s.actuateGate.recordReject _) (h.keep rfl) hroom htrack hposition
        (primaryReason_counter b)
  · rename_i b hb _
    obtain ⟨rest, htrack, hposition⟩ := recordAtGate_some hb
    exact LineBetween.leave (s := s.emptyVerify) (h.keep rfl) hroom htrack hposition rfl
  · rename_i hnone _
    exact LineBetween.countOther (s := s.actuateGate.recordReject _)
      ((h.before_gate fun _ _ => recordAtGate_none hnone).keep rfl) rfl 1
  · rename_i hnone _
    exact (h.before_gate fun _ _ => recordAtGate_none hnone).keep rfl

theorem LineBetween.verifyStep (h : LineBetween low high s.ltr) : LineBetween low high (verifyStep s).ltr := by
  unfold Machine.verifyStep
  split
  · exact LineBetween.countOther (s := s.setLtr _) (c := .rejectsFailed) (h.keep (by rfl)) rfl 1
  · exact h

theorem position_succ {p : Pitch} {b : Bottle} (h : position p b < 1000) : position (p + 1) b = position p b + 1 := by
  unfold position at h ⊢
  bv_omega

theorem LineBetween.advancePitch (h : LineBetween 0 high s.ltr) (hhigh : high ≤ 1000) :
    LineBetween 1 (high + 1) s.advancePitch.ltr := by
  have hmoved : ∀ b ∈ s.ltr.track, position (s.ltr.pitch + 1) b = position s.ltr.pitch b + 1 := fun b hb =>
    position_succ ((h.records b hb).2.2.2.trans_le hhigh)
  refine ⟨?_, fun b hb => ?_, h.next, h.balance⟩
  · refine h.order.imp_of_mem fun {b c} hb hc hbc => ⟨hbc.1, ?_⟩
    show position (s.ltr.pitch + 1) c < position (s.ltr.pitch + 1) b
    rw [hmoved b hb, hmoved c hc]
    exact Nat.succ_lt_succ hbc.2
  · obtain ⟨hlow, hserial, -, hposition⟩ := h.records b hb
    show _ ∧ _ ∧ 1 ≤ position (s.ltr.pitch + 1) b ∧ position (s.ltr.pitch + 1) b < high + 1
    rw [hmoved b hb]
    exact ⟨hlow, hserial, Nat.succ_pos _, Nat.succ_lt_succ hposition⟩

theorem countLine_made {c : LineCounter} (hc : c ≠ .recordsMade) (s : State) (n : Nat) :
    (s.countLine c n).ltr.counters[0] = s.ltr.counters[0] := by
  obtain ⟨v, hv⟩ := countLine_ltr s c n
  rw [hv]
  cases c
  case recordsMade => exact absurd rfl hc
  all_goals simp [lineCounterIx]

theorem verifyStep_made (s : State) : (verifyStep s).ltr.counters[0] = s.ltr.counters[0] := by
  unfold verifyStep
  split
  · exact countLine_made (by decide) (s.setLtr _) 1
  · rfl

theorem gateStep_made (s : State) : (gateStep s).ltr.counters[0] = s.ltr.counters[0] := by
  unfold gateStep
  split
  · split
    · exact countLine_made (by decide) s.emptyVerify 1
    · refine countLine_made ?_ (s.actuateGate.recordReject _) 1
      intro hmade
      have := primaryReason_counter ‹Bottle›
      rw [hmade] at this
      cases this
  · exact countLine_made (by decide) s.emptyVerify 1
  · exact countLine_made (by decide) (s.actuateGate.recordReject _) 1
  · rfl

theorem serialForNew_next {x : Ltr} {n : Nat} (h : serialForNew x = some n) :
    x.nextSerial = some n ∨ (x.track = [] ∧ n = 1) := by
  unfold serialForNew at h
  split at h
  · split at h
    · rename_i m hm
      exact .inl (hm.trans h)
    · split at h
      · rename_i hempty
        exact .inr ⟨by simpa using hempty, by simpa using h.symm⟩
      · cases h
  · cases h

/-- The serial of a new record is in its range, and above every serial in the track (R6, R7). -/
theorem LineBetween.serial_above (h : LineBetween low high x) {n : Nat} (hn : serialForNew x = some n) :
    1 ≤ n ∧ n ≤ 4294967295 ∧ ∀ b ∈ x.track, b.serial < n := by
  obtain hnext | ⟨hempty, rfl⟩ := serialForNew_next hn
  · exact h.next n hnext
  · exact ⟨le_rfl, by decide, by simp [hempty]⟩

theorem serialAfter_bounds {n next : Nat} (hn : n ≤ 4294967295) (h : serialAfter n = some next) :
    next = n + 1 ∧ next ≤ 4294967295 := by
  unfold serialAfter at h
  split at h
  · cases h
  · rename_i hlast
    unfold Config.lastSerial at hlast
    cases h
    exact ⟨rfl, by omega⟩

theorem makeRecord_ltr (s : State) (serial : Nat) (hroom : roomToCount s.ltr) :
    (s.makeRecord serial).ltr = { s.ltr with
      track := s.ltr.track ++ [fresh s serial], nextSerial := serialAfter serial, trackFull := false
      counters := s.ltr.counters.set (lineCounterIx .recordsMade) (s.ltr.counters[lineCounterIx .recordsMade] + 1) } := by
  unfold State.makeRecord
  dsimp only
  rw [countLine_below hroom]
  simp [State.setTrackFull, fresh, newVerdicts]

/-- A record made at the infeed joins the newest end at position 0, with the serials and positions still in order (R7). -/
theorem LineBetween.makeRecord (h : LineBetween 1 high s.ltr) (hhigh : 0 < high) (hroom : roomToCount s.ltr) {n : Nat}
    (hn : serialForNew s.ltr = some n) : LineBetween 0 high (s.makeRecord n).ltr := by
  obtain ⟨hlow, hlast, habove⟩ := h.serial_above hn
  have hb : position s.ltr.pitch (fresh s n) = 0 := by simp [position, fresh]
  rw [makeRecord_ltr s n hroom]
  refine ⟨?_, ?_, ?_, ?_⟩
  · refine List.pairwise_append.mpr ⟨h.order, List.pairwise_singleton _ _, fun d hd e he => ?_⟩
    obtain rfl := List.mem_singleton.mp he
    exact ⟨habove d hd, hb.trans_lt (h.records d hd).2.2.1⟩
  · intro d hd
    obtain hold | hnew := List.mem_append.mp hd
    · obtain ⟨hdlow, hdlast, -, hdhigh⟩ := h.records d hold
      exact ⟨hdlow, hdlast, Nat.zero_le _, hdhigh⟩
    · obtain rfl := List.mem_singleton.mp hnew
      exact ⟨hlow, hlast, Nat.zero_le _, hb.trans_lt hhigh⟩
  · intro next hnext
    obtain ⟨rfl, hnextlast⟩ := serialAfter_bounds hlast hnext
    refine ⟨Nat.succ_pos _, hnextlast, fun d hd => ?_⟩
    obtain hold | hnew := List.mem_append.mp hd
    · exact Nat.lt_succ_of_lt (habove d hold)
    · obtain rfl := List.mem_singleton.mp hnew
      exact Nat.lt_succ_self n
  · have hbalance := balanced_made h.balance
    simpa using hbalance

theorem LineBetween.low_zero (h : LineBetween low high x) : LineBetween 0 high x :=
  { h with records := fun b hb => ⟨(h.records b hb).1, (h.records b hb).2.1, Nat.zero_le _, (h.records b hb).2.2.2⟩ }

theorem LineBetween.missInfeed (h : LineBetween low high s.ltr) : LineBetween low high s.missInfeed.ltr := by
  have hcounted : LineBetween low high (s.countLine .untrackedAtInfeed 1).ltr := h.countOther rfl 1
  unfold State.missInfeed
  dsimp only
  split
  · exact hcounted
  · rw [State.setTrackFull, reportSource_ltr]
    exact hcounted.keep rfl

theorem LineBetween.infeedStep (h : LineBetween 1 high s.ltr) (hhigh : 0 < high) (hroom : roomToCount s.ltr) :
    LineBetween 0 high (infeedStep s).ltr := by
  unfold Machine.infeedStep
  split
  · split
    · exact h.makeRecord hhigh hroom ‹_›
    · exact h.low_zero.missInfeed
  · exact h.low_zero

theorem verifyStep_cfg (s : State) : (verifyStep s).cfg = s.cfg := by
  unfold verifyStep
  split
  · exact countLine_cfg _ _ _
  · rfl

/-- A pitch event moves every record by one, takes the one at the gate, and makes one at the infeed (R3). -/
theorem LineBetween.pitchEvent (h : LineBetween 0 s.cfg.geometry.gateOffset s.ltr)
    (hlow : 3 ≤ s.cfg.geometry.gateOffset) (hhigh : s.cfg.geometry.gateOffset ≤ 1000) (hroom : roomToCount s.ltr) :
    LineBetween 0 s.cfg.geometry.gateOffset (pitchEvent s).ltr := by
  have hcfg : (Machine.verifyStep s.advancePitch).cfg = s.cfg := verifyStep_cfg s.advancePitch
  have hroomGate : roomToCount (Machine.verifyStep s.advancePitch).ltr := by
    unfold roomToCount
    rw [verifyStep_made]
    exact hroom
  have hroomInfeed : roomToCount (Machine.gateStep (Machine.verifyStep s.advancePitch)).ltr := by
    unfold roomToCount
    rw [gateStep_made]
    exact hroomGate
  have hverified := (h.advancePitch hhigh).verifyStep
  rw [← hcfg] at hverified
  have hgated := hverified.gateStep hroomGate
  rw [hcfg] at hgated
  exact hgated.infeedStep (Nat.lt_of_lt_of_le (by decide) hlow) hroomInfeed

theorem LineBetween.settleReverse (h : LineBetween low high s.ltr) : LineBetween low high s.settleReverse.ltr := by
  unfold State.settleReverse
  rw [reportSource_ltr]
  exact h.keep rfl

theorem track_readsLtr (low high : Nat) : ReadsOnly .ltr fun u => LineBetween low high u.ltr where
  of_agree := fun {s t} (hltr : t.ltr = s.ltr) h => by rwa [hltr]

/-! ## The line through every command -/

theorem LineBetween.toggle (h : LineBetween low high x) (input : EncoderInput) : LineBetween low high (x.toggle input) := by
  cases input <;> exact h.keep rfl

theorem LineBetween.setStep (h : LineBetween low high s.ltr) (n : Nat) : LineBetween low high (s.setStep n).ltr :=
  h.keep (by rfl)

theorem LineBetween.forwardStep (h : LineBetween 0 s.cfg.geometry.gateOffset s.ltr)
    (hlow : 3 ≤ s.cfg.geometry.gateOffset) (hhigh : s.cfg.geometry.gateOffset ≤ 1000) (hroom : roomToCount s.ltr) :
    LineBetween 0 s.cfg.geometry.gateOffset (forwardStep s).ltr := by
  unfold Machine.forwardStep
  split
  · split
    · exact LineBetween.pitchEvent (s := s.setStep 0) (h.setStep 0) hlow hhigh hroom
    · exact h.setStep _
  · exact LineBetween.settleReverse (s := s.setLtr _) (h.keep (by rfl))

theorem LineBetween.backwardStep (h : LineBetween low high s.ltr) : LineBetween low high (backwardStep s).ltr :=
  LineBetween.settleReverse (s := s.setLtr _) (h.keep (by rfl))

theorem LineBetween.stepEvent (h : LineBetween 0 s.cfg.geometry.gateOffset s.ltr)
    (hlow : 3 ≤ s.cfg.geometry.gateOffset) (hhigh : s.cfg.geometry.gateOffset ≤ 1000) (hroom : roomToCount s.ltr)
    {input : EncoderInput} (ht : exec (.stepEvent input) s = .next t) : LineBetween 0 s.cfg.geometry.gateOffset t.ltr := by
  refine taken_induct (P := fun u => LineBetween 0 s.cfg.geometry.gateOffset u.ltr)
    (show execStepEvent input s = .next t from ht) h ?_
  have htoggled : LineBetween 0 s.cfg.geometry.gateOffset (s.ltr.toggle input) := h.toggle input
  have hroomToggled : roomToCount (s.ltr.toggle input) := by
    cases input <;> exact hroom
  dsimp only
  split
  · exact LineBetween.forwardStep (s := (s.received (.stepEvent input)).setLtr (s.ltr.toggle input)) htoggled hlow hhigh
      hroomToggled
  · exact LineBetween.backwardStep (s := (s.received (.stepEvent input)).setLtr (s.ltr.toggle input)) htoggled

/-- A change of records that leaves their serials and infeed pitches alone. -/
theorem LineBetween.updateRecord (h : LineBetween low high s.ltr) (serial : Nat) {f : Bottle → Bottle}
    (hf : ∀ b, (f b).serial = b.serial ∧ (f b).infeedPitch = b.infeedPitch) :
    LineBetween low high (s.updateRecord serial f).ltr := by
  have hsame : ∀ b : Bottle, (if b.serial = serial then f b else b).serial = b.serial
      ∧ (if b.serial = serial then f b else b).infeedPitch = b.infeedPitch := by
    intro b
    split
    · exact hf b
    · exact ⟨rfl, rfl⟩
  have hposition : ∀ p (b : Bottle), position p (if b.serial = serial then f b else b) = position p b := fun p b => by
    rw [position, (hsame b).2, position]
  refine ⟨?_, ?_, fun n hn => ?_, ?_⟩
  · refine List.pairwise_map.mpr (h.order.imp fun {b c} hbc => ?_)
    show _ ∧ position s.ltr.pitch _ < position s.ltr.pitch _
    rwa [(hsame b).1, (hsame c).1, hposition, hposition]
  · intro d hd
    obtain ⟨b, hb, rfl⟩ := List.mem_map.mp hd
    show _ ∧ _ ∧ _ ≤ position s.ltr.pitch _ ∧ position s.ltr.pitch _ < _
    rw [(hsame b).1, hposition]
    exact h.records b hb
  · obtain ⟨hlow, hhigh, habove⟩ := h.next n hn
    refine ⟨hlow, hhigh, fun d hd => ?_⟩
    obtain ⟨b, hb, rfl⟩ := List.mem_map.mp hd
    rw [(hsame b).1]
    exact habove b hb
  · simpa [State.updateRecord] using h.balance

theorem applyFillItem_same (item : FillItem) (b : Bottle) :
    (applyFillItem item b).serial = b.serial ∧ (applyFillItem item b).infeedPitch = b.infeedPitch := by
  unfold applyFillItem
  split <;> split <;> exact ⟨rfl, rfl⟩

/-- With the track emptied and its records counted as cleared, the line is in order (R21). -/
theorem LineBetween.clearTrack (h : LineBetween low high s.ltr) (hroom : roomToCount s.ltr) :
    LineBetween low high s.clearTrack.ltr := by
  have hltr : s.clearTrack.ltr = { s.ltr with
      track := []
      counters := s.ltr.counters.set (lineCounterIx .cleared)
        (s.ltr.counters[lineCounterIx .cleared] + s.ltr.track.length) } := by
    show { (s.countLine .cleared s.ltr.track.length).ltr with track := [] } = _
    rw [countLine_leaving hroom rfl h.balance le_rfl]
  rw [hltr]
  have hbalance : balanced s.ltr.counters (0 + s.ltr.track.length) := by simpa using h.balance
  exact ⟨List.Pairwise.nil, fun _ hb => absurd hb List.not_mem_nil,
    fun n hn => ⟨(h.next n hn).1, (h.next n hn).2.1, fun _ hb => absurd hb List.not_mem_nil⟩,
    balanced_leaving hbalance rfl⟩

/-- Every command but LINE_GEOMETRY keeps the line in order for the gate offset there is. -/
theorem exec_line {c : Instr} (h : LineBetween 0 s.cfg.geometry.gateOffset s.ltr) (hlow : 3 ≤ s.cfg.geometry.gateOffset)
    (hhigh : s.cfg.geometry.gateOffset ≤ 1000) (hroom : roomToCount s.ltr) (ht : exec c s = .next t)
    (hkeeps : Keeps (writes c) s t) (hc : (writes c).contains .geometry = false) :
    LineBetween 0 s.cfg.geometry.gateOffset t.ltr := by
  have hline := track_readsLtr 0 s.cfg.geometry.gateOffset
  have hother := hline.maintains_unwritten ht hkeeps
  by_cases hstep : ∃ input, c = .stepEvent input
  · obtain ⟨input, rfl⟩ := hstep
    exact h.stepEvent hlow hhigh hroom ht
  by_cases hclear : c = .lineClear
  · subst hclear
    refine taken_induct (P := fun u => LineBetween 0 s.cfg.geometry.gateOffset u.ltr)
      (show execLineClear s = .next t from ht) h ?_
    have h1 : LineBetween 0 s.cfg.geometry.gateOffset (s.received .lineClear).ltr := h
    exact hline.withLevel rfl h1 _ (hline.require rfl h1 _ _ fun _ => hline.answer rfl (h1.clearTrack hroom) _)
  refine (show Maintains (fun u => LineBetween 0 s.cfg.geometry.gateOffset u.ltr) s (exec c s) from ?_) h t ht
  cases c
  case stepEvent input => exact absurd ⟨input, rfl⟩ hstep
  case lineClear => exact absurd rfl hclear
  case lineGeometry => cases hc
  case encoderError =>
    exact show Maintains _ s (execEncoderError s) from
      hline.maintains_taken fun h => LineBetween.countOther (s := State.setLtr _ _) ((h.toggle .a).toggle .b) rfl 1
  case gatePulseExpiry =>
    refine show Maintains _ s (execGatePulseExpiry s) from hline.maintains_taken fun h => ?_
    split
    · split
      · exact LineBetween.keep h rfl
      · exact h
    · exact h
  case fillReport serial item =>
    exact show Maintains _ s (execFillReport serial item s) from
      hline.maintains_taken fun h => LineBetween.updateRecord h serial (applyFillItem_same item)
  case verdictReport serial k v =>
    exact show Maintains _ s (execVerdictReport serial k v s) from
      hline.maintains_taken fun h => LineBetween.updateRecord h serial fun _ => ⟨rfl, rfl⟩
  case watchReport serial w sample =>
    exact show Maintains _ s (execWatchReport serial w sample s) from
      hline.maintains_taken fun h => LineBetween.updateRecord h serial fun _ => ⟨rfl, rfl⟩
  all_goals exact hother rfl

theorem lineKept_of_eq (h : lineKept s) (hltr : t.ltr = s.ltr) (hgeometry : t.cfg.geometry = s.cfg.geometry) : lineKept t := by
  rw [lineKept_iff, hltr, hgeometry]
  exact (lineKept_iff s).mp h

/-- A track without records is in order for any gate offset. -/
theorem LineBetween.of_empty (h : LineBetween low high x) (hempty : x.track = []) (high' : Nat) : LineBetween low high' x :=
  ⟨h.order, fun _ hb => absurd (hempty ▸ hb) List.not_mem_nil, h.next, h.balance⟩

theorem lineKept_lineGeometry (h : lineKept s) {l n p d : Nat} (ht : exec (.lineGeometry l n p d) s = .next t) :
    lineKept t := by
  refine taken_induct (show execLineGeometry l n p d s = .next t from ht) h ?_
  have hr : ∀ r, lineKept ((s.received (.lineGeometry l n p d)).refuse r) := fun r =>
    lineKept_of_eq h (by simp) (by simp)
  refine withLevel_induct hr (requireSome_induct hr fun dir _ => require_induct hr fun hrange =>
    require_induct hr fun hfree => ?_)
  generalize hs : s.received (.lineGeometry l n p d) = u at hrange hfree ⊢
  have hu : lineKept u := hs ▸ h
  have hempty : u.ltr.track = [] := by simpa using (Bool.and_eq_true_iff.mp hfree).1
  have hgeometry : geometryInRange l n p = true := (Bool.and_eq_true_iff.mp hrange).1
  simp only [geometryInRange, Bool.and_eq_true, decide_eq_true_eq] at hgeometry
  obtain ⟨⟨⟨⟨⟨hlow, hhigh⟩, -⟩, -⟩, -⟩, -⟩ := hgeometry
  have hline : LineBetween 0 l u.ltr := ((lineKept_iff u).mp hu).2.2.of_empty hempty l
  have hcfg : (u.applyGeometry ⟨l, n, p, dir⟩).cfg.geometry.gateOffset = l := by
    unfold State.applyGeometry State.settleReverse
    rw [reportSource_cfg]
    dsimp only
    split <;> rfl
  have hkept : lineKept (u.applyGeometry ⟨l, n, p, dir⟩) := by
    rw [lineKept_iff, hcfg]
    refine ⟨hlow, hhigh, ?_⟩
    unfold State.applyGeometry
    dsimp only
    split
    · exact LineBetween.settleReverse (s := u.configure _) hline
    · exact LineBetween.settleReverse (s := (u.configure _).setStep 0) (hline.keep rfl)
  exact lineKept_of_eq hkept (by simp) (by simp)

theorem lineKept_of_keeps {c : Instr} (h : lineKept s) (hroom : roomToCount s.ltr) (ht : exec c s = .next t)
    (hkeeps : Keeps (writes c) s t) : lineKept t := by
  cases hc : (writes c).contains .geometry with
  | false =>
    obtain ⟨hlow, hhigh, hline⟩ := (lineKept_iff s).mp h
    have hgeometry : t.cfg.geometry = s.cfg.geometry := hkeeps.agrees .geometry hc
    rw [lineKept_iff, hgeometry]
    exact ⟨hlow, hhigh, exec_line hline hlow hhigh hroom ht hkeeps hc⟩
  | true =>
    cases c
    case lineGeometry => exact lineKept_lineGeometry h ht
    all_goals cases hc

/-! ## The line through a restart, a completed start and a microsecond -/

/-- An image that a reset loads has settings in their ranges and pinned stations apart (R201). -/
theorem imageLoaded_valid (x : Sst) :
    settingsInRange (imageLoaded x).settings = true ∧ (imageLoaded x).pinned.all pinnedOk = true
      ∧ allApart (imageLoaded x).pinned = true := by
  have hvalid : ∀ {b : Bank} {n : BitVec 32} {image : Image}, validBank b = some (n, image) →
      settingsInRange image.settings = true ∧ image.pinned.all pinnedOk = true ∧ allApart image.pinned = true := by
    intro b n image h
    unfold validBank at h
    split at h
    · cases h
    · split at h
      · rename_i hchecks
        cases h
        exact ⟨hchecks.2.1, hchecks.2.2.1, hchecks.2.2.2.1⟩
      · cases h
  unfold imageLoaded
  split
  · rename_i bank image hload
    unfold bankToLoad at hload
    split at hload
    · cases hload
    · cases hload; exact hvalid ‹_›
    · cases hload; exact hvalid ‹_›
    · dsimp only at hload
      split at hload
      · cases hload; exact hvalid ‹_›
      · cases hload; exact hvalid ‹_›
  · exact ⟨by decide +kernel, rfl, rfl⟩

theorem gateOffset_inRange {c : Settings} (h : settingsInRange c = true) :
    3 ≤ c.geometry.gateOffset ∧ c.geometry.gateOffset ≤ 1000 := by
  simp only [settingsInRange, geometryInRange, Bool.and_eq_true, decide_eq_true_eq, and_assoc] at h
  exact ⟨h.1, h.2.1⟩

theorem reset_ltr_between (high : Nat) : LineBetween 0 high {} := by
  refine ⟨List.Pairwise.nil, fun _ hb => absurd hb List.not_mem_nil, fun n hn => ?_, rfl⟩
  cases hn
  exact ⟨by decide, by decide, fun _ hb => absurd hb List.not_mem_nil⟩

theorem lineKept_of_restarted (h : Restarted s t) : lineKept t := by
  have hrange : ∀ clock phase, 3 ≤ (s.reboot clock phase).cfg.geometry.gateOffset
      ∧ (s.reboot clock phase).cfg.geometry.gateOffset ≤ 1000 := by
    intro clock phase
    have hgeometry : (s.reboot clock phase).cfg.geometry = (imageLoaded s.sst).settings.geometry := rfl
    rw [hgeometry]
    exact gateOffset_inRange (imageLoaded_valid s.sst).1
  obtain ⟨clock, rfl⟩ | ⟨clock, rfl⟩ := h
  · exact (lineKept_iff _).mpr ⟨(hrange clock .held).1, (hrange clock .held).2, reset_ltr_between _⟩
  · have hstarting : lineKept (s.reboot clock .starting) :=
      (lineKept_iff _).mpr ⟨(hrange clock .starting).1, (hrange clock .starting).2, reset_ltr_between _⟩
    exact lineKept_of_eq hstarting rfl rfl

theorem lineKept_of_completed (h : lineKept s) (a b : Bool) : lineKept (begun a b s).raiseAtStart := by
  have hbegun : lineKept (begun a b s) := by
    rw [lineKept_iff] at h ⊢
    exact ⟨h.1, h.2.1, h.2.2.keep rfl⟩
  have hraised : Keeps [.pml] (begun a b s) (begun a b s).raiseAtStart :=
    ((Keeps.refl [.pml] _).latchSource rfl _).trans (raiseAtStart_keeps _)
  exact lineKept_of_eq hbegun (hraised.agrees .ltr rfl) (hraised.agrees .geometry rfl)

theorem lineKept_of_tick (h : lineKept s) : lineKept (tick s) := by
  obtain ⟨u, feed, htick, hkeeps, -⟩ := tick_eq s
  have hu : lineKept u := lineKept_of_eq h (hkeeps.agrees .ltr rfl) (hkeeps.agrees .geometry rfl)
  exact htick ▸ hu

end

/-- Settles O57: a pitch event moves, takes and makes records in step with the counters, and no other command moves them. -/
theorem everyStepKeepsTheTrackInOrderAndCounted : Obligations.EveryStepKeepsTheTrackInOrderAndCounted :=
  fun _ _ h hroom => step_preserves (P := fun s => lineKept s ∧ roomToCount s.ltr) (Q := lineKept) (fun _ _ h => h)
    (fun _ _ _ h ht => exec_preserves ht (lineKept_of_keeps h.1 h.2 ht) lineKept_of_restarted
      fun _ a b hcompleted => hcompleted ▸ lineKept_of_completed h.1 a b)
    (fun _ h => lineKept_of_tick h.1) ⟨h, hroom⟩

end Sys2Proof.Invariants
end

section
/-!
SUPPORT. The tags of each camera apart: pending entries with distinct tags, none of them stale, through what the CTU does.
-/

namespace Sys2Proof.Invariants

open Sys2Proof Sys2Proof.Machine Sys2Proof.Safety Sys2Proof.Claims

/-! ## The tags of one camera (R81) -/

/-- The pending entries of a camera carry distinct tags, none of them stale. -/
def ownTagsApart (c : Camera) : Prop :=
  (c.pending.map fun e => e.tag).Nodup ∧ ∀ e ∈ c.pending, c.stale.getLsbD e.tag = false

theorem ownTagsApart_of_eq {b c : Camera} (h : ownTagsApart b) (hc : (c.pending, c.stale) = (b.pending, b.stale)) :
    ownTagsApart c := by
  simp only [Prod.mk.injEq] at hc
  rwa [ownTagsApart, hc.1, hc.2]

theorem ownTagsApart_none {c : Camera} (hc : c.pending = []) : ownTagsApart c := by
  simp [ownTagsApart, hc]

/-- Entries leave, and their tags do not become stale. -/
theorem ownTagsApart_filter {b c : Camera} (h : ownTagsApart b) (p : PendingEntry → Bool)
    (hc : (c.pending, c.stale) = (b.pending.filter p, b.stale)) : ownTagsApart c := by
  simp only [Prod.mk.injEq] at hc
  rw [ownTagsApart, hc.1, hc.2]
  exact ⟨h.1.sublist (List.filter_sublist.map _), fun e he => h.2 e (List.mem_of_mem_filter he)⟩

theorem withMember_getLsbD_tag :
    ∀ (set : TagSet) (tag i : Tag), (withMember set tag).getLsbD i = (set.getLsbD i || tag == i) := by decide

theorem getLsbD_foldl_tags (l : List PendingEntry) (set : TagSet) (i : Tag) :
    (l.foldl (fun set e => withMember set e.tag) set).getLsbD i = (set.getLsbD i || l.any fun e => e.tag == i) := by
  induction l generalizing set with
  | nil => simp
  | cons e l ih =>
    rw [List.foldl_cons, ih, withMember_getLsbD_tag, List.any_cons, Bool.or_assoc]

/-- Entries leave and their tags become stale: the tags of those that stay are others. -/
theorem ownTagsApart_drop {c : Camera} (h : ownTagsApart c) (leaves : PendingEntry → Bool) :
    ownTagsApart (c.drop leaves) := by
  refine ⟨h.1.sublist (List.filter_sublist.map _), fun e he => ?_⟩
  obtain ⟨hmem, hstays⟩ := List.mem_filter.mp he
  have hothers : ((c.pending.filter leaves).any fun x => x.tag == e.tag) = false := by
    refine List.any_eq_false.mpr fun x hx htag => ?_
    obtain ⟨hxmem, hxleaves⟩ := List.mem_filter.mp hx
    obtain rfl : x = e := List.inj_on_of_nodup_map h.1 hxmem hmem (by simpa using htag)
    simp [hxleaves] at hstays
  show ((c.pending.filter leaves).foldl (fun set x => withMember set x.tag) c.stale).getLsbD e.tag = false
  rw [getLsbD_foldl_tags, h.2 e hmem, hothers, Bool.or_false]

theorem ownTagsApart_withoutStale {b c : Camera} (h : ownTagsApart b) (tag : Tag)
    (hc : (c.pending, c.stale) = (b.pending, withoutMember b.stale tag)) : ownTagsApart c := by
  simp only [Prod.mk.injEq] at hc
  rw [ownTagsApart, hc.1, hc.2]
  refine ⟨h.1, fun e he => ?_⟩
  rw [withoutMember, BitVec.getLsbD_and, h.2 e he, Bool.false_and]

/-- A new entry with a tag that is neither pending nor stale. -/
theorem ownTagsApart_add {b c : Camera} (h : ownTagsApart b) (htag : b.tagTaken = false) {e : PendingEntry}
    (he : e.tag = b.nextTag) (hc : (c.pending, c.stale) = (b.pending ++ [e], b.stale)) : ownTagsApart c := by
  simp only [Prod.mk.injEq] at hc
  simp only [Camera.tagTaken, Bool.or_eq_false_iff, List.any_eq_false, beq_iff_eq] at htag
  rw [ownTagsApart, hc.1, hc.2]
  constructor
  · rw [List.map_append, List.map_singleton, List.nodup_append]
    refine ⟨h.1, List.nodup_singleton _, fun tag hin tag' hin' => ?_⟩
    obtain ⟨x, hx, rfl⟩ := List.mem_map.mp hin
    obtain rfl := List.mem_singleton.mp hin'
    exact he ▸ htag.2 x hx
  · intro x hx
    obtain hold | hnew := List.mem_append.mp hx
    · exact h.2 x hold
    · obtain rfl := List.mem_singleton.mp hnew
      exact he ▸ htag.1

/-! ## The tags through the operations of a camera -/

theorem tags_readsCtu : ReadsOnly .ctu tagsApart where
  of_agree := fun {s t} (hctu : t.ctu = s.ctu) h => by
    unfold tagsApart State.camera
    rw [hctu]
    exact h

section

variable {s t : State} {k : CameraNo}

theorem tags_setCamera (h : tagsApart s) {c : Camera} (hc : ownTagsApart c) : tagsApart (s.setCamera k c) := by
  intro j
  by_cases hj : j = k
  · rw [hj, setCamera_camera_self]
    exact hc
  · rw [setCamera_camera_ne hj]
    exact h j

/-- A write of a camera that leaves its tags alone. -/
theorem tags_rewrite (h : tagsApart s) {c : Camera} (hc : (c.pending, c.stale) = ((s.camera k).pending, (s.camera k).stale)) :
    tagsApart (s.setCamera k c) := tags_setCamera h (ownTagsApart_of_eq (h k) hc)

theorem tags_countCamera (h : tagsApart s) (k : CameraNo) (c : CameraCounter) : tagsApart (s.countCamera k c) :=
  tags_rewrite h (by rfl)

theorem tags_drop (h : tagsApart s) (k : CameraNo) (leaves : PendingEntry → Bool) :
    tagsApart (s.setCamera k ((s.camera k).drop leaves)) := tags_setCamera h (ownTagsApart_drop (h k) leaves)

theorem tags_setCameraState (h : tagsApart s) (k : CameraNo) (new : CameraState) (cause : CameraCause) :
    tagsApart (s.setCameraState k new cause) := by
  refine ite_induct (fun _ => h) fun _ => tags_readsCtu.reportSource (tags_readsCtu.reportSource ?_ _ _ _) _ _ _
  exact tags_readsCtu.post (tags_rewrite h (by rfl)) _

theorem tags_firePulse (h : tagsApart s) (htag : (s.camera k).tagTaken = false) (serial : Option Nat) (pitch : Pitch)
    (expiry : Option Pitch) : tagsApart (s.firePulse k serial pitch expiry) :=
  tags_readsCtu.send (tags_setCamera h (ownTagsApart_add (h k) htag
    (e := ⟨serial, (s.camera k).nextTag, pitch, expiry, s.stamp⟩) rfl (by rfl))) _

theorem tags_reportPending (h : tagsApart s) (k : CameraNo) (v : Verdict) (c : Option CameraCounter) :
    tagsApart (s.reportPending k v c) := by
  refine foldl_induct (P := tagsApart) (fun u e hu => ?_) _ h
  split
  · exact tags_countCamera (tags_readsCtu.sendAll hu _) k _
  · exact tags_readsCtu.sendAll hu _
  · exact hu

theorem tags_resolvePending (h : tagsApart s) (k : CameraNo) (v : Verdict) (c : Option CameraCounter) :
    tagsApart (s.resolvePending k v c) := tags_drop (tags_reportPending h k v c) k _

theorem tags_reportVerdict (h : tagsApart s) (serial : Nat) (k : CameraNo) (v : Verdict) :
    tagsApart (s.reportVerdict serial k v) := tags_readsCtu.sendAll h _

theorem tags_triggerCases (h : tagsApart s) (k : CameraNo) (sc : Scheduled) : tagsApart (s.triggerCases k sc) := by
  unfold State.triggerCases
  dsimp only
  split
  · exact tags_reportVerdict h _ _ _
  · exact tags_reportVerdict h _ _ _
  · exact tags_countCamera (tags_reportVerdict h _ _ _) k _
  · split
    · exact tags_resolvePending (tags_countCamera (tags_reportVerdict (tags_setCameraState h k _ _) _ _ _) k _) k _ _
    · split
      · exact tags_countCamera (tags_reportVerdict h _ _ _) k _
      · rename_i htag
        exact tags_firePulse h (by simpa using htag) _ _ _

theorem tags_takeTrigger (h : tagsApart s) (k : CameraNo) : tagsApart (s.takeTrigger k) := by
  unfold State.takeTrigger
  dsimp only
  split
  · exact h
  · exact tags_triggerCases (tags_readsCtu.send (tags_rewrite h (by rfl)) _) k _

theorem tags_expireEntry (h : tagsApart s) (k : CameraNo) (e : PendingEntry) : tagsApart (s.expireEntry k e) := by
  unfold State.expireEntry
  dsimp only
  split
  · exact tags_drop (tags_countCamera (tags_reportVerdict h _ _ _) k _) k _
  · exact tags_drop (tags_countCamera h k _) k _

theorem tags_expireWindows (h : tagsApart s) (k : CameraNo) (pitch : Pitch) : tagsApart (s.expireWindows k pitch) :=
  foldl_induct (P := tagsApart) (fun _ e hu => tags_expireEntry hu k e) _ h

theorem tags_schedule (h : tagsApart s) (k : CameraNo) (pitch : Pitch) (records : List Announced) :
    tagsApart (s.schedule k pitch records) := by
  unfold State.schedule
  split
  · exact tags_rewrite h (by rfl)
  · exact h

theorem tags_cameraPitch (h : tagsApart s) (pitch : Pitch) (records : List Announced) (k : CameraNo) :
    tagsApart (s.cameraPitch pitch records k) :=
  have h1 := tags_schedule (tags_expireWindows h k pitch) k pitch records
  ite_induct (fun _ => tags_takeTrigger h1 k) fun _ => h1

theorem tags_bindVerdict (h : tagsApart s) (k : CameraNo) (ng : Bool) (e : PendingEntry) :
    tagsApart (s.bindVerdict k ng e) := by
  have h1 : tagsApart (s.setCamera k { s.camera k with
      pending := (s.camera k).pending.filter fun x => x.tag != e.tag }) :=
    tags_setCamera h (ownTagsApart_filter (h k) _ rfl)
  unfold State.bindVerdict
  dsimp only
  split
  · exact tags_countCamera (tags_reportVerdict h1 _ _ _) k _
  · exact tags_readsCtu.post h1 _

theorem tags_loseCamera (h : tagsApart s) (k : CameraNo) : tagsApart (s.loseCamera k) := by
  have h1 : tagsApart (s.setCamera k { s.camera k with binding := .down }) := tags_rewrite h rfl
  exact ite_induct (fun _ => h1) fun _ =>
    tags_resolvePending (tags_setCameraState (tags_rewrite h1 (by rfl)) k _ _) k _ _

theorem tags_leaveTest (h : tagsApart s) (k : CameraNo) (cause : CameraCause) : tagsApart (s.leaveTest k cause) :=
  tags_setCameraState (tags_setCamera h
    (ownTagsApart_of_eq (ownTagsApart_drop (h k) fun e => e.serial.isNone) (by rfl))) k _ _

theorem tags_testMember (h : tagsApart s) (grant : Nat) (on : Bool) (k : CameraNo) :
    tagsApart (testMember grant on k s).1 := by
  unfold testMember
  dsimp only
  split
  · exact tags_setCameraState (tags_rewrite h (by rfl)) k _ _
  · split <;> exact h
  · exact h
  · exact tags_leaveTest h k _
  · exact h

theorem tags_testTriggerMember (h : tagsApart s) (grant : Nat) (k : CameraNo) :
    tagsApart (testTriggerMember grant k s).1 := by
  unfold testTriggerMember
  dsimp only
  split
  · exact h
  · split
    · exact tags_resolvePending (tags_setCameraState (tags_rewrite h (by rfl)) k _ _) k _ _
    · split
      · exact tags_countCamera h k _
      · rename_i htag
        exact tags_firePulse h (by simpa using htag) _ _ _

theorem tags_rearmMember (h : tagsApart s) (k : CameraNo) : tagsApart (rearmMember k s).1 := by
  unfold rearmMember
  dsimp only
  split
  · exact h
  · exact tags_setCameraState (tags_setCamera (tags_reportPending h k _ _) (ownTagsApart_none (by rfl))) k _ _

theorem tags_firstCamera (h : tagsApart s) (k : CameraNo) : tagsApart (s.firstCamera k) :=
  have h1 : tagsApart (s.setCamera k { s.camera k with binding := s.sws.cameras[k] }) := tags_rewrite h rfl
  ite_induct (fun _ => tags_setCameraState h1 k _ _) fun _ => h1

/-! ## The tags through every command -/

theorem tags_triggerPulseEnd (k : CameraNo) (s : State) : Maintains tagsApart s (execTriggerPulseEnd k s) := by
  refine tags_readsCtu.maintains_taken fun h => ?_
  dsimp only
  split
  · exact ite_induct (fun _ => tags_rewrite h (by rfl)) fun _ => h
  · exact h

theorem tags_verdictArrival (k : CameraNo) (ng : Bool) (tag : Tag) (s : State) :
    Maintains tagsApart s (execVerdictArrival k ng tag s) := by
  refine tags_readsCtu.maintains_taken fun h => ?_
  dsimp only
  split
  · exact tags_bindVerdict h k ng _
  · refine ite_induct (fun _ => tags_countCamera ?_ k _) fun _ => tags_readsCtu.post (tags_countCamera h k _) _
    exact tags_setCamera h (ownTagsApart_withoutStale (h k) tag rfl)

theorem tags_testTrigger (cameras : CameraSet) (grant : Nat) (s : State) :
    Maintains tagsApart s (execTestTrigger cameras grant s) := by
  refine tags_readsCtu.maintains_taken fun h => tags_readsCtu.require rfl h _ _ fun _ =>
    tags_readsCtu.answer rfl (runMembersDetailed_induct (P := tagsApart) (fun k u hu => ?_) _ h) _
  split
  · exact hu
  · exact tags_testTriggerMember hu grant k

theorem tags_activeCameraSetReport (cameras : CameraSet) (s : State) :
    Maintains tagsApart s (execActiveCameraSetReport cameras s) := by
  refine tags_readsCtu.maintains_taken fun h => ?_
  have hset : tagsApart ((s.received (.activeCameraSetReport cameras)).setCtu
      { (s.received (.activeCameraSetReport cameras)).ctu with activeSet := cameras }) := h
  exact tags_readsCtu.reportSource (tags_readsCtu.reportSource hset _ _ _) _ _ _

theorem firstAxis_keeps (s : State) (k : AxisNo) : Keeps [.fmu] s (s.firstAxis k) := (Keeps.refl [.fmu] s).setAxis rfl _ _

theorem tags_firstSetting (s : State) : Maintains tagsApart s (execFirstSetting s) := by
  refine tags_readsCtu.maintains_taken fun h => ite_induct (fun _ => ?_) fun _ => h
  refine foldl_induct (P := tagsApart) (fun u k hu => tags_firstCamera hu k) _ ?_
  refine foldl_induct (P := tagsApart) (fun u k hu => tags_readsCtu.of_keeps (firstAxis_keeps u k) rfl hu) _ ?_
  exact tags_readsCtu.of_keeps ((Keeps.refl [] _).recomputeBindings.setSws _ (by rfl)) rfl h

/-- Every command that writes the CTU keeps the tags of each camera apart. -/
theorem exec_tags {c : Instr} (h : tagsApart s) (ht : exec c s = .next t) (hkeeps : Keeps (writes c) s t) :
    tagsApart t := by
  have hother := tags_readsCtu.maintains_unwritten ht hkeeps
  refine (show Maintains tagsApart s (exec c s) from ?_) h t ht
  cases c
  case triggerPulseEnd => exact tags_triggerPulseEnd _ _
  case verdictArrival => exact tags_verdictArrival _ _ _ _
  case testTrigger => exact tags_testTrigger _ _ _
  case firstSetting => exact tags_firstSetting _
  case ctuPitchEvent =>
    exact show Maintains tagsApart s (execCtuPitchEvent _ _ s) from
      tags_readsCtu.maintains_taken fun h =>
        foldl_induct (P := tagsApart) (fun _ k hu => tags_cameraPitch hu _ _ k) _ h
  case verdictWindowExpiry =>
    exact show Maintains tagsApart s (execVerdictWindowExpiry _ _ s) from
      tags_readsCtu.maintains_taken fun h => tags_expireWindows h _ _
  case lineTrigger =>
    exact show Maintains tagsApart s (execLineTrigger _ s) from
      tags_readsCtu.maintains_taken fun h => ite_induct (fun _ => h) fun _ =>
        foldl_induct (P := tagsApart) (fun _ k hu => ite_induct (fun _ => tags_takeTrigger hu k) fun _ => hu) _ h
  case cameraBindingChange =>
    exact show Maintains tagsApart s (execCameraBindingChange _ _ s) from
      tags_readsCtu.maintains_taken fun h => ite_induct (fun _ => tags_loseCamera h _) fun _ => tags_rewrite h (by rfl)
  case ctuDeparture =>
    exact show Maintains tagsApart s (execCtuDeparture _ s) from
      tags_readsCtu.maintains_taken fun h => foldl_induct (P := tagsApart) (fun _ k hu => tags_drop hu k _) _ h
  case ctuLineClear =>
    exact show Maintains tagsApart s (execCtuLineClear s) from
      tags_readsCtu.maintains_taken fun h => foldl_induct (P := tagsApart) (fun _ k hu =>
        tags_setCamera hu (ownTagsApart_of_eq (ownTagsApart_drop (hu k) fun _ => true) (by rfl))) _ h
  case activeCameraSetReport =>
    exact tags_activeCameraSetReport _ _
  case ctuGrantClosingStart =>
    exact show Maintains tagsApart s (execCtuGrantClosingStart _ s) from
      tags_readsCtu.maintains_taken fun h =>
        foldl_induct (P := tagsApart) (fun _ k hu => ite_induct (fun _ => tags_leaveTest hu k _) fun _ => hu) _ h
  case cameraRearm =>
    exact show Maintains tagsApart s (execCameraRearm _ s) from
      tags_readsCtu.maintains_taken fun h => tags_readsCtu.wholeSet rfl h _ _ _
        (tags_readsCtu.onCameras rfl (fun k _ hu => tags_rearmMember hu k) h _)
  case cameraTest =>
    exact show Maintains tagsApart s (execCameraTest _ _ _ s) from
      tags_readsCtu.maintains_taken fun h => tags_readsCtu.require rfl h _ _ fun _ =>
        tags_readsCtu.requireSome rfl h _ _ fun on _ =>
          tags_readsCtu.onCameras rfl (fun k _ hu => afterGrant_induct hu (tags_testMember hu _ on k)) h _
  all_goals exact hother rfl

theorem tags_of_restarted (h : Restarted s t) : tagsApart t := by
  obtain ⟨clock, rfl⟩ | ⟨clock, rfl⟩ := h <;>
    exact fun k => ownTagsApart_none (by simp [State.beginStartUp, State.reboot, State.sendSwitch, State.transmit,
      State.camera])

theorem everyStepKeepsTheTagsApart : EveryStepKeepsTheTagsApart := fun _ _ =>
  step_preserves (fun _ _ h => h)
    (fun _ s _ h ht => exec_preserves ht (exec_tags h ht) tags_of_restarted fun _ a b hcompleted =>
      hcompleted ▸ tags_readsCtu.of_keeps (completed_keeps a b s) rfl h)
    fun s h => by
      obtain ⟨u, feed, htick, hkeeps, -⟩ := tick_eq s
      have hu : tagsApart u := tags_readsCtu.of_keeps hkeeps rfl h
      exact htick ▸ hu

end

end Sys2Proof.Invariants
end

section
/-!
SUPPORT. The station table and the forget list: each entry in the set of its address, no address and no bound unit twice, the
forgets of distinct addresses, none of them that of an ADMITTED entry.
-/

namespace Sys2Proof.Invariants

open Sys2Proof Sys2Proof.Machine Sys2Proof.Safety Sys2Proof.Claims

/-! ## The invariant in the words of the model's accessors (R101, R113) -/

/-- A station's role binds it to an axis or a camera. -/
def isBound (r : Role) : Prop := (roleUnit r).isSome = true

theorem isBound_iff (r : Role) : isBound r ↔ r ≠ .panel ∧ r ≠ .other ∧ r ≠ .unknown ∧ r ≠ .serviceTerminal := by
  cases r <;> simp [isBound, roleUnit]

theorem setOf_eq_setFor (a : Address) : setOf a = setFor a := Fin.ext (Nat.mod_mod _ _)

structure TableApart (s : State) : Prop where
  home : ∀ n w e, s.way n w = some e → setOf e.address = n
  alone : ∀ n w v e x, s.way n w = some e → s.way n v = some x → x.address = e.address → v = w
  bound : ∀ n w m v e x, s.way n w = some e → s.way m v = some x → isBound e.role → x.role = e.role → m = n ∧ v = w
  admitted : ∀ n w e, s.way n w = some e → e.state = .admitted → ∀ f ∈ s.sws.forgets, f.address ≠ e.address
  forgets : (s.sws.forgets.map fun f => f.address).Nodup

theorem stationsKept_iff (s : State) : stationsKept s ↔ TableApart s := by
  constructor
  · rintro ⟨htable, hforgets⟩
    refine ⟨fun n w e he => ?_, fun n w v e x he hx => ?_, fun n w m v e x he hx hbound hrole => ?_,
      fun n w e he hadmitted f hf haddress => ?_, hforgets⟩
    · exact (setOf_eq_setFor _).trans (htable n w e he).1
    · exact (htable n w e he).2.1 v x hx
    · obtain ⟨hpanel, hother, hunknown, hterminal⟩ := (isBound_iff _).mp hbound
      exact (htable n w e he).2.2.1 hpanel hother hunknown hterminal m v x hx hrole
    · exact (htable n w e he).2.2.2 hadmitted ⟨f, hf, haddress⟩
  · rintro ⟨hhome, halone, hbound, hadmitted, hforgets⟩
    refine ⟨fun n w e he => ⟨?_, fun v x hx => halone n w v e x he hx, ?_, ?_⟩, hforgets⟩
    · exact (setOf_eq_setFor _).symm.trans (hhome n w e he)
    · exact fun hpanel hother hunknown hterminal m v x hx =>
        hbound n w m v e x he hx ((isBound_iff _).mpr ⟨hpanel, hother, hunknown, hterminal⟩)
    · rintro hstate ⟨f, hf, haddress⟩
      exact hadmitted n w e he hstate f hf haddress

theorem table_readsStations : ReadsOnly .stations TableApart where
  of_agree := fun {s t} hagree h => by
    obtain ⟨htable, hforgets⟩ : t.sws.table = s.sws.table ∧ t.sws.forgets = s.sws.forgets := Prod.mk.inj hagree
    have hway : ∀ n w, t.way n w = s.way n w := fun n w => by rw [State.way, State.stationSet, htable]; rfl
    refine ⟨?_, ?_, ?_, ?_, ?_⟩
    · simpa only [hway] using h.home
    · simpa only [hway] using h.alone
    · simpa only [hway] using h.bound
    · simpa only [hway, hforgets] using h.admitted
    · simpa only [hforgets] using h.forgets

/-! ## Writes of one way, and forgets -/

section

variable {s t : State} {n : Fin 16} {w : Fin 4} {e : Station}

theorem setStationSet_stationSet (s : State) (n m : Fin 16) (x : StationSet) :
    (s.setStationSet n x).stationSet m = if m = n then x else s.stationSet m := by
  simp only [State.stationSet, State.setStationSet, setSws_sws, Fin.getElem_fin, Vector.getElem_set, Fin.ext_iff, eq_comm]

theorem setWay_way (s : State) (n m : Fin 16) (w v : Fin 4) (x : Option Station) :
    (s.setWay n w x).way m v = if m = n ∧ v = w then x else s.way m v := by
  unfold State.setWay State.way
  rw [setStationSet_stationSet]
  by_cases hm : m = n
  · simp only [hm, true_and, if_true, Fin.getElem_fin, Vector.getElem_set, Fin.ext_iff, eq_comm]
  · simp only [hm, false_and, if_false]

theorem setWay_forgets (s : State) (n : Fin 16) (w : Fin 4) (x : Option Station) :
    (s.setWay n w x).sws.forgets = s.sws.forgets := rfl

theorem setVictim_way (s : State) (n m : Fin 16) (w v : Fin 4) : (s.setVictim n w).way m v = s.way m v := by
  unfold State.setVictim State.way
  rw [setStationSet_stationSet]
  by_cases hm : m = n
  · subst hm
    rw [if_pos rfl]
  · rw [if_neg hm]

/-- A way is left free. -/
theorem table_clearWay (h : TableApart s) (n : Fin 16) (w : Fin 4) : TableApart (s.setWay n w none) := by
  have hold : ∀ {m v x}, (s.setWay n w none).way m v = some x → s.way m v = some x := by
    intro m v x hx
    rw [setWay_way] at hx
    split at hx
    · cases hx
    · exact hx
  exact ⟨fun m v x hx => h.home m v x (hold hx), fun m v u x y hx hy => h.alone m v u x y (hold hx) (hold hy),
    fun m v m' u x y hx hy => h.bound m v m' u x y (hold hx) (hold hy),
    fun m v x hx => h.admitted m v x (hold hx), h.forgets⟩

/-- An entry is put in a way of its set, apart from what the other ways hold. -/
theorem table_put (h : TableApart s) (hhome : setOf e.address = n)
    (halone : ∀ v x, v ≠ w → s.way n v = some x → x.address ≠ e.address)
    (hbound : isBound e.role → ∀ m v x, s.way m v = some x → x.role = e.role → m = n ∧ v = w)
    (hadmitted : e.state = .admitted → ∀ f ∈ s.sws.forgets, f.address ≠ e.address) :
    TableApart (s.setWay n w (some e)) := by
  have hcases : ∀ {m v x}, (s.setWay n w (some e)).way m v = some x →
      (m = n ∧ v = w ∧ x = e) ∨ (¬ (m = n ∧ v = w) ∧ s.way m v = some x) := by
    intro m v x hx
    rw [setWay_way] at hx
    split at hx
    · rename_i hhere
      exact .inl ⟨hhere.1, hhere.2, (Option.some.inj hx).symm⟩
    · exact .inr ⟨‹_›, hx⟩
  refine ⟨fun m v x hx => ?_, fun m v u x y hx hy hxy => ?_, fun m v m' u x y hx hy hx' hxy => ?_,
    fun m v x hx => ?_, h.forgets⟩
  · obtain ⟨rfl, rfl, rfl⟩ | ⟨-, hold⟩ := hcases hx
    · exact hhome
    · exact h.home m v x hold
  · obtain ⟨rfl, rfl, rfl⟩ | ⟨hv, hxold⟩ := hcases hx <;> obtain ⟨hm, rfl, rfl⟩ | ⟨hu, hyold⟩ := hcases hy
    · rfl
    · exact absurd hxy (halone u y (fun heq => hu ⟨rfl, heq⟩) hyold)
    · subst hm
      exact absurd hxy.symm (halone v x (fun heq => hv ⟨rfl, heq⟩) hxold)
    · exact h.alone m v u x y hxold hyold hxy
  · obtain ⟨rfl, rfl, rfl⟩ | ⟨hv, hxold⟩ := hcases hx <;> obtain ⟨rfl, rfl, rfl⟩ | ⟨hu, hyold⟩ := hcases hy
    · exact ⟨rfl, rfl⟩
    · exact hbound hx' m' u y hyold hxy
    · exact absurd (hbound (hxy ▸ hx') m v x hxold hxy.symm) hv
    · exact h.bound m v m' u x y hxold hyold hx' hxy
  · obtain ⟨rfl, rfl, rfl⟩ | ⟨-, hold⟩ := hcases hx
    · exact hadmitted
    · exact h.admitted m v x hold

/-- An entry changes, but not in its address and its role. -/
theorem table_restate (h : TableApart s) (hw : s.way n w = some e) {x : Station}
    (hx : (x.address, x.role) = (e.address, e.role))
    (hadmitted : x.state = .admitted → ∀ f ∈ s.sws.forgets, f.address ≠ e.address) :
    TableApart (s.setWay n w (some x)) := by
  simp only [Prod.mk.injEq] at hx
  obtain ⟨haddress, hrole⟩ := hx
  refine table_put h ?_ ?_ ?_ ?_
  · rw [haddress]
    exact h.home n w e hw
  · intro v y hv hy hsame
    exact hv (h.alone n w v e y hw hy (haddress ▸ hsame))
  · intro hbound m v y hy hsame
    exact h.bound n w m v e y hw hy (hrole ▸ hbound) (hrole ▸ hsame)
  · rw [haddress]
    exact hadmitted

theorem sendForget_forgets (s : State) (e : Station) (reason : ForgetReason) :
    (s.sendForget e reason).sws.forgets = s.sws.forgets
      ++ [⟨e.address, e.port, reason, if e.role = .serviceTerminal then e.grant else none, s.now⟩] := rfl

theorem sendForget_way (s : State) (e : Station) (reason : ForgetReason) (m : Fin 16) (v : Fin 4) :
    (s.sendForget e reason).way m v = s.way m v := rfl

/-- A forget of an address that no ADMITTED entry and no other forget has. -/
theorem table_sendForget (h : TableApart s) (hfree : ∀ f ∈ s.sws.forgets, f.address ≠ e.address)
    (hnone : ∀ m v x, s.way m v = some x → x.state = .admitted → x.address ≠ e.address) (reason : ForgetReason) :
    TableApart (s.sendForget e reason) := by
  refine ⟨h.home, h.alone, h.bound, fun m v x hx hadmitted f hf => ?_, ?_⟩
  · rw [sendForget_forgets] at hf
    obtain hold | hnew := List.mem_append.mp hf
    · exact h.admitted m v x hx hadmitted f hold
    · obtain rfl := List.mem_singleton.mp hnew
      exact (hnone m v x hx hadmitted).symm
  · rw [sendForget_forgets, List.map_append, List.map_singleton, List.nodup_append]
    refine ⟨h.forgets, List.nodup_singleton _, fun a ha b hb => ?_⟩
    obtain ⟨f, hf, rfl⟩ := List.mem_map.mp ha
    obtain rfl := List.mem_singleton.mp hb
    exact hfree f hf

/-- An ADMITTED entry leaves its way, or stops being ADMITTED in it, and its address is forgotten. -/
theorem table_forgetAdmitted (h : TableApart s) (hw : s.way n w = some e) (hadmitted : e.state = .admitted)
    {x : Option Station} (hx : ∀ y, x = some y → (y.address, y.role) = (e.address, e.role) ∧ y.state ≠ .admitted)
    (reason : ForgetReason) : TableApart ((s.setWay n w x).sendForget e reason) := by
  have hset : TableApart (s.setWay n w x) := by
    cases x with
    | none => exact table_clearWay h n w
    | some y => exact table_restate h hw (hx y rfl).1 fun hy => absurd hy (hx y rfl).2
  refine table_sendForget hset (h.admitted n w e hw hadmitted) (fun m v y hy hyadmitted hsame => ?_) reason
  rw [setWay_way] at hy
  split at hy
  · exact (hx y hy).2 hyadmitted
  · rename_i hnot
    obtain rfl : m = n := (h.home m v y hy).symm.trans (hsame ▸ h.home n w e hw)
    exact hnot ⟨rfl, h.alone m w v e y hw hy hsame⟩

/-! ## Looking an address up -/

theorem mem_fourNos : ∀ w : Fin 4, w ∈ fourNos := by decide

theorem mem_allWays (n : Fin 16) (w : Fin 4) : (n, w) ∈ allWays :=
  List.mem_flatMap.mpr ⟨n, by revert n; decide, List.mem_map.mpr ⟨w, mem_fourNos w, rfl⟩⟩

theorem way_of_lookup {a : Address} {x : Fin 4 × Station} (hx : s.lookup a = some x) :
    s.way (setOf a) x.1 = some x.2 ∧ x.2.address = a := by
  unfold State.lookup at hx
  obtain ⟨w, hw, hmap⟩ := Option.bind_eq_some_iff.mp hx
  obtain ⟨e, he, rfl⟩ := Option.map_eq_some_iff.mp hmap
  have hfound := List.find?_some hw
  rw [he] at hfound
  exact ⟨he, by simpa using hfound⟩

/-- An address that is not found stands in no way of its set. -/
theorem no_way_of_lookup {a : Address} (hx : s.lookup a = none) (w : Fin 4) (e : Station)
    (he : s.way (setOf a) w = some e) : e.address ≠ a := by
  intro haddress
  have hany : ((s.stationSet (setOf a)).ways[w].any fun x => x.address == a) = true := by
    rw [show (s.stationSet (setOf a)).ways[w] = some e from he]
    simpa using haddress
  have hsome : ((s.stationSet (setOf a)).wayOf a).isSome = true := by
    unfold StationSet.wayOf
    rw [List.find?_isSome]
    exact ⟨w, mem_fourNos w, hany⟩
  obtain ⟨v, hv⟩ := Option.isSome_iff_exists.mp hsome
  have hfound := List.find?_some hv
  unfold State.lookup at hx
  rw [hv] at hx
  have hnone : (s.stationSet (setOf a)).ways[v] = none := by simpa using hx
  rw [hnone] at hfound
  cases hfound

/-- With its entries in their sets, an address that is not found stands nowhere in the table. -/
theorem absent_of_lookup (h : TableApart s) {a : Address} (hx : s.lookup a = none) (n : Fin 16) (w : Fin 4) (e : Station)
    (he : s.way n w = some e) : e.address ≠ a := by
  rintro rfl
  obtain rfl := h.home n w e he
  exact no_way_of_lookup hx w e he rfl

theorem not_forgetting {a : Address} (h : s.forgetting a = false) : ∀ f ∈ s.sws.forgets, f.address ≠ a := by
  simpa [State.forgetting] using h

/-! ## The stations through the operations of the SWS -/

theorem table_setVictim (h : TableApart s) (n : Fin 16) (w : Fin 4) : TableApart (s.setVictim n w) := by
  refine ⟨?_, ?_, ?_, ?_, h.forgets⟩
  · simpa only [setVictim_way] using h.home
  · simpa only [setVictim_way] using h.alone
  · simpa only [setVictim_way] using h.bound
  · simp only [setVictim_way]
    exact h.admitted

theorem table_answerQuery (h : TableApart s) (q : Query) (admits : Bool) : TableApart (s.answerQuery q admits) :=
  table_readsStations.of_keeps ((Keeps.refl [] s).answerQuery q admits) rfl h

theorem table_reportLeft (h : TableApart s) (e : Station) : TableApart (s.reportLeft e) :=
  table_readsStations.of_keeps ((Keeps.refl [] s).reportLeft e) rfl h

theorem table_stationDone (h : TableApart s) : TableApart s.stationDone :=
  table_readsStations.of_keeps ((Keeps.refl [.reply] s).stationDone rfl) rfl h

theorem table_hitOwnPort (h : TableApart s) {q : Query} (hw : s.way (setOf q.address) w = some e)
    (hfree : ∀ f ∈ s.sws.forgets, f.address ≠ q.address) (haddress : e.address = q.address) :
    TableApart (s.hitOwnPort q w e) :=
  table_answerQuery (table_setVictim (table_restate h hw (by rfl) fun _ => haddress ▸ hfree) _ _) q _

theorem table_hitOtherPort (h : TableApart s) (q : Query) (e : Station) : TableApart (s.hitOtherPort q e) :=
  table_answerQuery (table_readsStations.post (table_setVictim h _ _) _) q _

theorem table_evict (h : TableApart s) (hw : s.way n w = some e) : TableApart (s.evict n w e) := by
  refine table_setVictim (ite_induct (fun hadmitted => ?_) fun _ => table_clearWay h n w) _ _
  exact table_reportLeft (table_forgetAdmitted h hw hadmitted (fun _ hy => by cases hy) _) e

/-- After an eviction no new entry stands in the table, and only the victim's address can be newly forgotten. -/
theorem evict_way (s : State) (n m : Fin 16) (w v : Fin 4) (e : Station) :
    (s.evict n w e).way m v = if m = n ∧ v = w then none else s.way m v := by
  unfold State.evict
  dsimp only
  rw [setVictim_way]
  split
  · have hleft : ((s.setWay n w none).sendForget e .evict |>.reportLeft e).sws.table = (s.setWay n w none).sws.table :=
      congrArg Prod.fst (((Keeps.refl [] _).reportLeft e).agrees .stations rfl)
    rw [State.way, State.stationSet, hleft]
    exact setWay_way s n m w v none
  · exact setWay_way s n m w v none

theorem evict_forgets (s : State) (n : Fin 16) (w : Fin 4) (e : Station) {f : Forget}
    (hf : f ∈ (s.evict n w e).sws.forgets) : f ∈ s.sws.forgets ∨ f.address = e.address := by
  have hvictim : (s.evict n w e).sws.forgets = (if e.state = .admitted then
      ((s.setWay n w none).sendForget e .evict).reportLeft e else s.setWay n w none).sws.forgets := rfl
  rw [hvictim] at hf
  split at hf
  · have hleft : (((s.setWay n w none).sendForget e .evict).reportLeft e).sws.forgets
        = ((s.setWay n w none).sendForget e .evict).sws.forgets :=
      congrArg Prod.snd (((Keeps.refl [] _).reportLeft e).agrees .stations rfl)
    rw [hleft, sendForget_forgets] at hf
    obtain hold | hnew := List.mem_append.mp hf
    · exact .inl hold
    · exact .inr (by rw [List.mem_singleton.mp hnew])
  · exact .inl hf

theorem placeIn_replace {n : Fin 16} {w : Fin 4} {victim : Station} (hplace : s.placeIn n = .replace w victim) :
    s.way n w = some victim := by
  unfold State.placeIn at hplace
  split at hplace
  · cases hplace
  · split at hplace
    · cases hplace
    · split at hplace
      · cases hplace
      · split at hplace
        · cases hplace
        · cases hplace
          assumption

/-- A new entry that nothing in the table or the forget list stands against is put in the way its set has for it. -/
theorem table_place (h : TableApart s) (habsent : ∀ m v x, s.way m v = some x → x.address ≠ e.address)
    (hunbound : isBound e.role → ∀ m v x, s.way m v = some x → x.role ≠ e.role)
    (hfree : ∀ f ∈ s.sws.forgets, f.address ≠ e.address) (w : Fin 4) :
    TableApart (s.setWay (setOf e.address) w (some e)) :=
  table_put h rfl (fun v x _ hx => habsent _ v x hx) (fun hbound m v x hx hrole => absurd hrole (hunbound hbound m v x hx))
    fun _ => hfree

theorem table_placeOver (h : TableApart s) (habsent : ∀ m v x, s.way m v = some x → x.address ≠ e.address)
    (hunbound : isBound e.role → ∀ m v x, s.way m v = some x → x.role ≠ e.role)
    (hfree : ∀ f ∈ s.sws.forgets, f.address ≠ e.address) {w : Fin 4} {victim : Station}
    (hw : s.way (setOf e.address) w = some victim) :
    TableApart ((s.evict (setOf e.address) w victim).setWay (setOf e.address) w (some e)) := by
  have hold : ∀ {m v x}, (s.evict (setOf e.address) w victim).way m v = some x → s.way m v = some x := by
    intro m v x hx
    rw [evict_way] at hx
    split at hx
    · cases hx
    · exact hx
  refine table_place (table_evict h hw) (fun m v x hx => habsent m v x (hold hx))
    (fun hbound m v x hx => hunbound hbound m v x (hold hx)) (fun f hf => ?_) w
  obtain hbefore | hvictim := evict_forgets s _ w victim hf
  · exact hfree f hbefore
  · exact hvictim ▸ habsent _ w victim hw

theorem table_learn (h : TableApart s) {q : Query} (habsent : ∀ m v x, s.way m v = some x → x.address ≠ q.address)
    (hfree : ∀ f ∈ s.sws.forgets, f.address ≠ q.address) {role : Role} (hrole : ¬ isBound role) (state : StationState)
    (grant : Option Nat) {f : Fin 4 → State → State} (hf : ∀ w u, TableApart u → TableApart (f w u)) :
    TableApart (s.learn q role state grant f) := by
  have hunbound : isBound (learnedEntry s q role state grant).role →
      ∀ m v x, s.way m v = some x → x.role ≠ (learnedEntry s q role state grant).role := fun hbound => absurd hbound hrole
  unfold State.learn
  dsimp only
  split
  · exact hf _ _ (table_place (e := learnedEntry s q role state grant) h habsent hunbound hfree _)
  · rename_i hplace
    exact hf _ _ (table_placeOver (e := learnedEntry s q role state grant) h habsent hunbound hfree (placeIn_replace hplace))
  · exact table_answerQuery (table_readsStations.of_keeps ((Keeps.refl [] s).countSwitch _) rfl h) q _
  · exact table_answerQuery (table_readsStations.post h _) q _

theorem table_missQuery (h : TableApart s) {q : Query} (habsent : ∀ m v x, s.way m v = some x → x.address ≠ q.address)
    (hfree : ∀ f ∈ s.sws.forgets, f.address ≠ q.address) : TableApart (s.missQuery q) := by
  have hunknown : ¬ isBound .unknown := by simp [isBound, roleUnit]
  have hterminal : ¬ isBound .serviceTerminal := by simp [isBound, roleUnit]
  unfold State.missQuery
  split
  · exact table_learn h habsent hfree hunknown _ _ fun w u hu =>
      table_answerQuery (table_readsStations.post hu _) q _
  · exact table_learn h habsent hfree hunknown _ _ fun w u hu => table_answerQuery hu q _
  · split
    · exact ite_induct (fun _ => table_learn h habsent hfree hterminal _ _ fun w u hu =>
        table_answerQuery (table_readsStations.send hu _) q _) fun _ => table_answerQuery h q _
    · exact table_answerQuery h q _

theorem table_judgeQuery (h : TableApart s) (q : Query) : TableApart (s.judgeQuery q) := by
  unfold State.judgeQuery
  split
  · exact table_answerQuery h q _
  · rename_i hpasses
    have hfree : ∀ f ∈ s.sws.forgets, f.address ≠ q.address := not_forgetting (by
      simp only [Bool.or_eq_true, not_or, Bool.not_eq_true] at hpasses
      exact hpasses.2)
    split
    · rename_i w e hfound
      obtain ⟨hw, haddress⟩ := way_of_lookup hfound
      split
      · exact table_hitOwnPort h hw hfree haddress
      · exact table_hitOtherPort h q e
    · rename_i hnone
      exact table_missQuery h (absent_of_lookup h hnone) hfree

theorem table_dropForget (h : TableApart s) (a : Address) : TableApart (s.dropForget a) := by
  refine ⟨h.home, h.alone, h.bound, fun n w e he hadmitted f hf => ?_, ?_⟩
  · exact h.admitted n w e he hadmitted f (List.mem_of_mem_filter hf)
  · exact h.forgets.sublist (List.filter_sublist.map _)

/-- What FORGET_DONE and an expiry leave of a FLUSHING entry: nothing, or the entry not ADMITTED. -/
theorem table_endFlushing (h : TableApart s) (a : Address) {f : Station → Option Station}
    (hf : ∀ e x, f e = some x → (x.address, x.role) = (e.address, e.role) ∧ x.state ≠ .admitted) :
    TableApart (s.endFlushing a f) := by
  unfold State.endFlushing
  split
  · rename_i w e hfound
    split
    · cases hx : f e with
      | none => exact table_clearWay h _ _
      | some x => exact table_restate h (way_of_lookup hfound).1 (hf e x hx).1 fun hadmitted => absurd hadmitted (hf e x hx).2
    · exact h
  · exact h

theorem table_overWays (h : TableApart s) {f : Fin 16 → Fin 4 → Station → State → State}
    (hf : ∀ n w e u, TableApart u → u.way n w = some e → TableApart (f n w e u)) : TableApart (s.overWays f) := by
  refine foldl_induct (P := TableApart) (fun u p hu => ?_) _ h
  split
  · exact hf _ _ _ u hu ‹_›
  · exact hu

theorem strangerOn_state {e : Station} {p : PortIx} {state : StationState} (h : e.strangerOn p state = true) :
    e.state = state := by
  simp only [Station.strangerOn, Bool.and_eq_true, beq_iff_eq] at h
  exact h.2

/-- An ADMITTED entry becomes FLUSHING and is forgotten (R113). -/
theorem table_startFlushing (h : TableApart s) (hw : s.way n w = some e) (hadmitted : e.state = .admitted)
    (reason : ForgetReason) :
    TableApart ((s.setWay n w (some { e with state := .flushing })).sendForget e reason) :=
  table_forgetAdmitted h hw hadmitted (fun y hy => by cases hy; exact ⟨rfl, by simp⟩) reason

theorem table_changePolicy (h : TableApart s) (p : PortIx) (old new : Policy) :
    TableApart (s.changePolicy p old new) := by
  have hflush : TableApart (s.flushStrangers p) := table_overWays h fun n w e u hu hw =>
    ite_induct (fun hstranger => table_startFlushing hu hw (strangerOn_state hstranger) _) fun _ => hu
  have hflushed : TableApart (if old = .learn then s.flushStrangers p else s) :=
    ite_induct (fun _ => hflush) fun _ => h
  refine ite_induct (fun _ => h) fun _ => ite_induct (fun _ => ?_) fun _ => hflushed
  exact table_overWays hflushed fun n w e u hu _ => ite_induct (fun _ => table_clearWay hu n w) fun _ => hu

theorem mem_stations {n : Fin 16} {w : Fin 4} {e : Station} (hw : s.way n w = some e) : e ∈ s.sws.stations :=
  List.mem_filterMap.mpr ⟨(n, w), mem_allWays n w, hw⟩

/-- A bound role that no other address has. -/
theorem role_of_not_elsewhere {a : Address} {r : Role} (h : s.boundElsewhere a r = false) (hbound : isBound r)
    (hw : s.way n w = some e) (hrole : e.role = r) : e.address = a := by
  unfold State.boundElsewhere at h
  rw [hbound, Bool.true_and] at h
  have := List.any_eq_false.mp h e (mem_stations hw)
  simpa [hrole] using this

theorem table_pinNew (h : TableApart s) {a : Address} {r : Role} (habsent : ∀ m v x, s.way m v = some x → x.address ≠ a)
    (hfree : ∀ f ∈ s.sws.forgets, f.address ≠ a) (helsewhere : s.boundElsewhere a r = false) (p : PortIx) :
    TableApart (s.pinNew a p r) := by
  have hunbound : isBound (pinnedEntry a p r none).role →
      ∀ m v x, s.way m v = some x → x.role ≠ (pinnedEntry a p r none).role := fun hbound m v x hx hrole =>
    habsent m v x hx (role_of_not_elsewhere helsewhere hbound hx hrole)
  unfold State.pinNew
  dsimp only
  split
  · exact table_stationDone (table_place (e := pinnedEntry a p r none) h habsent hunbound hfree _)
  · rename_i hplace
    exact table_stationDone
      (table_placeOver (e := pinnedEntry a p r none) h habsent hunbound hfree (placeIn_replace hplace))
  · exact table_readsStations.answer rfl h _
  · exact table_readsStations.answer rfl h _

theorem table_pinOver (h : TableApart s) {a : Address} {r : Role} {old : Station} (hw : s.way (setOf a) w = some old)
    (haddress : old.address = a) (hfree : ∀ f ∈ s.sws.forgets, f.address ≠ a)
    (helsewhere : s.boundElsewhere a r = false) (p : PortIx) : TableApart (s.pinOver p r w old) := by
  subst haddress
  have hput : TableApart (s.setWay (setOf old.address) w (some (pinnedEntry old.address p r (some old)))) := by
    refine table_put h rfl (fun v x hv hx hsame => ?_) (fun hbound m v x hx hrole => ?_) fun _ => hfree
    · exact hv (h.alone _ w v old x hw hx hsame)
    · have hsame : x.address = old.address := role_of_not_elsewhere helsewhere hbound hx hrole
      obtain rfl : m = setOf old.address := (h.home m v x hx).symm.trans (by rw [hsame])
      exact ⟨rfl, h.alone _ w v old x hw hx hsame⟩
  exact table_stationDone (table_reportLeft hput old)

theorem table_flushOne (inScope : Station → Bool) (n : Fin 16) (w : Fin 4) {acc : State × Nat × Bool}
    (h : TableApart acc.1) : TableApart (flushOne inScope n w acc).1 := by
  obtain ⟨u, handled, stopped⟩ := acc
  unfold flushOne
  dsimp only
  split
  · exact h
  · rename_i e hw
    split
    · exact h
    · split
      · split
        · exact table_reportLeft (table_startFlushing h hw ‹_› _) e
        · exact h
      · exact table_clearWay h n w
      · exact table_clearWay h n w

theorem table_flush (h : TableApart s) (inScope : Station → Bool) : TableApart (s.flush inScope) := by
  refine table_readsStations.require rfl h _ _ fun _ => table_readsStations.answer rfl ?_ _
  unfold flushScope
  suffices ∀ (ways : List (Fin 16 × Fin 4)) (acc : State × Nat × Bool), TableApart acc.1 →
      TableApart (ways.foldl (fun acc p => flushOne inScope p.1 p.2 acc) acc).1 from this _ _ h
  intro ways
  induction ways with
  | nil => exact fun _ hacc => hacc
  | cons p ways ih => exact fun acc hacc => ih _ (table_flushOne inScope _ _ hacc)

/-! ## The stations through every command -/

theorem table_answer (s : State) : Maintains TableApart s (execAnswer s) := by
  refine table_readsStations.maintains_taken fun h => ?_
  split
  · exact h
  · exact table_judgeQuery (table_readsStations.of_keeps ((Keeps.refl [.queries] _).setQueries rfl _) rfl h) _

theorem table_forgetDone (a : Address) (s : State) : Maintains TableApart s (execForgetDone a s) := by
  refine table_readsStations.maintains_onSwitchLink fun h => ?_
  split
  · exact table_readsStations.of_keeps ((Keeps.refl [] _).countSwitch _) rfl h
  · have h1 := table_endFlushing (table_dropForget h a) a (f := fun _ => none) fun _ _ hx => by cases hx
    dsimp only
    split
    · exact table_readsStations.send h1 _
    · exact h1

theorem table_expireForget (h : TableApart s) (f : Forget) : TableApart (s.expireForget f) := by
  unfold State.expireForget
  extract_lets s1 s2
  have h0 : TableApart ((s.dropForget f.address).countSwitch .forgetsExpired) :=
    table_readsStations.of_keeps ((Keeps.refl [] _).countSwitch _) rfl (table_dropForget h f.address)
  have h1 : TableApart s1 := table_endFlushing h0 f.address fun e x hx => by cases hx; exact ⟨rfl, by simp⟩
  have h2 : TableApart s2 :=
    table_readsStations.of_keeps (((Keeps.refl [] s1).blockPort _).recomputeBindings.post _) rfl h1
  clear_value s2
  split
  · exact table_readsStations.send h2 _
  · exact h2

theorem table_forgetExpiry (a : Address) (s : State) : Maintains TableApart s (execForgetExpiry a s) := by
  refine table_readsStations.maintains_taken fun h => ?_
  split
  · exact ite_induct (fun _ => table_expireForget h _) fun _ => h
  · exact h

theorem terminalOf_state {e : Station} {id : Nat} (h : e.terminalOf id = true) : e.state = .admitted := by
  simp only [Station.terminalOf, Bool.and_eq_true, beq_iff_eq] at h
  exact h.1.2

theorem table_swsGrantClosingStart (id : Nat) (s : State) : Maintains TableApart s (execSwsGrantClosingStart id s) := by
  refine table_readsStations.maintains_taken fun h => table_readsStations.send (table_readsStations.send ?_ _) _
  refine table_overWays (table_readsStations.of_keeps ((Keeps.refl [] _).setService _ _) rfl h) fun n w e u hu hw => ?_
  exact ite_induct (fun hterminal => table_startFlushing hu hw (terminalOf_state hterminal) _) fun _ => hu

theorem table_portConfig (p policy warn alarm : Nat) (s : State) :
    Maintains TableApart s (execPortConfig p policy warn alarm s) := by
  refine table_readsStations.maintains_taken fun h => table_readsStations.withLevel rfl h _
    (table_readsStations.requireSome rfl h _ _ fun p _ => table_readsStations.requireSome rfl h _ _ fun new _ =>
      table_readsStations.require rfl h _ _ fun _ => ?_)
  dsimp only
  split
  · exact table_readsStations.answer rfl h _
  · exact table_readsStations.answer rfl (table_readsStations.of_keeps
      (((Keeps.refl [] _).configure _ (by rfl)).settleErrors _) rfl (table_changePolicy h _ _ _)) _

theorem table_stationPin (a : Address) (p role : Nat) (u : Option Nat) (s : State) :
    Maintains TableApart s (execStationPin a p role u s) := by
  refine table_readsStations.maintains_taken fun h => table_readsStations.withLevel rfl h _
    (table_readsStations.require rfl h _ _ fun _ => table_readsStations.requireSome rfl h _ _ fun p _ =>
      table_readsStations.requireSome rfl h _ _ fun r _ => ?_)
  generalize s.received _ = s at h ⊢
  split
  · exact table_readsStations.answer rfl h _
  · rename_i hforgetting
    have hfree : ∀ f ∈ s.sws.forgets, f.address ≠ a := not_forgetting (by simpa using hforgetting)
    split
    · rename_i w e hfound
      obtain ⟨hw, haddress⟩ := way_of_lookup hfound
      split
      · exact table_readsStations.answer rfl h _
      · rename_i hpinnable
        simp only [not_or, Bool.not_eq_true] at hpinnable
        exact table_pinOver h hw haddress hfree hpinnable.2.1 p
    · rename_i hnone
      split
      · exact table_readsStations.answer rfl h _
      · rename_i helsewhere
        exact table_pinNew h (absent_of_lookup h hnone) hfree (by simpa using helsewhere) p

theorem table_stationUnpin (a : Address) (s : State) : Maintains TableApart s (execStationUnpin a s) := by
  refine table_readsStations.maintains_taken fun h => table_readsStations.withLevel rfl h _ ?_
  split
  · exact table_readsStations.answer rfl h _
  · rename_i w e hfound
    refine ite_induct (fun _ => table_readsStations.answer rfl h _) fun _ => ite_induct (fun hadmitted => ?_) fun _ =>
      table_stationDone (table_clearWay h _ _)
    exact table_readsStations.require rfl h _ _ fun _ => table_stationDone
      (table_forgetAdmitted h (way_of_lookup hfound).1 hadmitted (fun _ hy => by cases hy) _)

theorem table_stationQuarantine (a : Address) (s : State) : Maintains TableApart s (execStationQuarantine a s) := by
  refine table_readsStations.maintains_taken fun h => table_readsStations.withLevel rfl h _ ?_
  split
  · exact table_readsStations.answer rfl h _
  · rename_i w e hfound
    refine ite_induct (fun _ => table_readsStations.answer rfl h _) fun _ => ite_induct (fun hadmitted => ?_) fun _ =>
      table_readsStations.answer rfl h _
    exact table_readsStations.require rfl h _ _ fun _ => table_stationDone (table_forgetAdmitted h
      (way_of_lookup hfound).1 hadmitted (fun y hy => by cases hy; exact ⟨rfl, by simp⟩) _)

theorem table_stationRelease (a : Address) (s : State) : Maintains TableApart s (execStationRelease a s) := by
  refine table_readsStations.maintains_taken fun h => table_readsStations.withLevel rfl h _ ?_
  generalize s.received _ = s at h ⊢
  split
  · exact table_readsStations.answer rfl h _
  · rename_i w e hfound
    obtain ⟨hw, haddress⟩ := way_of_lookup hfound
    refine ite_induct (fun _ => table_readsStations.answer rfl h _) fun _ => ite_induct (fun _ =>
      table_readsStations.answer rfl h _) fun _ => table_readsStations.require rfl h _ _ fun hfree => ?_
    have hnone : ∀ f ∈ s.sws.forgets, f.address ≠ e.address := by
      rw [haddress]
      exact not_forgetting (by simpa using hfree)
    exact table_stationDone (table_restate h hw (by rfl) fun _ => hnone)

theorem table_stationFlush (scope : FlushScope) (s : State) : Maintains TableApart s (execStationFlush scope s) := by
  refine table_readsStations.maintains_taken fun h => table_readsStations.withLevel rfl h _ ?_
  cases scope with
  | unknown _ => exact table_readsStations.answer rfl h _
  | all => exact table_flush h _
  | port n => exact table_readsStations.requireSome rfl h _ _ fun p _ => table_flush h _
  | address a =>
    dsimp only
    split
    · exact table_readsStations.answer rfl h _
    · exact ite_induct (fun _ => table_readsStations.answer rfl h _) fun _ => table_flush h _

/-- Every command that writes the station table or the forget list keeps them apart. -/
theorem exec_table {c : Instr} (h : TableApart s) (ht : exec c s = .next t) (hkeeps : Keeps (writes c) s t) :
    TableApart t := by
  have hother := table_readsStations.maintains_unwritten ht hkeeps
  refine (show Maintains TableApart s (exec c s) from ?_) h t ht
  cases c
  case answer => exact table_answer _
  case forgetDone => exact table_forgetDone _ _
  case forgetExpiry => exact table_forgetExpiry _ _
  case swsGrantClosingStart => exact table_swsGrantClosingStart _ _
  case portConfig => exact table_portConfig _ _ _ _ _
  case stationPin => exact table_stationPin _ _ _ _ _
  case stationUnpin => exact table_stationUnpin _ _
  case stationQuarantine => exact table_stationQuarantine _ _
  case stationRelease => exact table_stationRelease _ _
  case stationFlush => exact table_stationFlush _ _
  all_goals exact hother rfl

/-! ## The table at a restart (R201) -/

/-- Two pinned stations of an image are the same, or differ in address, in bound unit and in way. -/
def sameOrApart (e f : PinnedStation) : Prop :=
  e = f ∨ (e.address ≠ f.address ∧ ((roleUnit e.role).isSome = true → e.role ≠ f.role))

theorem sameOrApart_symm {e f : PinnedStation} (h : sameOrApart e f) : sameOrApart f e := by
  obtain rfl | ⟨haddress, hrole⟩ := h
  · exact .inl rfl
  · exact .inr ⟨haddress.symm, fun hbound hsame => hrole (hsame ▸ hbound) hsame.symm⟩

theorem pinned_apart : ∀ {l : List PinnedStation}, allApart l = true → ∀ e ∈ l, ∀ f ∈ l, sameOrApart e f := by
  intro l h e he f hf
  have hpairs : l.Pairwise fun e f => sameOrApart e f := by
    clear he hf
    induction l with
    | nil => exact List.Pairwise.nil
    | cons x rest ih =>
      obtain ⟨hfirst, hrest⟩ := Bool.and_eq_true_iff.mp h
      refine List.pairwise_cons.mpr ⟨fun y hy => .inr ?_, ih hrest⟩
      have hxy := List.all_eq_true.mp hfirst y hy
      simp only [pinnedApart, Bool.and_eq_true, bne_iff_ne, ne_eq, Bool.not_eq_true', Bool.and_eq_false_iff,
        beq_eq_false_iff_ne] at hxy
      exact ⟨hxy.1.1, fun hbound => hxy.1.2.resolve_left (by simp [hbound])⟩
  exact hpairs.forall_of_forall_of_flip (R := sameOrApart) (fun _ _ => .inl rfl) (hpairs.imp sameOrApart_symm) he hf

theorem tableOf_way {pinned : List PinnedStation} {n : Fin 16} {w : Fin 4} {e : Station}
    (h : (tableOf pinned)[n].ways[w] = some e) :
    ∃ p ∈ pinned, setOf p.address = n ∧ p.way = w ∧ e = stationOf p := by
  simp only [tableOf, Fin.getElem_fin, Vector.getElem_ofFn] at h
  obtain ⟨p, hp, rfl⟩ := Option.map_eq_some_iff.mp h
  have hfound := List.find?_some hp
  simp only [Bool.and_eq_true, beq_iff_eq] at hfound
  exact ⟨p, List.mem_of_find?_eq_some hp, hfound.1, hfound.2, rfl⟩

theorem table_of_pinned {pinned : List PinnedStation} (hpinned : allApart pinned = true)
    (htable : s.sws.table = tableOf pinned) (hforgets : s.sws.forgets = []) : TableApart s := by
  have hway : ∀ {n w e}, s.way n w = some e → ∃ p ∈ pinned, setOf p.address = n ∧ p.way = w ∧ e = stationOf p := by
    intro n w e he
    rw [State.way, State.stationSet, htable] at he
    exact tableOf_way he
  refine ⟨fun n w e he => ?_, fun n w v e x he hx hsame => ?_, fun n w m v e x he hx hbound hsame => ?_,
    fun n w e he _ f hf => absurd (hforgets ▸ hf) List.not_mem_nil, by simp [hforgets]⟩
  · obtain ⟨p, -, hset, -, rfl⟩ := hway he
    exact hset
  · obtain ⟨p, hp, -, rfl, rfl⟩ := hway he
    obtain ⟨q, hq, -, rfl, rfl⟩ := hway hx
    obtain rfl | ⟨haddress, -⟩ := pinned_apart hpinned q hq p hp
    · rfl
    · exact absurd hsame haddress
  · obtain ⟨p, hp, rfl, rfl, rfl⟩ := hway he
    obtain ⟨q, hq, rfl, rfl, rfl⟩ := hway hx
    obtain rfl | ⟨-, hrole⟩ := pinned_apart hpinned p hp q hq
    · exact ⟨rfl, rfl⟩
    · exact absurd hsame.symm (hrole hbound)

theorem table_of_restarted (h : Restarted s t) : TableApart t := by
  obtain ⟨clock, rfl⟩ | ⟨clock, rfl⟩ := h
  · exact table_of_pinned (imageLoaded_valid s.sst).2.2 rfl rfl
  · exact table_of_pinned (imageLoaded_valid s.sst).2.2 rfl rfl

theorem everyStepKeepsStationsAndForgetsApart : EveryStepKeepsStationsAndForgetsApart := fun s t h ht => by
  rw [stationsKept_iff] at h ⊢
  refine step_preserves (P := TableApart) (Q := TableApart) (fun _ _ h => table_readsStations.of_agree (by rfl) h)
    (fun _ s _ h ht => exec_preserves ht (exec_table h ht) table_of_restarted fun _ a b hcompleted =>
      hcompleted ▸ table_readsStations.of_keeps (completed_keeps a b s) rfl (table_readsStations.of_agree (by rfl) h))
    (fun s h => ?_) h ht
  obtain ⟨u, feed, htick, hkeeps, -⟩ := tick_eq s
  have hu : TableApart u := table_readsStations.of_keeps hkeeps rfl h
  rw [htick]
  exact table_readsStations.of_agree (by rfl) hu

end

/-- Settles O58: the tags by what the CTU does to each camera, the table by what each write of a way and each forget leaves. -/
theorem everyStepKeepsTagsAndStationsApart : Obligations.EveryStepKeepsTagsAndStationsApart :=
  ⟨everyStepKeepsTheTagsApart, everyStepKeepsStationsAndForgetsApart⟩

/-! ## The state at reset -/

/-- The state at reset is what a pin reset makes of it. -/
theorem reset_reboot : State.reset.reboot clockAfterPin .held = State.reset := by decide +kernel

/-- Settles O60: the state at reset is that of a restart, which holds every invariant. -/
theorem theResetStateHoldsTheInvariants : Obligations.TheResetStateHoldsTheInvariants := by
  have h : Restarted State.reset State.reset := .inl ⟨clockAfterPin, reset_reboot.symm⟩
  exact ⟨follows_of_restarted h, valves_of_restarted h, lineKept_of_restarted h, tags_of_restarted h,
    (stationsKept_iff _).mpr (table_of_restarted h), (listsFit_of_restarted h).1, (listsFit_of_restarted h).2, rfl, rfl,
    congrArg Host.Outcome.next reset_reboot⟩

end Sys2Proof.Invariants
end

section
/-!
SUPPORT. The bottle track (chapter 1): encoder changes, the infeed step, the verify step and the end of the gate pulse.
-/

namespace Sys2Proof.Track

open Sys2Proof Sys2Proof.Machine Sys2Proof.Safety Sys2Proof.Claims Sys2Proof.BottleTrack Sys2Proof.Invariants

/-! ## Instructions the unit takes while it runs -/

theorem exec_taken {c : Instr} {s t : State} {f : State → State} (h : running s) (x : State → Result)
    (hexec : exec c s = x s) (hx : x s = taken c s f) (ht : f (s.received c) = t) : exec c s = .next t := by
  rw [hexec, hx, taken_running h, ht]

theorem exec_takenOnSwitchLink {c : Instr} {s t : State} {f : State → State} (h : running s) (x : State → Result)
    (hexec : exec c s = x s) (hx : x s = takenOnSwitchLink c s f) (ht : f (s.received c) = t) : exec c s = .next t := by
  rw [hexec, hx, takenOnSwitchLink_awake (by simp [show s.phase = .running from h]), ht]

/-! ## Encoder changes (R2) -/

theorem stepIsForward_eq_forwardSense (d : CountDirection) (input : EncoderInput) (a b : Bool) :
    stepIsForward d input (a != b) = forwardSense d input a b := by
  cases d <;> cases input <;> cases a <;> cases b <;> rfl

theorem toggle_eq_afterChange (l : Ltr) (input : EncoderInput) : l.toggle input = afterChange l input := by
  cases input <;> rfl

theorem exec_stepEvent {s : State} (h : running s) (input : EncoderInput) :
    exec (.stepEvent input) s = .next (
      if forwardSense s.cfg.geometry.direction input (afterChange s.ltr input).refA (afterChange s.ltr input).refB then
        forwardStep (withLtr (s.received (.stepEvent input)) (afterChange s.ltr input))
      else backwardStep (withLtr (s.received (.stepEvent input)) (afterChange s.ltr input))) := by
  rw [← stepIsForward_eq_forwardSense, ← toggle_eq_afterChange]
  show execStepEvent input s = _
  rw [execStepEvent, taken_running h]
  rfl

theorem exec_encoderError {s : State} (h : running s) (hcount : s.ltr.counters[10] < 18446744073709551615) :
    exec .encoderError s = .next (withLtr (s.received .encoderError) { s.ltr with
      refA := !s.ltr.refA, refB := !s.ltr.refB, counters := s.ltr.counters.set 10 (s.ltr.counters[10] + 1) }) := by
  refine (taken_running h _ _ : execEncoderError s = _).trans (congrArg _ ?_)
  exact countLine_one (c := .encoderErrors) (s := (s.received .encoderError).setLtr ((s.ltr.toggle .a).toggle .b)) hcount

theorem startUpComplete_ltr {s : State} (h : s.phase = .starting) (a b : Bool) :
    ∃ t, exec (.startUpComplete a b) s = .next t ∧ t.ltr = { s.ltr with refA := a, refB := b } := by
  refine ⟨(begun a b s).raiseAtStart, if_pos h, ?_⟩
  have hraised : Keeps [.pml] (begun a b s) (begun a b s).raiseAtStart :=
    ((Keeps.refl [.pml] _).latchSource rfl _).trans (raiseAtStart_keeps _)
  exact hraised.agrees .ltr rfl

/-- Settles O1: the direction of a step by the signal that changed and the levels after it. -/
theorem encoderChangesAreStepsOrErrors : Obligations.EncoderChangesAreStepsOrErrors :=
  ⟨fun input _ h => exec_stepEvent h input, fun _ h hcount => exec_encoderError h hcount,
    fun _ h => ⟨if_neg h, fun _ => if_neg h⟩, fun a b _ h => startUpComplete_ltr h a b⟩

/-! ## The infeed step (R6 to R8) -/

theorem serialForNew_of_taken {l : Ltr} {serial : Nat} {next : Option Nat} (h : serialTaken l serial next)
    (hroom : l.track.length < 128) : serialForNew l = some serial ∧ serialAfter serial = next := by
  unfold serialForNew serialAfter
  rw [if_pos (show l.track.length < Config.trackCapacity from hroom)]
  obtain ⟨hnext, rfl⟩ | ⟨hnone, hempty, rfl, rfl⟩ := h
  · rw [hnext]
    exact ⟨rfl, rfl⟩
  · rw [hnone, hempty]
    exact ⟨rfl, rfl⟩

theorem setTrackFull_eq_sending (s : State) (full : Bool) :
    s.setTrackFull full = sending (withLtr s { s.ltr with trackFull := full }) (change .trackFull s.ltr.trackFull full) :=
  reportSource_eq_sending _ _ _ _

theorem makeRecord_eq {s : State} {serial : Nat} {next : Option Nat} (hnext : serialAfter serial = next)
    (hcount : counts s 0) :
    s.makeRecord serial = sending (withLtr s { s.ltr with
      track := s.ltr.track ++ [fresh s serial], nextSerial := next, counters := plusOne s 0, trackFull := false })
      (change .trackFull s.ltr.trackFull false
        ++ [.assignmentArbiter serial s.fmu.active s.ltr.pitch, .acuReport (.newRecord serial)]) := by
  subst hnext
  unfold State.makeRecord
  dsimp only
  rw [countLine_one (c := .recordsMade) (by exact hcount), setTrackFull_eq_sending]
  rw [← sending_sending]
  exact sending_sending _ [_] [_]

theorem infeedStep_makes {s : State} {serial : Nat} (hinfeed : s.inputs.infeed = true)
    (hserial : serialForNew s.ltr = some serial) : infeedStep s = s.makeRecord serial := by
  simp only [infeedStep, hinfeed, if_true, hserial]

theorem infeedStep_misses {s : State} (hinfeed : s.inputs.infeed = true) (hserial : serialForNew s.ltr = none) :
    infeedStep s = s.missInfeed := by
  simp only [infeedStep, hinfeed, if_true, hserial]

/-- Settles O4: the serial for a new record by the room in the track and the next serial, and the record or the miss by it. -/
theorem infeedMakesARecordOrCountsAMiss : Obligations.InfeedMakesARecordOrCountsAMiss := by
  intro s
  refine ⟨fun hinfeed => ?_, fun serial next hinfeed hroom htaken hcount => ?_, fun hinfeed hfull hcount => ?_,
    fun hinfeed hroom hrecords hexhausted hcount => ?_⟩
  · rw [infeedStep, if_neg (by simp [hinfeed])]
  · obtain ⟨hserial, hnext⟩ := serialForNew_of_taken htaken hroom
    rw [infeedStep_makes hinfeed hserial, makeRecord_eq hnext hcount]
  · have hnone : serialForNew s.ltr = none := if_neg (not_lt.mpr hfull)
    rw [infeedStep_misses hinfeed hnone, State.missInfeed,
      if_neg (show ¬ _ < Config.trackCapacity from not_lt.mpr hfull),
      countLine_one (c := .untrackedAtInfeed) hcount, setTrackFull_eq_sending]
    rfl
  · have hnone : serialForNew s.ltr = none := by
      simp [serialForNew, Config.trackCapacity, hroom, hexhausted, hrecords]
    rw [infeedStep_misses hinfeed hnone, State.missInfeed, if_pos (show _ < Config.trackCapacity from hroom)]
    exact countLine_one (c := .untrackedAtInfeed) hcount

/-! ## The verify step and the end of the gate pulse (R14, R17) -/

theorem markNewestFailed_append (older : List RejectEntry) (e : RejectEntry) :
    markNewestFailed (older ++ [e]) = older ++ [{ e with failed := true }] := by
  simp [markNewestFailed]

theorem verifyMarksAFailedReject : VerifyMarksAFailedReject := by
  refine fun s => ⟨fun hidle => ?_, fun v older e hverify hvfy hlog hcount => ?_⟩
  · unfold verifyStep
    rw [if_neg]
    obtain hnone | hlow := hidle
    · simp [hnone]
    · simp [hlow]
  · rw [verifyStep, if_pos (by simp [hverify, hvfy]), hlog, markNewestFailed_append,
      countLine_one (c := .rejectsFailed) (by exact hcount)]
    rfl

theorem gatePulseEndsAtItsTime : GatePulseEndsAtItsTime := by
  refine fun s h => ⟨fun t hend hdue => ?_, fun hwaits => ?_⟩ <;> refine exec_taken h execGatePulseExpiry rfl rfl ?_
  · dsimp only
    rw [show (s.received .gatePulseExpiry).ltr.gateEnd = some t from hend]
    exact if_pos hdue
  · dsimp only
    obtain hnone | ⟨t, hend, hlater⟩ := hwaits
    · rw [show (s.received .gatePulseExpiry).ltr.gateEnd = none from hnone]
    · rw [show (s.received .gatePulseExpiry).ltr.gateEnd = some t from hend]
      exact if_neg (not_le.mpr hlater)

/-- Settles O6: the verify step by GATE_VFY and the verify slot, the gate pulse by its end time. -/
theorem verifyAndTheEndOfTheGatePulse : Obligations.VerifyAndTheEndOfTheGatePulse :=
  ⟨verifyMarksAFailedReject, gatePulseEndsAtItsTime⟩

end Sys2Proof.Track
end

section
/-!
SUPPORT. How the shared axis operations of chapter 2 change the state, in the words of the obligations: dropping the
fills, coming to rest, the halt, beginning and slowing a move.
-/

namespace Sys2Proof.AxisMoves

open Sys2Proof Sys2Proof.Machine Sys2Proof.Safety Sys2Proof.Claims Sys2Proof.BottleTrack Sys2Proof.Track

variable (s : State) (k : AxisNo)

/-! ## One normal form: the axis is written last, after the reports and the notices -/

@[simp] theorem withAxis_eq_setAxis (a : Axis) : withAxis s k a = s.setAxis k a := rfl

@[simp] theorem sending_eq_sendAll (cs : List Instr) : sending s cs = s.sendAll cs := rfl

@[simp] theorem sendAll_of_setAxis (a : Axis) (cs : List Instr) : (s.setAxis k a).sendAll cs = (s.sendAll cs).setAxis k a := rfl

@[simp] theorem post_of_setAxis (a : Axis) (n : Notice) : (s.setAxis k a).post n = (s.post n).setAxis k a := rfl

@[simp] theorem sendAll_of_post (n : Notice) (cs : List Instr) : (s.post n).sendAll cs = (s.sendAll cs).post n := rfl

@[simp] theorem sendAll_of_sendAll (cs ds : List Instr) : (s.sendAll cs).sendAll ds = s.sendAll (cs ++ ds) :=
  sendAll_sendAll s cs ds

@[simp] theorem send_as_sendAll (c : Instr) : s.send c = s.sendAll [c] := rfl

/-! ## Dropping the fills, reporting rest (R25, R33) -/

theorem settleRetire_eq (a : Axis) :
    a.settleRetire = { a with retire := if a.assignments = [] ∧ a.retire = .draining then .retired else a.retire } := by
  unfold Axis.settleRetire
  by_cases h : a.retire = .draining ∧ a.assignments = []
  · rw [if_pos h, if_pos h.symm]
  · rw [if_neg h, if_neg (h ∘ And.symm)]

theorem droppedReports_eq (l : List Assignment) : droppedReports l = droppedAll l := by
  cases l <;> rfl

theorem releaseReports_eq (held : Option WatchNo) : releaseReports k held = releasing k held := by
  cases held <;> rfl

theorem dropFill_eq : s.dropFill k = sending (withAxis s k (emptied (s.axis k)))
    (droppedAll (s.axis k).assignments ++ releasing k (s.axis k).held) := by
  unfold State.dropFill
  dsimp only
  rw [settleRetire_eq, droppedReports_eq, releaseReports_eq]
  simp only [true_and]
  rfl

theorem reportRest_eq : s.reportRest k
    = sending s (if (s.axis k).duty = .manual then [.closingReport (.atRest k (s.axis k).motion)] else []) := by
  unfold State.reportRest
  cases (s.axis k).duty
  case manual => rfl
  case auto => exact (sendAll_nil s).symm

theorem notifyRest_eq (cause : EndCause) : s.notifyRest k cause = notifying s k (s.axis k) cause := by
  simp [State.notifyRest, notifying]

@[simp] theorem notifying_setAxis (x a : Axis) (cause : EndCause) : notifying (s.setAxis k x) k a cause = notifying s k a cause := by
  simp [notifying]

@[simp] theorem comesToRest_setAxis (x a : Axis) (m : Motion) (cause : EndCause) :
    comesToRest (s.setAxis k x) k a m cause = comesToRest s k a m cause := by
  simp [comesToRest]

theorem comeToRest_eq (m : Motion) (cause : EndCause) : s.comeToRest k m cause = comesToRest s k (s.axis k) m cause := by
  unfold State.comeToRest
  simp [notifyRest_eq, reportRest_eq]
  rfl

/-! ## The halt (R30, R31) -/

theorem inMotion_iff {a : Axis} : a.inMotion = true ↔ a.profile ≠ none := Option.isSome_iff_ne_none

theorem inMotion_eq_false {a : Axis} : a.inMotion = false ↔ a.profile = none := by
  rw [← Bool.not_eq_true, inMotion_iff, not_not]

theorem anyHalted_iff : s.anyHalted = true ↔ ∃ j : AxisNo, (s.axis j).motion = .halted := by
  simp only [State.anyHalted, List.any_eq_true, beq_iff_eq]
  exact ⟨fun ⟨j, _, hj⟩ => ⟨j, hj⟩, fun ⟨j, hj⟩ => ⟨j, mem_axisNos j, hj⟩⟩

theorem change_raises (src : FaultSource) {b : Bool} {P : Prop} [Decidable P] (h : b = true ↔ P) :
    change src b true = if P then [] else [.sourceActivation src] := by
  cases b
  · exact (if_neg fun hp => Bool.false_ne_true (h.mpr hp)).symm
  · exact (if_pos (h.mp rfl)).symm

theorem change_clears (src : FaultSource) {b : Bool} {P : Prop} [Decidable P] (h : b = true ↔ P) :
    change src true b = if P then [] else [.sourceDeactivation src] := by
  cases b
  · exact (if_neg fun hp => Bool.false_ne_true (h.mpr hp)).symm
  · exact (if_pos (h.mp rfl)).symm

theorem haltAxis_eq {s : State} {k : AxisNo} (h : (s.axis k).motion ≠ .halted) (cause : HaltCause) :
    s.haltAxis k cause = halts s k cause := by
  unfold State.haltAxis halts
  dsimp only
  rw [if_neg h, reportSource_eq_sending, change_raises .axisHalted (anyHalted_iff s), dropFill_eq]
  by_cases hmoving : (s.axis k).profile ≠ none
  · rw [if_pos (inMotion_iff.mpr hmoving), reportRest_eq]
    simp [hmoving]
    rfl
  · rw [if_neg (hmoving ∘ inMotion_iff.mp)]
    simp [hmoving]
    rfl

/-! ## Beginning and slowing a move (R29, R32) -/

theorem limitActive_eq : s.limitActive k = s.inputs.limit.getLsbD k := rfl

theorem unlessLimit_eq {s : State} {k : AxisNo} (h : (s.axis k).motion ≠ .halted) :
    (if s.limitActive k then s.haltAxis k .limit else s) = unlessLimit s k := by
  rw [haltAxis_eq h]
  rfl

theorem startMove_eq (a : Axis) (down : Bool) (count : Option Nat) (p : Profile) (flat : Bool) :
    a.startMove down count p flat = begun a down count p flat := by
  simp only [Axis.startMove, begun, Bool.or_eq_true, beq_iff_eq, apply_ite some]
  rfl

theorem beginMove_eq {s : State} {k : AxisNo} (h : (s.axis k).motion ≠ .halted) (down : Bool) (count : Option Nat) (p : Profile)
    (flat : Bool) : s.beginMove k down count p flat = unlessLimit (withAxis s k (begun (s.axis k) down count p flat)) k := by
  rw [← unlessLimit_eq (by simpa [begun] using h), ← startMove_eq]
  rfl

theorem beginSlowing_eq {s : State} {k : AxisNo} (h : (s.axis k).motion ≠ .halted) :
    s.beginSlowing k = unlessLimit (withAxis s k { slowing (s.axis k) with motion := (s.axis k).motion }) k := by
  rw [← unlessLimit_eq (by simpa using h)]
  rfl

theorem stoppedState_eq (a : Axis) : a.stoppedState = stoppedIn a := by
  unfold Axis.stoppedState stoppedIn
  cases a.position <;> rfl

theorem completeStop_eq : s.completeStop k = comesToRest s k (s.axis k) (stoppedIn (s.axis k)) .stopped := by
  rw [State.completeStop, comeToRest_eq, stoppedState_eq]

theorem stopSlowly_eq : s.stopSlowly k = if (s.axis k).needed = 0
    then comesToRest s k (s.axis k) (stoppedIn (s.axis k)) .stopped
    else unlessLimit (withAxis s k (slowing (s.axis k))) k := by
  unfold State.stopSlowly
  rw [completeStop_eq, beginSlowing_eq (by simp)]
  simp
  rfl

theorem stopAtOnce_eq : s.stopAtOnce k = comesToRest s k { s.axis k with position := none } .unhomed .stopped := by
  rw [State.stopAtOnce, comeToRest_eq]
  simp

theorem endValveTest_eq : s.endValveTest k = withAxis s k { s.axis k with
    valve := if (s.axis k).valveTestEnd = none then (s.axis k).valve else false, valveTestEnd := none } := by
  unfold State.endValveTest
  cases h : (s.axis k).valveTestEnd
  · have hsame : ({ s.axis k with valveTestEnd := none } : Axis) = s.axis k := by rw [← h]
    simp [h, hsame]
  · simp [h]

end Sys2Proof.AxisMoves
end

section
/-!
SUPPORT. Halts and their causes (R30, R31).
-/

namespace Sys2Proof.AxisMoves

open Sys2Proof Sys2Proof.Machine Sys2Proof.Safety Sys2Proof.Claims Sys2Proof.BottleTrack Sys2Proof.Track

theorem exec_limitActive {s : State} (h : running s) (k : AxisNo) :
    exec (.limitActive k) s = .next (
      let r := { s.received (.limitActive k) with inputs := { s.inputs with limit := s.inputs.limit ||| (1#8 <<< k.val) } }
      if (s.axis k).inMotion then r.haltAxis k .limit else r) :=
  exec_taken h (execLimitActive k) rfl rfl rfl

theorem exec_homingTravelExhausted {s : State} (h : running s) (k : AxisNo) :
    exec (.homingTravelExhausted k) s = .next (
      if (s.axis k).motion = .homing ∧ (s.axis k).remaining = some 0
      then (s.received (.homingTravelExhausted k)).haltAxis k .homeNotFound else s.received (.homingTravelExhausted k)) := by
  refine exec_taken h (execHomingTravelExhausted k) rfl rfl ?_
  simp only [Bool.and_eq_true, beq_iff_eq]
  rfl

theorem exec_driveBindingChange {s : State} (h : running s) (k : AxisNo) (b : UpDown) :
    exec (.driveBindingChange k b) s = .next (
      let r := withAxis (s.received (.driveBindingChange k b)) k { s.axis k with binding := b }
      if (s.axis k).binding = .up ∧ b = .down then r.haltAxis k .driveOffline else r) :=
  exec_taken h (execDriveBindingChange k b) rfl rfl rfl

/-- Settles O7: the halt's effect by the axis's motion, and which of its four causes reach it. -/
theorem haltsAndTheirCauses : Obligations.HaltsAndTheirCauses := by
  refine ⟨fun k cause s => ⟨fun h => haltAxis_halted h cause, fun h => haltAxis_eq h cause⟩, fun k s h => ?limit,
    fun k s h hhoming hnone => ?home, fun k s h => ⟨fun hup hhalted => ?lost, fun hkept => ?kept⟩, fun k s h => ?back⟩
  case limit =>
    refine ⟨fun hrest => (exec_limitActive h k).trans (congrArg _ ?_),
      fun hmoving hhalted => (exec_limitActive h k).trans (congrArg _ ?_)⟩
    · exact if_neg (by simp [inMotion_eq_false.mpr hrest])
    · exact (if_pos (inMotion_iff.mpr hmoving)).trans (haltAxis_eq (by exact hhalted) .limit)
  case home =>
    refine (exec_homingTravelExhausted h k).trans (congrArg _ ((if_pos ⟨hhoming, hnone⟩).trans ?_))
    exact haltAxis_eq (by simp [show ((s.received _).axis k).motion = .homing from hhoming]) .homeNotFound
  case lost =>
    refine (exec_driveBindingChange h k .down).trans (congrArg _ ((if_pos ⟨hup, rfl⟩).trans ?_))
    exact haltAxis_eq (by simpa using hhalted) .driveOffline
  case kept =>
    refine (exec_driveBindingChange h k .down).trans (congrArg _ ?_)
    obtain hdown | hhalted := hkept
    · exact if_neg (by simp [hdown])
    · exact (ite_congr rfl (fun _ => haltAxis_halted (by simpa using hhalted) .driveOffline) fun _ => rfl).trans (ite_self _)
  case back => exact (exec_driveBindingChange h k .up).trans (congrArg _ (if_neg (by simp)))

end Sys2Proof.AxisMoves
end

section
/-!
SUPPORT. The members of home, clear halt and stop (R29, R32, R33).
-/

namespace Sys2Proof.AxisMoves

open Sys2Proof Sys2Proof.Machine Sys2Proof.Safety Sys2Proof.Claims Sys2Proof.BottleTrack Sys2Proof.Track

section
variable {s : State} {k : AxisNo}

/-! ## Home (R29) -/

theorem homeMember_state (h : (s.axis k).binding = .down ∨ (s.axis k).motion = .halted) :
    homeMember k s = (s, .refused .state) := by
  unfold homeMember
  dsimp only
  by_cases hdown : (s.axis k).binding = .down
  · exact if_pos hdown
  · rw [if_neg hdown, h.resolve_left hdown]

theorem homeMember_busy (hup : (s.axis k).binding = .up)
    (hfree : ¬ ((s.axis k).motion = .unhomed ∨ (s.axis k).motion = .idle ∨ (s.axis k).motion = .stopped))
    (hhalted : (s.axis k).motion ≠ .halted) : homeMember k s = (s, .refused .busy) := by
  unfold homeMember
  dsimp only
  rw [if_neg (by simp [hup])]
  split <;> simp_all

theorem homeMember_free (hup : (s.axis k).binding = .up)
    (hfree : (s.axis k).motion = .unhomed ∨ (s.axis k).motion = .idle ∨ (s.axis k).motion = .stopped) :
    homeMember k s = if (s.axis k).valveTestEnd.isSome then (s, .refused .busy)
      else if s.homeActive k then
        ((s.setAxis k { s.axis k with position := some 0, motion := .idle }).post (.homeDone k), .ok)
      else (s.beginHoming k, .accepted) := by
  unfold homeMember
  dsimp only
  rw [if_neg (by simp [hup])]
  obtain h | h | h := hfree <;> rw [h]

theorem beginHoming_eq (s : State) (k : AxisNo) :
    s.beginHoming k = unlessLimit (sending (withAxis s k (begun
        { s.axis k with motion := .homing, position := none, notify := true } false (some s.cfg.axes[k].homingLimit)
        s.cfg.axes[k].manual true))
      (if (s.axis k).duty = .manual then [.closingReport (.homingStarted k)] else [])) k := by
  unfold State.beginHoming
  dsimp only
  cases (s.axis k).duty <;> dsimp only <;> rw [beginMove_eq (by simp)] <;> simp

/-! ## Clear halt (R31) -/

theorem clearHaltMember_state (h : (s.axis k).motion ≠ .halted ∨ s.inputs.limit.getLsbD k = true ∨ (s.axis k).binding = .down) :
    clearHaltMember k s = (s, .refused .state) := by
  unfold clearHaltMember
  dsimp only
  by_cases hhalted : (s.axis k).motion ≠ .halted
  · exact if_pos hhalted
  · rw [if_neg hhalted]
    exact if_pos (h.resolve_left hhalted)

theorem anyHalted_setAxis (s : State) (k : AxisNo) {a : Axis} (ha : a.motion ≠ .halted) :
    (s.setAxis k a).anyHalted = true ↔ ∃ j : AxisNo, j ≠ k ∧ (s.axis j).motion = .halted := by
  rw [anyHalted_iff]
  refine exists_congr fun j => ?_
  by_cases hj : j = k
  · subst hj
    simp [ha]
  · simp [setAxis_axis_ne hj, hj]

theorem clearHaltMember_clears (hhalted : (s.axis k).motion = .halted) (hlimit : s.inputs.limit.getLsbD k = false)
    (hup : (s.axis k).binding = .up) :
    clearHaltMember k s = (sending (withAxis s k { s.axis k with motion := .unhomed, haltCause := none })
      (if ∃ j : AxisNo, j ≠ k ∧ (s.axis j).motion = .halted then [] else [.sourceDeactivation .axisHalted]), .ok) := by
  unfold clearHaltMember
  dsimp only
  rw [if_neg (not_not.mpr hhalted), limitActive_eq, hlimit, if_neg (by simp [hup]), reportSource_eq_sending,
    change_clears .axisHalted (anyHalted_setAxis s k (by simp))]
  rfl

theorem homeAndClearHaltMembers : HomeAndClearHaltMembers := by
  refine fun k s => ⟨homeMember_state, homeMember_busy, fun hup hfree htest => ?_, fun hup hfree htest hhome => ?_,
    fun hup hfree htest hhome => ?_, clearHaltMember_state, clearHaltMember_clears⟩ <;> rw [homeMember_free hup hfree]
  · exact if_pos (Option.isSome_iff_ne_none.mpr htest)
  · exact (if_neg (by simp [htest])).trans (if_pos hhome)
  · rw [beginHoming_eq]
    exact (if_neg (by simp [htest])).trans (if_neg (by rw [State.homeActive, hhome]; decide))

/-! ## Stop (R33) -/

/-- What stop adds after its effect: the rest notice of an axis that does not move. -/
def finished (k : AxisNo) (t : State) : State := if (t.axis k).inMotion then t else t.notifyRest k .stopped

theorem finished_moving {t : State} (h : (t.axis k).profile ≠ none) : finished k t = t := if_pos (inMotion_iff.mpr h)

theorem finished_resting {t : State} (h : ¬ (t.axis k).profile ≠ none) : finished k t = notifying t k (t.axis k) .stopped := by
  rw [← notifyRest_eq]
  exact if_neg (h ∘ inMotion_iff.mp)

theorem finished_notified {t : State} (h : (t.axis k).notify = false) : finished k t = t := by
  by_cases hmoving : (t.axis k).profile ≠ none
  · exact finished_moving hmoving
  · rw [finished_resting hmoving]
    simp [notifying, h]

theorem comesToRest_notify (s : State) (k : AxisNo) (a : Axis) (m : Motion) (cause : EndCause) :
    ((comesToRest s k a m cause).axis k).notify = false := by
  unfold comesToRest notifying
  split
  · simp
  next h => simpa using h

theorem finished_comesToRest (s : State) (k : AxisNo) (a : Axis) (m : Motion) (cause : EndCause) :
    finished k (comesToRest s k a m cause) = comesToRest s k a m cause := finished_notified (comesToRest_notify s k a m cause)

theorem finished_unlessLimit {t : State} (h : (t.axis k).profile ≠ none) : finished k (unlessLimit t k) = unlessLimit t k := by
  unfold unlessLimit
  split
  · exact finished_notified (by simp [halts])
  · exact finished_moving h

theorem stopMember_eq (mode : StopMode) (notify : Bool) (k : AxisNo) (s : State) :
    stopMember mode notify k s = (finished k (stopEffect mode k (withAxis s k (stopAsked (s.axis k) notify))).1,
      (stopEffect mode k (withAxis s k (stopAsked (s.axis k) notify))).2) := by
  unfold stopMember
  dsimp only
  rw [endValveTest_eq]
  simp only [withAxis_eq_setAxis, setAxis_axis_self, setAxis_setAxis]
  rfl

/-- The stop of an axis that does not move and has fills: it drops them and stands. -/
def standing (s : State) (k : AxisNo) : State := (s.dropFill k).setAxis k { (s.dropFill k).axis k with motion := .stopped }

theorem stopEffect_standing (mode : StopMode) (h : (s.axis k).motion = .unhomed ∨ (s.axis k).motion = .stopped
    ∨ (s.axis k).motion = .halted) : stopEffect mode k s = (s, .ok) := by
  unfold stopEffect
  obtain h | h | h := h <;> dsimp only <;> rw [h]

theorem stopEffect_idle (mode : StopMode) (h : (s.axis k).motion = .idle) :
    stopEffect mode k s = (s.setAxis k { s.axis k with motion := .stopped }, .ok) := by
  unfold stopEffect
  dsimp only
  rw [h]

theorem stopEffect_resting (mode : StopMode) (hmotion : (s.axis k).motion = .armed ∨ (s.axis k).motion = .lowering
    ∨ (s.axis k).motion = .raising) (hrest : ¬ (s.axis k).profile ≠ none) : stopEffect mode k s = (standing s k, .ok) := by
  have hstill : (!(s.axis k).inMotion) = true := by simp [inMotion_eq_false.mpr (not_not.mp hrest)]
  unfold stopEffect
  obtain h | h | h := hmotion <;> dsimp only <;> rw [h] <;> cases mode <;> dsimp only
  case inl.decelerate | inl.immediate => rfl
  all_goals exact if_pos hstill

theorem stopEffect_filling (mode : StopMode) (h : (s.axis k).motion = .filling) :
    stopEffect mode k s = (standing (s.setAxis k { s.axis k with valve := false }) k, .ok) := by
  unfold stopEffect
  dsimp only
  rw [h]
  rfl

theorem stopEffect_segment (hmotion : (s.axis k).motion = .lowering ∨ (s.axis k).motion = .raising)
    (hmoving : (s.axis k).profile ≠ none)
    (hclosing : ¬ ((s.axis k).motion = .lowering ∧ ∃ f, (s.axis k).fill = some f ∧ f.closing = true)) :
    stopEffect .decelerate k s = ((s.dropFill k).stopSlowly k, .accepted) := by
  have hstill : ¬ (!(s.axis k).inMotion) = true := by simp [inMotion_iff.mpr hmoving]
  have hopen : ¬ ((s.axis k).motion == .lowering && (s.axis k).fill.any (·.closing)) = true := by
    simpa [Option.any_eq_true] using hclosing
  unfold stopEffect
  obtain h | h := hmotion <;> dsimp only <;> rw [h] at hopen ⊢ <;> exact (if_neg hstill).trans (if_neg hopen)

theorem stopEffect_closing (hmotion : (s.axis k).motion = .lowering) (hmoving : (s.axis k).profile ≠ none)
    (hclosing : ∃ f, (s.axis k).fill = some f ∧ f.closing = true) :
    stopEffect .decelerate k s
      = ((s.dropFill k).setAxis k { (s.dropFill k).axis k with motion := .stopping }, .accepted) := by
  have hstill : ¬ (!(s.axis k).inMotion) = true := by simp [inMotion_iff.mpr hmoving]
  have hclosed : (Motion.lowering == .lowering && (s.axis k).fill.any (·.closing)) = true := by
    simpa [Option.any_eq_true] using hclosing
  unfold stopEffect
  dsimp only
  rw [hmotion]
  exact (if_neg hstill).trans (if_pos hclosed)

theorem stopEffect_segment_at_once (hmotion : (s.axis k).motion = .lowering ∨ (s.axis k).motion = .raising)
    (hmoving : (s.axis k).profile ≠ none) : stopEffect .immediate k s = ((s.dropFill k).stopAtOnce k, .ok) := by
  have hstill : ¬ (!(s.axis k).inMotion) = true := by simp [inMotion_iff.mpr hmoving]
  unfold stopEffect
  obtain h | h := hmotion <;> dsimp only <;> rw [h] <;> exact if_neg hstill

theorem stopEffect_manual (hmotion : (s.axis k).motion = .homing ∨ (s.axis k).motion = .moving) :
    stopEffect .decelerate k s = (s.stopSlowly k, if (s.axis k).needed = 0 then .ok else .accepted) := by
  unfold stopEffect
  obtain h | h := hmotion <;> dsimp only <;> rw [h]

theorem stopEffect_at_once (hmotion : ((s.axis k).motion = .homing ∨ (s.axis k).motion = .moving) ∨ (s.axis k).motion = .stopping) :
    stopEffect .immediate k s = (s.stopAtOnce k, .ok) := by
  unfold stopEffect
  obtain (h | h) | h := hmotion <;> dsimp only <;> rw [h]

theorem stopEffect_stopping (hmotion : (s.axis k).motion = .stopping) : stopEffect .decelerate k s = (s, .accepted) := by
  unfold stopEffect
  dsimp only
  rw [hmotion]

theorem dropFill_setAxis (s : State) (k : AxisNo) (b : Axis) :
    (s.setAxis k b).dropFill k = (s.sendAll (droppedAll b.assignments ++ releasing k b.held)).setAxis k (emptied b) := by
  simp [dropFill_eq]

theorem finished_standing {b : Axis} (h : ¬ b.profile ≠ none) (s : State) (k : AxisNo) :
    finished k (standing (s.setAxis k b) k)
      = notifying (s.sendAll (droppedAll b.assignments ++ releasing k b.held)) k { emptied b with motion := .stopped } .stopped := by
  rw [finished_resting (by simpa [standing, dropFill_setAxis, emptied] using h)]
  simp [standing, dropFill_setAxis]

theorem stopSlowly_setAxis_slows {b : Axis} (h : 0 < b.needed) (s : State) (k : AxisNo) :
    (s.setAxis k b).stopSlowly k = unlessLimit (s.setAxis k (slowing b)) k := by
  rw [stopSlowly_eq, if_neg (by simpa using h.ne')]
  simp

theorem stopSlowly_setAxis_rests {b : Axis} (h : b.needed = 0) (s : State) (k : AxisNo) :
    (s.setAxis k b).stopSlowly k = comesToRest s k b (stoppedIn b) .stopped := by
  rw [stopSlowly_eq, if_pos (by simpa using h)]
  simp

theorem stopAtOnce_setAxis (s : State) (k : AxisNo) (b : Axis) :
    (s.setAxis k b).stopAtOnce k = comesToRest s k { b with position := none } .unhomed .stopped := by
  simp [stopAtOnce_eq]

theorem axisStopMembers : AxisStopMembers := by
  intro k mode notify s
  have hu : (withAxis s k (stopAsked (s.axis k) notify)).axis k = stopAsked (s.axis k) notify := by simp
  refine ⟨fun hm hrest => ?_, fun hm hrest => ?_, fun hm hrest => ?_, fun hm hrest => ?_,
    fun hm hmoving hclosing hneeded => ?_, fun hm hmoving hclosing hneeded => ?_, fun hclosing hmoving => ?_,
    fun hm hmoving => ?_, fun hm hmoving hneeded => ?_, fun hm hmoving hneeded => ?_, fun hm => ?_,
    fun hm hmoving => ?_⟩ <;> rw [stopMember_eq]
  · rw [stopEffect_standing mode (by rw [hu]; exact hm), finished_resting (by rw [hu]; exact hrest)]
    simp
  · rw [stopEffect_idle mode (by rw [hu]; exact hm), finished_resting (by simpa [stopAsked] using hrest)]
    simp
  · rw [stopEffect_resting mode (by rw [hu]; exact hm) (by rw [hu]; exact hrest)]
    exact congrArg (·, _) (finished_standing (by exact hrest) s k)
  · rw [stopEffect_filling mode (by rw [hu]; exact hm)]
    simp only [withAxis_eq_setAxis, setAxis_axis_self, setAxis_setAxis]
    exact congrArg (·, _) (finished_standing (by exact hrest) s k)
  · rw [stopEffect_segment (by rw [hu]; exact hm) (by rw [hu]; exact hmoving) (by rw [hu]; exact hclosing),
      withAxis_eq_setAxis, dropFill_setAxis, stopSlowly_setAxis_slows (by exact hneeded)]
    exact congrArg (·, _) (finished_unlessLimit (by simpa [slowing, emptied, stopAsked] using hmoving))
  · rw [stopEffect_segment (by rw [hu]; exact hm) (by rw [hu]; exact hmoving) (by rw [hu]; exact hclosing),
      withAxis_eq_setAxis, dropFill_setAxis, stopSlowly_setAxis_rests (by exact hneeded)]
    exact congrArg (·, _) (finished_comesToRest _ _ _ _ _)
  · obtain ⟨hm, hclosing⟩ := hclosing
    rw [stopEffect_closing (by rw [hu]; exact hm) (by rw [hu]; exact hmoving) (by rw [hu]; exact hclosing),
      withAxis_eq_setAxis, dropFill_setAxis, finished_moving (by simpa [emptied, stopAsked] using hmoving)]
    simp
    rfl
  · rw [stopEffect_segment_at_once (by rw [hu]; exact hm) (by rw [hu]; exact hmoving), withAxis_eq_setAxis, dropFill_setAxis,
      stopAtOnce_setAxis]
    exact congrArg (·, _) (finished_comesToRest _ _ _ _ _)
  · rw [stopEffect_manual (by rw [hu]; exact hm), withAxis_eq_setAxis, stopSlowly_setAxis_slows (by exact hneeded),
      setAxis_axis_self, if_neg (show ¬ (stopAsked (s.axis k) notify).needed = 0 from hneeded.ne')]
    exact congrArg (·, _) (finished_unlessLimit (by simpa [slowing, emptied, stopAsked] using hmoving))
  · rw [stopEffect_manual (by rw [hu]; exact hm), withAxis_eq_setAxis, stopSlowly_setAxis_rests (by exact hneeded),
      setAxis_axis_self, if_pos (show (stopAsked (s.axis k) notify).needed = 0 from hneeded)]
    exact congrArg (·, _) (finished_comesToRest _ _ _ _ _)
  · rw [stopEffect_at_once (by rw [hu]; exact hm), withAxis_eq_setAxis, stopAtOnce_setAxis]
    exact congrArg (·, _) (finished_comesToRest _ _ _ _ _)
  · rw [stopEffect_stopping (by rw [hu]; exact hm), finished_moving (by rw [hu]; exact hmoving)]

end

/-- Settles O8: the members of home, clear halt and stop, case by case. -/
theorem homeClearHaltAndStopMembers : Obligations.HomeClearHaltAndStopMembers :=
  ⟨homeAndClearHaltMembers, axisStopMembers⟩

end Sys2Proof.AxisMoves
end

section
/-!
SUPPORT. The manual members and the requests over a set of axes (R34 to R38, 3.2).
-/

namespace Sys2Proof.AxisMoves

open Sys2Proof Sys2Proof.Machine Sys2Proof.Safety Sys2Proof.Claims Sys2Proof.BottleTrack Sys2Proof.Track

/-! ## The check of a manual member -/

theorem manualCheck_eq (a : Axis) (unhomedAllowed : Bool) :
    manualCheck a unhomedAllowed =
      if a.duty = .auto ∨ a.binding = .down ∨ a.motion = .halted ∨ (a.motion = .unhomed ∧ unhomedAllowed = false)
      then some .state
      else if a.motion ∉ [Motion.unhomed, .idle, .stopped, .halted] ∨ a.valveTestEnd ≠ none then some .busy else none := by
  unfold manualCheck
  by_cases hduty : a.duty = .auto
  · simp [hduty]
  by_cases hbinding : a.binding = .down
  · simp [hbinding]
  rw [if_neg hduty, if_neg hbinding]
  cases a.motion <;> cases unhomedAllowed <;> simp [hduty, hbinding, Option.isSome_iff_ne_none]

theorem manualCheck_of_manualBar {a : Axis} {unhomedAllowed : Bool} {r : Option Reason} (h : manualBar a unhomedAllowed r) :
    manualCheck a unhomedAllowed = r := by
  rw [manualCheck_eq]
  obtain ⟨hstate, rfl⟩ | ⟨hstate, hbusy, rfl⟩ | ⟨hstate, hbusy, rfl⟩ := h
  · exact if_pos hstate
  · rw [if_neg hstate]
    exact if_pos hbusy
  · rw [if_neg hstate]
    exact if_neg hbusy

section
variable {s : State} {k : AxisNo}

theorem beginManual_eq (s : State) (k : AxisNo) (down : Bool) (count : Option Nat) (flat : Bool) :
    s.beginManual k down count flat = unlessLimit (withAxis s k
      (begun { s.axis k with motion := .moving, notify := true } down count s.cfg.axes[k].manual flat)) k := by
  unfold State.beginManual
  rw [beginMove_eq (by simp)]
  simp

/-! ## Move, jog, valve, duty (R34 to R37) -/

theorem moveMember_refused {target : Int} {r : Reason} (hlow : -8388608 ≤ target) (hhigh : target ≤ 8388607)
    (h : manualBar (s.axis k) false (some r)) : moveMember target k s = (s, .refused r) := by
  unfold moveMember
  dsimp only
  rw [if_neg (by simp only [positionLow, positionHigh]; omega), manualCheck_of_manualBar h]

theorem moveMember_free {target : Int} (hlow : -8388608 ≤ target) (hhigh : target ≤ 8388607)
    (h : manualBar (s.axis k) false none) :
    moveMember target k s = if target = (s.axis k).position.getD 0
      then ((s.setAxis k { s.axis k with notify := true }).notifyRest k .complete, .ok)
      else (s.beginManual k (decide ((s.axis k).position.getD 0 < target))
        (some (target - (s.axis k).position.getD 0).natAbs) false, .accepted) := by
  unfold moveMember
  dsimp only
  rw [if_neg (by simp only [positionLow, positionHigh]; omega), manualCheck_of_manualBar h]

theorem jogDistance_eq_zero {down : Bool} {x : Int} (hlow : -8388608 ≤ x) (hhigh : x ≤ 8388607) :
    jogDistance down x = 0 ↔ x = if down then 8388607 else -8388608 := by
  unfold jogDistance positionLow positionHigh
  cases down <;> simp only [if_true, if_false, Bool.false_eq_true] <;> omega

theorem jogDistance_eq (down : Bool) (x : Int) :
    jogDistance down x = (if down then 8388607 - x else x + 8388608).toNat := by
  cases down <;> rfl

theorem jogMember_refused {down : Bool} {r : Reason} (h : manualBar (s.axis k) true (some r)) :
    jogMember down k s = (s, .refused r) := by
  unfold jogMember
  dsimp only
  rw [manualCheck_of_manualBar h]

theorem jogMember_placed {down : Bool} {x : Int} (h : manualBar (s.axis k) true none) (hx : (s.axis k).position = some x) :
    jogMember down k s = if jogDistance down x = 0 then (s, .refused .state)
      else (s.beginManual k down (some (jogDistance down x)) true, .accepted) := by
  unfold jogMember
  dsimp only
  rw [manualCheck_of_manualBar h, hx]

theorem jogMember_unplaced {down : Bool} (h : manualBar (s.axis k) true none) (hx : (s.axis k).position = none) :
    jogMember down k s = (s.beginManual k down none true, .accepted) := by
  unfold jogMember
  dsimp only
  rw [manualCheck_of_manualBar h, hx]

theorem dutyMember_manual (h : (s.axis k).duty = .auto) : dutyMember .manual k s =
    if (s.axis k).assignments = [] ∧ (s.axis k).profile = none ∧ (s.axis k).motion ≠ .filling
    then (s.setAxis k { s.axis k with duty := .manual }, .ok) else (s, .refused .state) := by
  unfold dutyMember
  dsimp only
  rw [h]
  refine if_congr ?_ rfl rfl
  simp [inMotion_eq_false, and_assoc]

theorem dutyMember_auto (h : (s.axis k).duty = .manual) : dutyMember .auto k s =
    if (s.axis k).profile ≠ none ∨ (s.axis k).valveTestEnd ≠ none then (s, .refused .busy)
    else (s.setAxis k (s.axis k).toAuto, .ok) := by
  unfold dutyMember
  dsimp only
  rw [h]
  refine if_congr ?_ rfl rfl
  simp [inMotion_iff, Option.isSome_iff_ne_none]

theorem dutyMember_same (d : Duty) (h : (s.axis k).duty = d) : dutyMember d k s = (s, .ok) := by
  unfold dutyMember
  dsimp only
  rw [h]
  cases d <;> rfl

end

/-- Settles O9: the manual members by the check of the axis. -/
theorem manualMembers : Obligations.ManualMembers := by
  refine fun k s => ⟨fun target hbad => ?_, fun target r hlow hhigh hbar => ?_, fun target hlow hhigh hbar hthere => ?_,
    fun target x hlow hhigh hbar hx hne => ?_, fun down r hbar => ?_, fun down x hbar hx hlow hhigh hend => ?_,
    fun down x hbar hx hlow hhigh hend => ?_, fun down hbar hx => ?_, fun ms r hbar => ?_, fun ms hbar => ?_,
    fun d h => dutyMember_same d h, fun hauto hempty hrest hfill => ?_, fun hauto hheld => ?_, fun hmanual hheld => ?_,
    fun hmanual hrest htest => ?_⟩
  · exact if_pos hbad
  · exact moveMember_refused hlow hhigh hbar
  · rw [moveMember_free hlow hhigh hbar, show (s.axis k).position.getD 0 = target by rw [hthere]; rfl, notifyRest_eq]
    simp
  · rw [moveMember_free hlow hhigh hbar, show (s.axis k).position.getD 0 = x by rw [hx]; rfl, beginManual_eq]
    exact if_neg hne.symm
  · exact jogMember_refused hbar
  · rw [jogMember_placed hbar hx]
    exact if_pos ((jogDistance_eq_zero hlow hhigh).mpr hend)
  · rw [jogMember_placed hbar hx, ← jogDistance_eq, beginManual_eq]
    exact if_neg (hend ∘ (jogDistance_eq_zero hlow hhigh).mp)
  · rw [jogMember_unplaced hbar hx, beginManual_eq]
  · unfold valveMember
    dsimp only
    rw [manualCheck_of_manualBar hbar]
  · unfold valveMember
    dsimp only
    rw [manualCheck_of_manualBar hbar]
    rfl
  · rw [dutyMember_manual hauto]
    exact if_pos ⟨hempty, hrest, hfill⟩
  · rw [dutyMember_manual hauto]
    refine if_neg fun ⟨hempty, hrest, hfill⟩ => ?_
    obtain h | h | h := hheld
    · exact h hempty
    · exact h hrest
    · exact hfill h
  · rw [dutyMember_auto hmanual]
    exact if_pos hheld
  · rw [dutyMember_auto hmanual]
    exact if_neg (by simp [hrest, htest])

end Sys2Proof.AxisMoves
end

section
/-!
SUPPORT. Requests that run over the members of a set (3.2): the members in turn, the checks before them.
-/

namespace Sys2Proof.AxisMoves

open Sys2Proof Sys2Proof.Machine Sys2Proof.Safety Sys2Proof.Claims Sys2Proof.BottleTrack Sys2Proof.Track

/-! ## The members in turn -/

theorem foldl_members_eq {n : Nat} (f : Fin n → State → State × MemberResult × Nat) (members : List (Fin n)) (s : State)
    (bytes : List Byte) :
    members.foldl (fun acc m => ((f m acc.1).1, acc.2 ++ memberBytes m.val (f m acc.1).2.1 (f m acc.1).2.2)) (s, bytes)
      = ((inTurn f members s).1, bytes ++ (inTurn f members s).2) := by
  induction members generalizing s bytes with
  | nil => simp [inTurn]
  | cons m rest ih =>
    rw [List.foldl_cons, ih]
    simp only [inTurn, List.append_assoc]
    rfl

theorem runMembersDetailed_eq {n : Nat} (f : Fin n → State → State × MemberResult × Nat) (members : List (Fin n)) (s : State) :
    runMembersDetailed members (fun k => k.val) f s = inTurn f members s :=
  foldl_members_eq f members s []

theorem runMembers_eq {n : Nat} (f : Fin n → State → State × MemberResult) (members : List (Fin n)) (s : State) :
    runMembers members (fun k => k.val) f s = inTurn (plain f) members s :=
  runMembersDetailed_eq (plain f) members s

theorem onAxes_eq (s : State) (axes : AxisSet) (f : AxisNo → State → State × MemberResult) :
    s.onAxes axes f = answeredInTurn (plain f) (axisMembers axes) s := by
  rw [State.onAxes, runMembers_eq]
  rfl

theorem onCameras_eq (s : State) (cameras : CameraSet) (f : CameraNo → State → State × MemberResult) :
    s.onCameras cameras f = answeredInTurn (plain f) (cameraMembers cameras) s := by
  rw [State.onCameras, runMembers_eq]
  rfl

theorem plain_afterGrant {n : Nat} (check : Fin n → State → Option Reason) (f : Fin n → State → State × MemberResult) :
    plain (fun k s => afterGrant (check k s) s (f k)) = underGrant check f := by
  funext k s
  unfold plain underGrant afterGrant
  dsimp only
  cases check k s <;> rfl

/-! ## The checks before them -/

section
variable {s : State}

theorem require_met {ok : Bool} (h : ok = true) (r : Reason) (f : State → State) : s.require ok r f = f s := by
  rw [h, require_true]

theorem require_failed {ok : Bool} (h : ok = false) (r : Reason) (f : State → State) : s.require ok r f = s.refuse r := by
  rw [h, require_false]

theorem requireSome_met {α : Type} {x : Option α} {a : α} (h : x = some a) (r : Reason) (f : α → State → State) :
    s.requireSome x r f = f a s := by
  rw [h, requireSome_some]

theorem requireSome_failed {α : Type} {x : Option α} (h : x = none) (r : Reason) (f : α → State → State) :
    s.requireSome x r f = s.refuse r := by
  rw [h, requireSome_none]

theorem stopModeOf_none {n : Nat} (h : 2 ≤ n) : stopModeOf n = none := by
  obtain ⟨m, rfl⟩ := Nat.exists_eq_add_of_le' h
  rfl

theorem yesNoOf_none {n : Nat} (h : 2 ≤ n) : yesNoOf n = none := by
  obtain ⟨m, rfl⟩ := Nat.exists_eq_add_of_le' h
  rfl

theorem dutyOf_none {n : Nat} (h : 2 ≤ n) : dutyOf n = none := by
  obtain ⟨m, rfl⟩ := Nat.exists_eq_add_of_le' h
  rfl

theorem jogDownOf_none {n : Nat} (h : 2 ≤ n) : jogDownOf n = none := by
  obtain ⟨m, rfl⟩ := Nat.exists_eq_add_of_le' h
  rfl

theorem grantIdOk_iff {id : Nat} : grantIdOk id = true ↔ 1 ≤ id ∧ id ≤ 255 := by
  simp [grantIdOk]

theorem under_grant {axes : BitVec 8} {grant : Nat} (haxes : axes ≠ 0) (hlow : 1 ≤ grant) (hhigh : grant ≤ 255) :
    (axes != 0 && grantIdOk grant) = true := by
  rw [Bool.and_eq_true, grantIdOk_iff]
  exact ⟨by simpa using haxes, hlow, hhigh⟩

/-! ## Requests over a set of axes -/

theorem exec_axisRequest {axes : AxisSet} {c : Instr} {f : AxisNo → State → State × MemberResult} (h : running s)
    (hc : axisRequest axes c f) : exec c s = .next ((s.received c).require (axes != 0) .badValue fun s =>
      s.withLevel 1 fun s => s.onAxes axes f) := by
  obtain ⟨rfl, rfl⟩ | ⟨rfl, rfl⟩ | ⟨rfl, rfl⟩ | ⟨rfl, rfl⟩ | ⟨rfl, rfl⟩ | ⟨rfl, rfl⟩ | ⟨rfl, rfl⟩ := hc
  · exact exec_taken h (execAxisHome axes) rfl rfl rfl
  · exact exec_taken h (execClearHalt axes) rfl rfl rfl
  · exact exec_taken h (execAxisResume axes) rfl rfl rfl
  · exact exec_taken h (execAxisStop axes 0 0) rfl rfl rfl
  · exact exec_taken h (execAxisStop axes 0 1) rfl rfl rfl
  · exact exec_taken h (execAxisStop axes 1 0) rfl rfl rfl
  · exact exec_taken h (execAxisStop axes 1 1) rfl rfl rfl

theorem axisStop_badValue {axes : AxisSet} {mode notify : Nat} (h : running s) (haxes : axes ≠ 0) (hlevel : 1 ≤ s.acu.level)
    (hbad : 2 ≤ mode ∨ 2 ≤ notify) :
    exec (.axisStop axes mode notify) s = .next ((s.received (.axisStop axes mode notify)).refuse .badValue) := by
  refine exec_taken h (execAxisStop axes mode notify) rfl rfl ?_
  rw [require_met (by simpa using haxes), withLevel_reached (by exact hlevel)]
  cases hm : stopModeOf mode with
  | none => exact requireSome_none _ _ _
  | some m =>
    rw [requireSome_some]
    have hnotify : 2 ≤ notify := hbad.resolve_left fun hmode => by simp [stopModeOf_none hmode] at hm
    exact requireSome_failed (yesNoOf_none hnotify) _ _

theorem axisSetRequestsRunTheirMembers : AxisSetRequestsRunTheirMembers := by
  refine ⟨fun axes c f s h hc => ⟨fun hnone => ?_, fun hsome hlevel => ?_, fun hsome hlevel => ?_⟩,
    fun axes mode notify s h haxes hlevel hbad => axisStop_badValue h haxes hlevel hbad⟩
  all_goals refine (exec_axisRequest h hc).trans (congrArg _ ?_)
  · exact require_failed (by simp [hnone]) _ _
  · rw [require_met (by simpa using hsome)]
    exact withLevel_below (Nat.lt_one_iff.mpr (by exact hlevel)) _
  · rw [require_met (by simpa using hsome), withLevel_reached (by exact hlevel), onAxes_eq]

/-! ## Requests under a grant -/

theorem exec_underGrant {c : Instr} {named common : Bool} {grant : Nat} {f : State → State} (h : running s)
    (x : State → Result) (hexec : exec c s = x s) (hx : x s = taken c s fun s => s.wholeSetUnderGrant named grant common f)
    (hcommon : common = true) :
    exec c s = .next ((s.received c).require (named && grantIdOk grant) .badValue f) := by
  refine exec_taken h x hexec hx ?_
  rw [State.wholeSetUnderGrant, hcommon, Bool.and_true]

theorem exec_grantRequest {axes : AxisSet} {grant : Nat} {c : Instr} {f : AxisNo → State → State × MemberResult} (h : running s)
    (hc : grantRequest axes grant c f) :
    exec c s = .next ((s.received c).require (axes != 0 && grantIdOk grant) .badValue fun s =>
      s.onAxes axes fun k s => afterGrant (s.grantCheckAxis grant k) s (f k)) := by
  obtain ⟨rfl, rfl⟩ | ⟨rfl, rfl⟩ | ⟨rfl, rfl⟩ | ⟨rfl, rfl⟩ | ⟨ms, hlow, hhigh, rfl, rfl⟩ | ⟨targets, rfl, rfl⟩ := hc
  · exact exec_underGrant h (execAxisDuty axes grant 0) rfl rfl rfl
  · exact exec_underGrant h (execAxisDuty axes grant 1) rfl rfl rfl
  · exact exec_underGrant h (execAxisJog axes grant 0) rfl rfl rfl
  · exact exec_underGrant h (execAxisJog axes grant 1) rfl rfl rfl
  · exact exec_underGrant h (execValveTest axes grant ms) rfl rfl (by simp [hlow, hhigh])
  · exact exec_underGrant h (execAxisMove axes grant targets) rfl rfl rfl

theorem grantRequestsRunTheirMembers : GrantRequestsRunTheirMembers := by
  refine ⟨fun axes grant c f s h hc => ⟨fun hbad => ?_, fun hsome hlow hhigh => ?_⟩,
    fun axes grant x s h haxes hlow hhigh => ?_⟩
  · refine (exec_grantRequest h hc).trans (congrArg _ (require_failed ?_ _ _))
    obtain hnone | hid := hbad
    · simp [hnone]
    · rw [Bool.and_eq_false_iff, ← Bool.not_eq_true (grantIdOk grant), grantIdOk_iff]
      omega
  · refine (exec_grantRequest h hc).trans (congrArg _ ?_)
    rw [require_met (under_grant hsome hlow hhigh), onAxes_eq,
      plain_afterGrant (fun k s => s.grantCheckAxis grant k)]
  · have hok : (axes != 0 && grantIdOk grant) = true := under_grant haxes hlow hhigh
    refine ⟨fun hx => ⟨?_, ?_⟩, fun hx => ?_⟩
    · refine (exec_underGrant h (execAxisDuty axes grant x) rfl rfl rfl).trans (congrArg _ ((require_met hok _ _).trans ?_))
      exact requireSome_failed (dutyOf_none hx) _ _
    · refine (exec_underGrant h (execAxisJog axes grant x) rfl rfl rfl).trans (congrArg _ ((require_met hok _ _).trans ?_))
      exact requireSome_failed (jogDownOf_none hx) _ _
    · refine exec_taken h (execValveTest axes grant x) rfl rfl (require_failed ?_ _ _)
      rw [hok, Bool.true_and, Bool.and_eq_false_iff, decide_eq_false_iff_not, decide_eq_false_iff_not]
      omega

end

/-- Settles O10: the checks of a request over a set of axes, and its members in turn. -/
theorem setRequestsRunTheirMembers : Obligations.SetRequestsRunTheirMembers :=
  ⟨axisSetRequestsRunTheirMembers, grantRequestsRunTheirMembers⟩

end Sys2Proof.AxisMoves
end

section
/-!
SUPPORT. A move from its first pulse to its end (R28, R29, R35, R37).
-/

namespace Sys2Proof.AxisMoves

open Sys2Proof Sys2Proof.Machine Sys2Proof.Safety Sys2Proof.Claims Sys2Proof.BottleTrack Sys2Proof.Track

/-! ## The first pulse -/

theorem ramped_before_first {a : Axis} {left : Nat} (h : a.lead = left + 1) (hleft : left ≠ 0) :
    a.ramped = { a with lead := left } := by
  rw [ramped_waiting h, Axis.awaitFirst, if_neg hleft]

theorem ramped_first {a : Axis} (h : a.lead = 1) : a.ramped = { a with lead := 0, pulsePart := 1000000000 } := by
  rw [ramped_waiting h, Axis.awaitFirst, if_pos rfl]

theorem iterate_ramped_waiting {a : Axis} (h : a.lead = 10) (n : Nat) (hn : n < 10) :
    Nat.iterate Axis.ramped n a = { a with lead := 10 - n } := by
  induction n with
  | zero => simp [← h]
  | succ n ih =>
    rw [Function.iterate_succ_apply', ih (by omega), ramped_before_first (left := 10 - (n + 1)) (by dsimp only; omega) (by omega)]

theorem theFirstPulseGoesOutAtTheStartSpeed : TheFirstPulseGoesOutAtTheStartSpeed := by
  intro a down count p flat
  have hten : Nat.iterate Axis.ramped 10 (begun a down count p flat)
      = { begun a down count p flat with lead := 0, pulsePart := 1000000000 } := by
    rw [Function.iterate_succ_apply', iterate_ramped_waiting rfl 9 (by omega), ramped_first rfl]
  refine ⟨startMove_eq a down count p flat, fun n hn => ?_, hten, ?_, ?_⟩
  · have hn' := iterate_ramped_waiting (a := begun a down count p flat) rfl n hn
    exact ⟨hn', by rw [hn']; rfl⟩
  · rw [hten]
    rfl
  · rw [hten]
    rfl

/-! ## Every pulse -/

theorem lt_roundedUp_iff (v w m : Nat) {per : Nat} (h : 0 < per) :
    m < (v - w + (per - 1)) / per ↔ ¬ v ≤ w + per * m := by
  rw [Nat.lt_iff_add_one_le, Nat.le_div_iff_mul_le h, Nat.add_mul, Nat.one_mul, Nat.mul_comm m]
  omega

theorem le_neededPulses_iff {p : Profile} (h : 1 ≤ p.acceleration) (speed n : Nat) :
    n ≤ neededPulses p speed ↔ rampDown p speed n := by
  have hstep (m : Nat) : m < neededPulses p speed ↔ ¬ enoughToSlow p speed m :=
    lt_roundedUp_iff _ _ m (Nat.mul_pos (Nat.mul_pos (by decide) h) (by decide))
  refine ⟨fun hle m hm => (hstep m).mp (hm.trans_le hle), fun hdown => ?_⟩
  by_contra hlt
  exact hdown _ (not_le.mp hlt) (not_not.mp ((hstep _).not.mp (lt_irrefl _)))

theorem pulse_ramp_decel {a : Axis} (h : a.ramp = some .decel) : a.pulse.ramp = some .decel := by
  simp [Axis.pulse, Axis.rampAfterPulse, h]

theorem pulse_ramp_count {a : Axis} {p : Profile} {n : Nat} (hp : a.profile = some p) (h : a.ramp ≠ some .decel)
    (hn : a.remaining = some (n + 1)) : a.pulse.ramp = if n ≤ neededPulses p a.speed then some .decel else a.ramp := by
  unfold Axis.pulse Axis.rampAfterPulse
  simp only [hn, Option.map_some, Nat.add_sub_cancel, Axis.needed, hp]

theorem pulse_ramp_endless {a : Axis} (h : a.remaining = none) : a.pulse.ramp = a.ramp := by
  unfold Axis.pulse Axis.rampAfterPulse
  simp only [h, Option.map_none]
  cases a.ramp with
  | none => rfl
  | some r => cases r <;> rfl

theorem exec_stepPulse {s : State} (h : running s) (k : AxisNo) : exec (.stepPulse k) s = .next (
    if (s.axis k).profile ≠ none ∧ (s.axis k).remaining ≠ some 0
    then withAxis (s.received (.stepPulse k)) k (s.axis k).pulse else s.received (.stepPulse k)) := by
  refine exec_taken h (execStepPulse k) rfl rfl (if_congr ?_ rfl rfl)
  rw [Bool.and_eq_true, inMotion_iff, bne_iff_ne]
  rfl

theorem pulseMovesTheAxisByOne : PulseMovesTheAxisByOne := by
  refine fun k s h => ⟨fun p hp hleft hacc => ⟨(s.axis k).pulse, ?_, rfl, pulse_ramp_decel, fun hramp n hn => ⟨fun hdown => ?_,
    fun hdown => ?_⟩, pulse_ramp_endless⟩, fun hstill => (exec_stepPulse h k).trans (congrArg _ (if_neg ?_))⟩
  · exact (exec_stepPulse h k).trans (congrArg _ (if_pos ⟨by simp [hp], hleft⟩))
  · rw [pulse_ramp_count hp hramp hn, if_pos ((le_neededPulses_iff hacc _ _).mpr hdown)]
  · rw [pulse_ramp_count hp hramp hn, if_neg (hdown ∘ (le_neededPulses_iff hacc _ _).mp)]
  · rintro ⟨hmoving, hleft⟩
    exact hstill.elim hmoving hleft

/-! ## The end of a move -/

theorem exec_moveComplete {s : State} (h : running s) (k : AxisNo) : exec (.moveComplete k) s = .next (
    if (s.axis k).profile ≠ none ∧ (s.axis k).remaining = some 0
    then (s.received (.moveComplete k)).completeMove k else s.received (.moveComplete k)) := by
  refine exec_taken h (execMoveComplete k) rfl rfl (if_congr ?_ rfl rfl)
  rw [Bool.and_eq_true, inMotion_iff, beq_iff_eq]
  rfl

section
variable {s : State} {k : AxisNo}

theorem completeMove_moving (h : (s.axis k).motion = .moving) :
    s.completeMove k = comesToRest s k (s.axis k) .idle .complete := by
  rw [State.completeMove, h, ← comeToRest_eq]

theorem completeMove_stopping (h : (s.axis k).motion = .stopping) :
    s.completeMove k = comesToRest s k (s.axis k) (stoppedIn (s.axis k)) .stopped := by
  rw [State.completeMove, h, ← completeStop_eq]

theorem completeMove_homing (h : (s.axis k).motion = .homing) : s.completeMove k = halts s k .homeNotFound := by
  rw [State.completeMove, h, ← haltAxis_eq (by simp [h])]

theorem findHome_eq (s : State) (k : AxisNo) :
    s.findHome k = (sending (withAxis s k { atRestIn (s.axis k) .idle with position := some 0, notify := false })
      (if (s.axis k).duty = .manual then [.closingReport (.atRest k .idle)] else [])).post (.homeDone k) := by
  rw [State.findHome, reportRest_eq]
  simp
  rfl

theorem exec_homeFound {s : State} (h : running s) (k : AxisNo) : exec (.homeFound k) s = .next (
    let r := { s.received (.homeFound k) with inputs := { s.inputs with home := s.inputs.home ||| (1#8 <<< k.val) } }
    if (s.axis k).motion = .homing then r.findHome k else r) :=
  exec_taken h (execHomeFound k) rfl rfl rfl

theorem movesCompleteByTheirKind : MovesCompleteByTheirKind := by
  refine ⟨fun k s h hmoving hdone => ⟨fun hm => ?_, fun hm => ?_, fun hm => ?_⟩, fun k s h => ⟨fun hkept => ?_, fun hkept => ?_⟩,
    fun k s h => ⟨fun hm => ?_, fun hm => ?_⟩⟩
  · exact (exec_moveComplete h k).trans (congrArg _ ((if_pos ⟨hmoving, hdone⟩).trans (completeMove_moving (by exact hm))))
  · exact (exec_moveComplete h k).trans (congrArg _ ((if_pos ⟨hmoving, hdone⟩).trans (completeMove_stopping (by exact hm))))
  · exact (exec_moveComplete h k).trans (congrArg _ ((if_pos ⟨hmoving, hdone⟩).trans (completeMove_homing (by exact hm))))
  · exact (exec_moveComplete h k).trans (congrArg _ (if_neg fun ⟨hmoving, hdone⟩ =>
      hkept.elim hmoving fun hleft => hleft hdone))
  · exact (exec_homingTravelExhausted h k).trans (congrArg _ (if_neg fun ⟨hhoming, hdone⟩ =>
      hkept.elim (fun hm => hm hhoming) fun hleft => hleft hdone))
  · exact (exec_homeFound h k).trans (congrArg _ (if_neg hm))
  · exact (exec_homeFound h k).trans (congrArg _ ((if_pos hm).trans (findHome_eq _ k)))

theorem valveTestEndsAtItsTime : ValveTestEndsAtItsTime := by
  refine fun k s h => ⟨fun t hend hdue => ?_, fun hwaits => ?_⟩ <;>
    refine exec_taken h (execValveTestExpiry k) rfl rfl ?_
  · rw [show ((s.received (.valveTestExpiry k)).axis k).valveTestEnd = some t from hend]
    refine (if_pos hdue).trans ?_
    rw [notifyRest_eq, endValveTest_eq]
    simp [show ((s.received (.valveTestExpiry k)).axis k).valveTestEnd = some t from hend]
    rfl
  · obtain hnone | ⟨t, hend, hlater⟩ := hwaits
    · rw [show ((s.received (.valveTestExpiry k)).axis k).valveTestEnd = none from hnone]
    · rw [show ((s.received (.valveTestExpiry k)).axis k).valveTestEnd = some t from hend]
      exact if_neg (not_le.mpr hlater)

end

/-- Settles O11: a move's first pulse, its pulses, its end by the axis's motion, and the end of a valve test. -/
theorem movesRunPulseByPulseToTheirEnd : Obligations.MovesRunPulseByPulseToTheirEnd :=
  ⟨theFirstPulseGoesOutAtTheStartSpeed, pulseMovesTheAxisByOne, movesCompleteByTheirKind, valveTestEndsAtItsTime⟩

end Sys2Proof.AxisMoves
end

section
/-!
SUPPORT. The fill cycle (chapter 3): entering a phase, its segment, the raise's end, the close and the window's end.
-/

namespace Sys2Proof.FillSegments

open Sys2Proof Sys2Proof.Machine Sys2Proof.Safety Sys2Proof.Claims Sys2Proof.BottleTrack Sys2Proof.Track Sys2Proof.AxisMoves

/-! ## The effective dwell (R41, R62) -/

theorem trimIndexInUse_eq {c : Settings} {temperature : Option Int} {i : Nat} (h : indexInUse c temperature i) :
    trimIndexInUse c temperature = i := by
  unfold trimIndexInUse
  obtain ⟨hmode, rfl⟩ | ⟨hmode, rfl, rfl⟩ | ⟨t, hmode, rfl, hrange⟩ := h <;> rw [hmode]
  dsimp only
  omega

theorem effectiveDwell_eq {c : Settings} {temperature : Option Int} {r : Recipe} {d : Nat} (h : dwellOf c temperature r d) :
    effectiveDwell c temperature r = d := by
  obtain ⟨i, hi, huse, hd⟩ := h
  have hfloor : Config.dwellFloor = 10 := rfl
  simp only [effectiveDwell, trimIndexInUse_eq huse, hfloor]
  have htrim : c.trims.toList.getD i 0 = c.trims[i] := by
    rw [List.getD_eq_getElem _ _ (by simpa using hi), Vector.getElem_toList]
  rw [htrim]
  omega

theorem fillingRunsTheEffectiveDwell : FillingRunsTheEffectiveDwell := by
  intro k s f d hf hd
  unfold State.beginSegment
  dsimp only
  split
  next hnone => simp [hf] at hnone
  next g hg =>
    obtain rfl : f = g := Option.some.inj (hf.symm.trans hg)
    rw [show effectiveDwell s.cfg s.fmu.temperature (s.fillRecipe f) = d from effectiveDwell_eq hd]
    rfl

/-! ## Who holds a phase (R54, R55) -/

/-- The watch `w` bars the axis from the phase: it is on the list and not left out. -/
def bars (a : Axis) (w : WatchNo) (phase : FillPhase) : Prop := holdsAt a w phase ∧ a.excluded.getLsbD w = false

theorem mem_fourNos (w : WatchNo) : w ∈ fourNos := by revert w; decide

theorem find_fourNos {p : WatchNo → Bool} {w : WatchNo} (hw : p w = true) (hbefore : ∀ v, v < w → p v = false) :
    fourNos.find? p = some w := by
  have hsorted : fourNos.Pairwise (· < ·) := by decide
  cases hfind : fourNos.find? p with
  | none => exact absurd hw (List.find?_eq_none.mp hfind w (mem_fourNos w))
  | some v =>
    obtain ⟨hv, before, after, hlist, hfirst⟩ := List.find?_eq_some_iff_append.mp hfind
    rcases lt_trichotomy v w with hlt | heq | hgt
    · simp [hbefore v hlt] at hv
    · rw [heq]
    · have hmem : w ∈ before ++ v :: after := hlist ▸ mem_fourNos w
      rw [hlist, List.pairwise_append] at hsorted
      obtain ⟨_, hrest, _⟩ := hsorted
      obtain hin | hin := List.mem_append.mp hmem
      · exact absurd hw (by simpa using hfirst w hin)
      · obtain rfl | hin := List.mem_cons.mp hin
        · exact absurd hgt (lt_irrefl _)
        · exact absurd ((List.pairwise_cons.mp hrest).1 w hin) (not_lt.mpr hgt.le)

theorem bars_iff (a : Axis) (w : WatchNo) (phase : FillPhase) :
    (!a.excluded.getLsbD w && a.holdList.any fun e => e.watch == w && e.phase == phase) = true ↔ bars a w phase := by
  have hentry (e : HoldEntry) : (e.watch == w && e.phase == phase) = true ↔ e = ⟨w, phase⟩ := by
    cases e
    simp
  simp only [bars, holdsAt, Bool.and_eq_true, Bool.not_eq_true', List.any_eq_true, hentry, exists_eq_right]
  exact and_comm

theorem holderFor_eq_some {a : Axis} {w : WatchNo} {phase : FillPhase} (hw : bars a w phase)
    (hbefore : ∀ v, v < w → ¬ bars a v phase) : a.holderFor phase = some w :=
  find_fourNos ((bars_iff a w phase).mpr hw) fun v hv => Bool.eq_false_iff.mpr fun h => hbefore v hv ((bars_iff a v phase).mp h)

theorem holderFor_eq_none {a : Axis} {phase : FillPhase} (h : ∀ w, ¬ bars a w phase) : a.holderFor phase = none :=
  List.find?_eq_none.mpr fun w _ hw => h w ((bars_iff a w phase).mp hw)

theorem bars_cleared {a : Axis} {w : WatchNo} {phase : FillPhase} :
    bars { a with motion := segmentMotion phase, excluded := 0 } w phase ↔ holdsAt a w phase := by
  simp [bars, holdsAt]

section
variable {s : State} {k : AxisNo} {f : Fill}

/-! ## The end of the raise (R43) -/

theorem removeAssignment_eq (a : Axis) (serial : Nat) : a.removeAssignment serial = without a serial := by
  rw [Axis.removeAssignment, settleRetire_eq]
  rfl

theorem drained_twice (P : Prop) [Decidable P] (r : RetireState) :
    (if P ∧ (if P ∧ r = .draining then RetireState.retired else r) = .draining then RetireState.retired
      else if P ∧ r = .draining then .retired else r) = if P ∧ r = .draining then .retired else r := by
  by_cases h : P ∧ r = .draining
  · simp [h]
  · rw [if_neg h, if_neg h]

theorem completeRaise_eq (h : (s.axis k).fill = some f) : s.completeRaise k = raised s k f := by
  have hfree (a : Axis) : a.freeMotion = if a.assignments = [] then .idle else .armed := by
    simp [Axis.freeMotion]
  have hended : ({ (if f.closing then s.axis k else (s.axis k).removeAssignment f.serial).atRest with
      fill := none
      motion := (if f.closing then s.axis k else (s.axis k).removeAssignment f.serial).freeMotion } : Axis).settleRetire
        = fillEnded (s.axis k) f := by
    rw [settleRetire_eq, hfree, removeAssignment_eq]
    unfold fillEnded atRestIn Axis.atRest without
    cases f.closing
    · simp only [if_false, Bool.false_eq_true]
      congr 1
      exact drained_twice _ _
    · simp only [if_true]
  unfold State.completeRaise
  dsimp only
  split
  next hnone => simp [h] at hnone
  next g hg =>
    obtain rfl : f = g := Option.some.inj (h.symm.trans hg)
    rw [reportRest_eq, hended]
    simp [raised]
    rfl

/-! ## The segments (R40 to R43) -/

theorem beginSegment_lowering (h : (s.axis k).fill = some f) (hm : (s.axis k).motion = .lowering) :
    s.beginSegment k .lowering = unlessLimit (withAxis s k
      (begun (s.axis k) true (some s.cfg.recipes[f.recipe].stroke) s.cfg.recipes[f.recipe].profile false)) k := by
  rw [← beginMove_eq (by simp [hm]), State.beginSegment, h]
  rfl

theorem beginSegment_raising (h : (s.axis k).fill = some f) (hm : (s.axis k).motion = .raising) {x : Int}
    (hx : (s.axis k).position = some x) (hne : x ≠ 0) : s.beginSegment k .raising = unlessLimit (withAxis s k
      (begun (s.axis k) false (some x.natAbs) s.cfg.recipes[f.recipe].profile false)) k := by
  rw [← beginMove_eq (by simp [hm]), State.beginSegment, h]
  dsimp only
  rw [show (s.axis k).position.getD 0 = x by rw [hx]; rfl]
  exact if_neg (Int.natAbs_ne_zero.mpr hne)

theorem beginSegment_raised (h : (s.axis k).fill = some f) (hx : (s.axis k).position = some 0) :
    s.beginSegment k .raising = raised s k f := by
  rw [← completeRaise_eq h, State.beginSegment, h]
  dsimp only
  rw [show (s.axis k).position.getD 0 = 0 by rw [hx]; rfl]
  rfl

/-! ## Entering a phase (R54) -/

theorem serial_of_fill (h : (s.axis k).fill = some f) : ((s.axis k).fill.map (·.serial)).getD 0 = f.serial := by
  rw [h]
  rfl

theorem isClosingRaise_iff (h : (s.axis k).fill = some f) (phase : FillPhase) :
    isClosingRaise (s.axis k).fill phase = true ↔ f.closing = true ∧ phase = .raising := by
  simp [isClosingRaise, h]

/-- The axis as it asks who holds a phase it enters: in the phase, with no watch left out. -/
def asking (a : Axis) (phase : FillPhase) : Axis := { a with motion := segmentMotion phase, excluded := 0 }

theorem phaseEntry_barred {phase : FillPhase} {w : WatchNo} (hraise : ¬ isClosingRaise (s.axis k).fill phase = true)
    (hw : (asking (s.axis k) phase).holderFor phase = some w) :
    s.phaseEntry k phase = sending (withAxis s k (entered (s.axis k) phase (some w)))
      [.acuReport (.phaseEntry k phase (((s.axis k).fill.map (·.serial)).getD 0) (some w))] := by
  have hholder : (if isClosingRaise (asking (s.axis k) phase).fill phase then none
      else (asking (s.axis k) phase).holderFor phase) = some w := (if_neg hraise).trans hw
  unfold asking at hholder
  unfold State.phaseEntry
  dsimp only at hholder ⊢
  rw [hholder]
  rfl

theorem phaseEntry_unbarred {phase : FillPhase} (hfree : isClosingRaise (s.axis k).fill phase = true
    ∨ (asking (s.axis k) phase).holderFor phase = none) :
    s.phaseEntry k phase = (sending (withAxis s k (entered (s.axis k) phase none))
      [.acuReport (.phaseEntry k phase (((s.axis k).fill.map (·.serial)).getD 0) none)]).beginSegment k phase := by
  have hholder : (if isClosingRaise (asking (s.axis k) phase).fill phase then none
      else (asking (s.axis k) phase).holderFor phase) = none := by
    obtain h | h := hfree
    · exact if_pos h
    · rw [h, ite_self]
  unfold asking at hholder
  unfold State.phaseEntry
  dsimp only at hholder ⊢
  rw [hholder]
  rfl

theorem phaseEntriesHoldOrBegin : PhaseEntriesHoldOrBegin := by
  intro k phase s f hf
  refine ⟨fun w hopen hw hbefore => ?_, fun hfree => ?_, beginSegment_lowering hf, fun _ hm hx hne => beginSegment_raising hf hm hx hne,
    beginSegment_raised hf⟩
  · rw [phaseEntry_barred (hopen ∘ (isClosingRaise_iff hf phase).mp) (holderFor_eq_some (bars_cleared.mpr hw) fun v hv hbar =>
      hbefore v hv (bars_cleared.mp hbar)), serial_of_fill hf]
  · rw [phaseEntry_unbarred (hfree.imp (isClosingRaise_iff hf phase).mpr fun h =>
      holderFor_eq_none fun w hw => h w (bars_cleared.mp hw)), serial_of_fill hf]

end

/-- Settles O13: the filling segment by the effective dwell; a phase entry by the holder it finds. -/
theorem phaseEntriesBeginTheSegments : Obligations.PhaseEntriesBeginTheSegments :=
  ⟨fillingRunsTheEffectiveDwell, phaseEntriesHoldOrBegin⟩

end Sys2Proof.FillSegments
end

section
/-!
SUPPORT. Segments follow one another; the close of a fill; the end of its window (R42 to R46).
-/

namespace Sys2Proof.FillSegments

open Sys2Proof Sys2Proof.Machine Sys2Proof.Safety Sys2Proof.Claims Sys2Proof.BottleTrack Sys2Proof.Track Sys2Proof.AxisMoves

section
variable {s : State} {k : AxisNo} {f : Fill}

/-! ## The end of the lowering, the close (R42, R46) -/

theorem completeLowering_eq (hm : (s.axis k).motion = .lowering) (hf : (s.axis k).fill = some f)
    (hauto : (s.axis k).duty = .auto) : s.completeLowering k
      = (withAxis s k (atRestIn (s.axis k) .lowering)).phaseEntry k (if f.closing then .raising else .filling) := by
  have hrest : (s.setAxis k (s.axis k).atRest).reportRest k = s.setAxis k (s.axis k).atRest := by
    rw [reportRest_eq, if_neg (by simp [Axis.atRest, hauto])]
    exact sendAll_nil _
  have hlowering : (s.axis k).atRest = atRestIn (s.axis k) .lowering := by rw [← hm]; rfl
  have hclosing : (s.axis k).fill.any (·.closing) = f.closing := by rw [hf]; rfl
  unfold State.completeLowering
  dsimp only
  rw [hrest, hlowering, hclosing]
  rfl

/-- The state after the part of a close that every segment shares. -/
def closedAt (s : State) (k : AxisNo) (f : Fill) : State :=
  sending (withAxis s k (closed (s.axis k) f)) (releasing k (s.axis k).held)

theorem closedAt_axis (s : State) (k : AxisNo) (f : Fill) : (closedAt s k f).axis k = closed (s.axis k) f := by
  simp [closedAt]

theorem closed_shared (hf : (s.axis k).fill = some f) : (s.setAxis k { s.axis k with
    fill := (s.axis k).fill.map fun f => { f with closing := true }, held := none, excluded := 0 }).sendAll
      (releaseReports k (s.axis k).held) = closedAt s k f := by
  rw [releaseReports_eq, hf]
  rfl

/-- A close, segment by segment, over the part that every segment shares. -/
def closeFrom (s t : State) (k : AxisNo) : State :=
  match (s.axis k).motion with
  | .lowering =>
    if (s.axis k).inMotion then if (s.axis k).needed = 0 then t.completeLowering k else t.beginSlowing k
    else t.phaseEntry k .raising
  | .filling => (t.setAxis k { t.axis k with valve := false, dwellEnd := none }).phaseEntry k .raising
  | .raising => if (s.axis k).inMotion then t else t.beginSegment k .raising
  | _ => t

theorem closeFill_eq (hf : (s.axis k).fill = some f) : s.closeFill k = closeFrom s (closedAt s k f) k := by
  rw [← closed_shared hf]
  rfl

theorem closeFill_of_closes {t : State} (hf : (s.axis k).fill = some f) (h : closes s k f t) : s.closeFill k = t := by
  rw [closeFill_eq hf]
  have haxis := closedAt_axis s k f
  obtain ⟨hm, hmoving, hneeded, rfl⟩ | ⟨hm, hmoving, hneeded, hauto, rfl⟩ | ⟨hm, hrest, rfl⟩ | ⟨hm, rfl⟩ | ⟨hm, hmoving, rfl⟩
    | ⟨hm, hrest, rfl⟩ := h <;> unfold closeFrom <;> rw [hm] <;> dsimp only
  · rw [if_pos (inMotion_iff.mpr hmoving), if_neg hneeded.ne', beginSlowing_eq (by simp [haxis, closed, hm]), haxis,
      show (closed (s.axis k) f).motion = .lowering from hm]
    rfl
  · rw [if_pos (inMotion_iff.mpr hmoving), if_pos hneeded,
      completeLowering_eq (f := { f with closing := true }) (by simp [haxis, closed, hm]) (by simp [haxis, closed])
        (by simp [haxis, closed, hauto]), haxis]
    rfl
  · rw [if_neg (hrest ∘ inMotion_iff.mp)]
    rfl
  · rw [haxis]
    rfl
  · rw [if_pos (inMotion_iff.mpr hmoving)]
    rfl
  · rw [if_neg (hrest ∘ inMotion_iff.mp)]
    rfl

/-! ## The dwell's end, the end of a segment's move -/

theorem completeMove_raising (hm : (s.axis k).motion = .raising) (hf : (s.axis k).fill = some f) :
    s.completeMove k = raised s k f := by
  rw [State.completeMove, hm, ← completeRaise_eq hf]

theorem completeMove_lowering (hm : (s.axis k).motion = .lowering) (hf : (s.axis k).fill = some f)
    (hauto : (s.axis k).duty = .auto) : s.completeMove k
      = (withAxis s k (atRestIn (s.axis k) .lowering)).phaseEntry k (if f.closing then .raising else .filling) := by
  rw [← completeLowering_eq hm hf hauto, State.completeMove, hm]

theorem fillSegmentsFollowOneAnother : FillSegmentsFollowOneAnother := by
  refine fun k s h => ⟨fun t hend hdue => ?_, fun hwaits => ?_, fun f hmoving hdone hm hf hauto => ?_,
    fun f hmoving hdone hm hf => ?_⟩
  · refine exec_taken h (execDwellExpiry k) rfl rfl ?_
    rw [show ((s.received (.dwellExpiry k)).axis k).dwellEnd = some t from hend]
    exact if_pos hdue
  · refine exec_taken h (execDwellExpiry k) rfl rfl ?_
    obtain hnone | ⟨t, hend, hlater⟩ := hwaits
    · rw [show ((s.received (.dwellExpiry k)).axis k).dwellEnd = none from hnone]
    · rw [show ((s.received (.dwellExpiry k)).axis k).dwellEnd = some t from hend]
      exact if_neg (not_le.mpr hlater)
  · exact (exec_moveComplete h k).trans (congrArg _ ((if_pos ⟨hmoving, hdone⟩).trans
      (completeMove_lowering (by exact hm) (by exact hf) (by exact hauto))))
  · exact (exec_moveComplete h k).trans (congrArg _ ((if_pos ⟨hmoving, hdone⟩).trans
      (completeMove_raising (by exact hm) (by exact hf))))

/-! ## The window's end (R44) -/

theorem windowEnds_of_assigned {x : Assignment} {pitch : Pitch} (hf : (s.axis k).fill = some f)
    (hx : (s.axis k).assignments.find? (fun y => y.serial == f.serial) = some x) : windowEnds s k pitch
      = (!f.closing && x.startPitch + BitVec.ofNat 32 s.cfg.recipes[f.recipe].window == pitch) := by
  have hassigned : (s.axis k).fillAssignment = some x := by rw [Axis.fillAssignment, hf]; exact hx
  rw [windowEnds, hassigned, hf]
  rfl

theorem windowEnds_unassigned {pitch : Pitch} (hf : (s.axis k).fill = some f)
    (hx : (s.axis k).assignments.find? (fun y => y.serial == f.serial) = none) : windowEnds s k pitch = false := by
  have hassigned : (s.axis k).fillAssignment = none := by rw [Axis.fillAssignment, hf]; exact hx
  rw [windowEnds, hassigned, hf]

theorem windowExpiry_stays {pitch : Pitch} (h : windowEnds s k pitch = false) : s.windowExpiry k pitch = s := by
  unfold State.windowExpiry
  split
  · exact if_neg (by simp [h])
  · rfl

theorem windowExpiry_ends {pitch : Pitch} (hf : (s.axis k).fill = some f) (h : windowEnds s k pitch = true) :
    s.windowExpiry k pitch
      = (sending (withAxis s k (without (s.axis k) f.serial)) [.fillReport f.serial (.result .late)]).closeFill k := by
  unfold State.windowExpiry
  split
  next g hg =>
    obtain rfl : f = g := Option.some.inj (hf.symm.trans hg)
    rw [if_pos h, removeAssignment_eq]
    rfl
  next hnone => simp [hf] at hnone

theorem find_unique {l : List Assignment} {x : Assignment} {serial : Nat} (hx : x ∈ l) (hs : x.serial = serial)
    (honly : ∀ y ∈ l, y.serial = serial → y = x) : l.find? (fun y => y.serial == serial) = some x := by
  cases hfind : l.find? (fun y => y.serial == serial) with
  | none => exact absurd (List.find?_eq_none.mp hfind x hx) (by simp [hs])
  | some y => rw [honly y (List.mem_of_find?_eq_some hfind) (by simpa using List.find?_some hfind)]

theorem windowExpiryEndsTheFillLate : WindowExpiryEndsTheFillLate := by
  refine fun k pitch s h => ⟨fun f x t hf hopen hx hserial honly hwindow hcloses => ?_, fun hnone => ?_,
    fun f x hf hx hwindow => ?_⟩ <;> refine exec_taken h (execFillWindowExpiry k pitch) rfl rfl ?_
  · have hends := windowEnds_of_assigned (s := s.received (.fillWindowExpiry k pitch)) (pitch := pitch) (by exact hf)
      (find_unique (by exact hx) hserial honly)
    rw [hopen, Bool.not_false, Bool.true_and, beq_iff_eq.mpr (by exact hwindow)] at hends
    rw [windowExpiry_ends (by exact hf) hends]
    have hf' : ((s.received (.fillWindowExpiry k pitch)).axis k).fill = some f := hf
    exact closeFill_of_closes (by simpa [without] using hf') hcloses
  · refine windowExpiry_stays ?_
    obtain hf | ⟨f, hf, hclosing | hgone⟩ := hnone
    · rw [windowEnds, show ((s.received _).axis k).fill = none from hf]
    · cases hfind : (s.axis k).assignments.find? (fun y => y.serial == f.serial) with
      | none => exact windowEnds_unassigned (by exact hf) hfind
      | some x => exact (windowEnds_of_assigned (by exact hf) hfind).trans (by simp [hclosing])
    · exact windowEnds_unassigned (by exact hf) (List.find?_eq_none.mpr fun x hx => by simpa using hgone x hx)
  · exact windowExpiry_stays ((windowEnds_of_assigned (by exact hf) hx).trans (by simpa using fun _ => hwindow))

/-! ## What a pitch event starts (R39, R45) -/

theorem readyFor_iff (a : Axis) (x : Assignment) : a.readyFor x = true
    ↔ a.motion = .armed ∧ a.profile = none ∧ a.fill = none ∧ a.assignments.head? = some x := by
  simp [Axis.readyFor, inMotion_eq_false, and_assoc]

theorem startDue_none {pitch : Pitch} (h : ∀ x ∈ (s.axis k).assignments, x.startPitch ≠ pitch) : s.startDue k pitch = s := by
  have hfind : (s.axis k).assignments.find? (fun x => x.startPitch == pitch) = none :=
    List.find?_eq_none.mpr fun x hx => by simpa using h x hx
  rw [State.startDue, hfind]

theorem startDue_some {pitch : Pitch} {x : Assignment}
    (h : (s.axis k).assignments.find? (fun x => x.startPitch == pitch) = some x) : s.startDue k pitch
      = if (s.axis k).readyFor x
        then (sending (withAxis s k { s.axis k with fill := some ⟨x.serial, false, x.recipe⟩ })
          [.acuReport (.fillStart k x.serial)]).phaseEntry k .lowering
        else sending (withAxis s k (without (s.axis k) x.serial)) [.fillReport x.serial (.result .missed)] := by
  rw [State.startDue, h, ← removeAssignment_eq]
  rfl

end

/-- Settles O14: a segment by the end of the one before; the window's end by the fill's assignment. -/
theorem fillsRunTheirSegmentsOrEndLate : Obligations.FillsRunTheirSegmentsOrEndLate :=
  ⟨fillSegmentsFollowOneAnother, windowExpiryEndsTheFillLate⟩

/-- Settles O15: the axes in turn; an axis by its assignment due at the pitch; what it leaves by the law `axisOnly`. -/
theorem pitchEventTakesEachAxisAlone : Obligations.PitchEventTakesEachAxisAlone := by
  refine ⟨fun pitch records s h => exec_taken h (execFmuPitchEvent pitch records) rfl rfl rfl, fun k pitch s => ?_⟩
  obtain ⟨hparts, hothers, hfmu⟩ := axisOnly_axisPitch k s pitch
  refine ⟨rfl, startDue_none, fun x rest hlist hstart hm hrest hfill => ?_, fun before x after hlist hstart hbefore hbusy => ?_,
    hothers, hparts, hfmu⟩
  · rw [startDue_some (x := x) (by rw [hlist, List.find?_cons_of_pos (by simp [hstart])])]
    exact if_pos ((readyFor_iff _ _).mpr ⟨hm, hrest, hfill, by rw [hlist]; rfl⟩)
  · have hfind : (s.axis k).assignments.find? (fun x => x.startPitch == pitch) = some x := by
      rw [hlist, List.find?_append, List.find?_eq_none.mpr fun y hy => by simpa using hbefore y hy, Option.none_or,
        List.find?_cons_of_pos (by simp [hstart])]
    rw [startDue_some hfind]
    refine if_neg fun hready => ?_
    obtain ⟨hm, hrest, hfill, hhead⟩ := (readyFor_iff _ _).mp hready
    obtain hfirst | hbusy := hbusy
    · obtain ⟨y, before, rfl⟩ := List.exists_cons_of_ne_nil hfirst
      rw [hlist] at hhead
      obtain rfl : y = x := Option.some.inj hhead
      exact hbefore y (List.mem_cons_self ..) hstart
    · tauto

end Sys2Proof.FillSegments
end

section
/-!
SUPPORT. Hold lists, departures, line clear and the account alarms at the axes (R47 to R58).
-/

namespace Sys2Proof.FillSegments

open Sys2Proof Sys2Proof.Machine Sys2Proof.Safety Sys2Proof.Claims Sys2Proof.BottleTrack Sys2Proof.Track Sys2Proof.AxisMoves

section
variable {s : State} {k : AxisNo} {f : Fill}

/-! ## Consulting the hold list again (R55) -/

theorem segmentOf_segmentMotion (phase : FillPhase) : segmentOf (segmentMotion phase) = some phase := by
  cases phase <;> rfl

theorem consultAgain_barred {phase : FillPhase} {w : WatchNo} (hm : (s.axis k).motion = segmentMotion phase)
    (hw : (s.axis k).holderFor phase = some w) : s.consultAgain k = sending (withAxis s k { s.axis k with held := some w })
      [.acuReport (.holdAfterRelease k phase (((s.axis k).fill.map (·.serial)).getD 0) w)] := by
  have hphase : segmentOf (s.axis k).motion = some phase := by rw [hm, segmentOf_segmentMotion]
  unfold State.consultAgain
  dsimp only
  rw [hphase]
  dsimp only
  rw [hw]
  rfl

theorem consultAgain_free {phase : FillPhase} (hm : (s.axis k).motion = segmentMotion phase)
    (hw : (s.axis k).holderFor phase = none) :
    s.consultAgain k = (withAxis s k { s.axis k with held := none }).beginSegment k phase := by
  have hphase : segmentOf (s.axis k).motion = some phase := by rw [hm, segmentOf_segmentMotion]
  unfold State.consultAgain
  dsimp only
  rw [hphase]
  dsimp only
  rw [hw]
  rfl

theorem consultAgain_of_consults {phase : FillPhase} {t : State} (hm : (s.axis k).motion = segmentMotion phase)
    (hf : (s.axis k).fill = some f) (h : consults s k phase f t) : s.consultAgain k = t := by
  obtain ⟨w, hw, hbefore, rfl⟩ | ⟨hnone, rfl⟩ := h
  · rw [consultAgain_barred hm (holderFor_eq_some hw hbefore), serial_of_fill hf]
  · exact consultAgain_free hm (holderFor_eq_none hnone)

theorem exec_holdListRemove (h : running s) (k : AxisNo) (w : WatchNo) : exec (.holdListRemove k w) s = .next (
    let r := withAxis (s.received (.holdListRemove k w)) k
      { s.axis k with holdList := (s.axis k).holdList.filter fun e => e.watch != w }
    if (s.axis k).held = some w then r.consultAgain k else r) :=
  exec_taken h (execHoldListRemove k w) rfl rfl rfl

theorem exec_holdRelease (h : running s) (k : AxisNo) (w : WatchNo) : exec (.holdRelease k w) s = .next (
    let r := s.received (.holdRelease k w)
    if (s.axis k).held = some w
    then (withAxis r k { s.axis k with excluded := (s.axis k).excluded ||| (1#4 <<< w.val) }).consultAgain k else r) :=
  exec_taken h (execHoldRelease k w) rfl rfl rfl

end

/-- Settles O16: additions, removals and releases; the axis consults its list again when the watch held it. -/
theorem holdListChangesAndReleases : Obligations.HoldListChangesAndReleases := by
  refine fun k w s h => ⟨fun phase => exec_taken h (execHoldListAdd k w phase) rfl rfl rfl, fun hheld => ⟨?_, ?_⟩,
    fun phase f t hheld hm hf => ⟨fun hc => ?_, fun hc => ?_⟩⟩
  · exact (exec_holdListRemove h k w).trans (congrArg _ (if_neg hheld))
  · exact (exec_holdRelease h k w).trans (congrArg _ (if_neg hheld))
  · refine (exec_holdListRemove h k w).trans (congrArg _ ((if_pos hheld).trans ?_))
    exact consultAgain_of_consults (by simpa using hm) (by simpa using hf) hc
  · refine (exec_holdRelease h k w).trans (congrArg _ ((if_pos hheld).trans ?_))
    exact consultAgain_of_consults (by simpa using hm) (by simpa using hf) hc

section
variable {s : State} {k : AxisNo}

/-! ## Departures and line clear (R47, R48) -/

theorem disarmed_eq (a : Axis) :
    a.disarmed = { a with motion := if a.assignments = [] ∧ a.motion = .armed ∧ a.fill = none then .idle else a.motion } := by
  unfold Axis.disarmed
  split <;> rfl

theorem departAxis_absent {serial : Nat} (h : ∀ x ∈ (s.axis k).assignments, x.serial ≠ serial) : s.departAxis serial k = s :=
  if_neg (by simpa using h)

theorem departAxis_present {serial : Nat} (h : ∃ x ∈ (s.axis k).assignments, x.serial = serial) :
    s.departAxis serial k = if (s.axis k).fill.any fun f => f.serial == serial
      then (withAxis s k (without (s.axis k) serial)).closeFill k
      else withAxis s k (without (s.axis k) serial).disarmed := by
  unfold State.departAxis
  dsimp only
  rw [if_pos (by simpa using h), removeAssignment_eq]
  rfl

theorem departAxis_of_departs {serial : Nat} {t : State} (h : departs s serial k t) : s.departAxis serial k = t := by
  obtain ⟨habsent, rfl⟩ | ⟨hpresent, hother, rfl⟩ | ⟨f, hpresent, hf, hserial, hcloses⟩ := h
  · exact departAxis_absent habsent
  · rw [departAxis_present hpresent, if_neg, disarmed_eq]
    · rfl
    · simpa [Option.any_eq_true] using hother
  · rw [departAxis_present hpresent, if_pos (by simp [hf, hserial])]
    exact closeFill_of_closes (by simpa [without] using hf) hcloses

theorem clearAxis_of_clears {t : State} (h : clears s k t) : s.clearAxis k = t := by
  have hcleared : ({ s.axis k with assignments := [] } : Axis).disarmed.settleRetire = { s.axis k with
      assignments := [], retire := if (s.axis k).retire = .draining then .retired else (s.axis k).retire
      motion := if (s.axis k).motion = .armed ∧ (s.axis k).fill = none then .idle else (s.axis k).motion } := by
    rw [disarmed_eq, settleRetire_eq]
    simp only [true_and]
  unfold State.clearAxis
  dsimp only
  rw [hcleared]
  obtain ⟨hclosed, rfl⟩ | ⟨f, hf, hopen, hcloses⟩ := h
  · refine if_neg ?_
    simpa [Option.any_eq_true] using hclosed
  · rw [if_pos (by simp [hf, hopen])]
    exact closeFill_of_closes (by simpa using hf) hcloses

theorem departuresAndClearsReachEveryAxis : DeparturesAndClearsReachEveryAxis :=
  ⟨fun serial _ h => exec_taken h (execFmuDeparture serial) rfl rfl rfl, fun _ h => exec_taken h execFmuLineClear rfl rfl rfl,
    fun _ _ _ => ⟨fun _ => departAxis_of_departs, clearAxis_of_clears⟩⟩

/-! ## The account alarms (R57, R58) -/

theorem accountAlarmsDrainAndReturnAnAxis : AccountAlarmsDrainAndReturnAnAxis := by
  refine fun k s h => ⟨fun hservice => ?_, fun hservice => ?_, exec_taken h (execAccountAlarmExit k) rfl rfl rfl⟩
  · refine exec_taken h (execAccountAlarmEntry k) rfl rfl ((if_pos hservice).trans ?_)
    rw [settleRetire_eq]
    simp only [and_true]
    rfl
  · exact exec_taken h (execAccountAlarmEntry k) rfl rfl (if_neg hservice)

end

/-- Settles O17: every axis in turn; one axis by what it holds of the record; draining by its assignments. -/
theorem departuresClearsAndAccountsReachTheAxes : Obligations.DeparturesClearsAndAccountsReachTheAxes :=
  ⟨departuresAndClearsReachEveryAxis, accountAlarmsDrainAndReturnAnAxis⟩

end Sys2Proof.FillSegments
end

section
/-!
SUPPORT. Recipes, trims and the product temperature (R59 to R64).
-/

namespace Sys2Proof.Recipes

open Sys2Proof Sys2Proof.Machine Sys2Proof.Safety Sys2Proof.Claims Sys2Proof.BottleTrack Sys2Proof.Track Sys2Proof.AxisMoves

theorem namesNoCamera_eq_false_iff (set : CameraSet) : namesNoCamera set = false ↔ set < (64#8 : CameraSet) := by
  revert set
  decide

theorem configure_eq_withSettings (s : State) (c : Settings) : s.configure c = withSettings s c := rfl

/-! ## Recipes (R59, R60) -/

/-- The recipe the values of a write name. -/
def recipeNamed (v : RecipeValues) : Recipe :=
  ⟨v.stroke, ⟨v.startSpeed, v.topSpeed, v.acceleration⟩, v.dwellBase, v.trimEnable == 1, v.window, v.cameras⟩

theorem recipeOf_fits {v : RecipeValues} (h : recipeFits v) : recipeOf v = some (recipeNamed v) := by
  obtain ⟨h1, h2, h3, h4, h5, h6, h7, h8, h9, h10, htrim, h12, h13, hcameras⟩ := h
  have hyes : yesNoOf v.trimEnable = some (v.trimEnable == 1) := by
    obtain hzero | hone := Nat.le_one_iff_eq_zero_or_eq_one.mp htrim
    · rw [hzero]; rfl
    · rw [hone]; rfl
  unfold recipeOf
  rw [hyes]
  refine if_pos ⟨h1, h2, ?_, h9, h10, h12, h13, ?_⟩
  · simp [profileInRange, h3, h4, h5, h6, h7, h8]
  · simp [(namesNoCamera_eq_false_iff v.cameras).mpr hcameras]

theorem recipeOf_unfit {v : RecipeValues} (h : ¬ recipeFits v) : recipeOf v = none := by
  unfold recipeOf
  split
  next => rfl
  next t ht =>
    refine if_neg fun ⟨h1, h2, hprofile, h9, h10, h12, h13, hcameras⟩ => h ?_
    simp only [profileInRange, Bool.and_eq_true, decide_eq_true_eq] at hprofile
    obtain ⟨⟨⟨⟨⟨h3, h4⟩, h5⟩, h6⟩, h7⟩, h8⟩ := hprofile
    have htrim : v.trimEnable ≤ 1 := by
      by_contra hlarge
      simp [yesNoOf_none (not_le.mp hlarge)] at ht
    exact ⟨h1, h2, h3, h4, h5, h6, h7, h8, h9, h10, htrim, h12, h13,
      (namesNoCamera_eq_false_iff v.cameras).mp (by simpa using hcameras)⟩

theorem carriers_eq_zero_iff (track : List Bottle) (n : RecipeNo) : carriers track n = 0 ↔ ∀ b ∈ track, b.recipe ≠ n := by
  simp [carriers, List.filter_eq_nil_iff]

theorem writeRecipe_eq (s : State) (n : RecipeNo) (r : Recipe) : s.writeRecipe n r
    = sending (withSettings s { s.cfg with recipes := s.cfg.recipes.set n r })
        (if n = s.fmu.active then [.activeCameraSetReport r.cameras] else []) := by
  unfold State.writeRecipe
  by_cases h : n = s.fmu.active
  · subst h
    simp only [if_true, State.reportActiveSet]
    rw [show (s.configure { s.cfg with recipes := s.cfg.recipes.set s.fmu.active r }).cfg.recipes[
      (s.configure { s.cfg with recipes := s.cfg.recipes.set s.fmu.active r }).fmu.active] = r from
        Vector.getElem_set_self (by omega)]
    rfl
  · simp only [if_neg h]
    exact (sendAll_nil _).symm

theorem recipesAreWrittenAndSelected : RecipesAreWrittenAndSelected := by
  refine ⟨fun number v s h hlevel => ⟨fun hbad => ?bad, fun hnumber hfits => ⟨fun hcarried => ?busy, fun hfree => ?write⟩⟩,
    fun number s h hlevel => ⟨fun hbad => ?noRecipe, fun hnumber => ?select⟩⟩
  case bad =>
    refine exec_taken h (execRecipeWrite number v) rfl rfl ?_
    rw [withLevel_reached (by exact hlevel)]
    by_cases hnumber : number < 16
    · rw [requireSome_met (finOf_some hnumber)]
      exact requireSome_failed (recipeOf_unfit (hbad.resolve_left (not_le.mpr hnumber))) _ _
    · exact requireSome_failed (finOf_none (not_lt.mp hnumber)) _ _
  case busy =>
    refine exec_taken h (execRecipeWrite number v) rfl rfl ?_
    rw [withLevel_reached (by exact hlevel), requireSome_met (finOf_some hnumber), requireSome_met (recipeOf_fits hfits)]
    refine require_failed ?_ _ _
    obtain ⟨b, hb, hrecipe⟩ := hcarried
    rw [beq_eq_false_iff_ne, Ne, carriers_eq_zero_iff]
    exact fun hfree => hfree b hb hrecipe
  case write =>
    refine exec_taken h (execRecipeWrite number v) rfl rfl ?_
    rw [withLevel_reached (by exact hlevel), requireSome_met (finOf_some hnumber), requireSome_met (recipeOf_fits hfits),
      require_met (by exact beq_iff_eq.mpr ((carriers_eq_zero_iff _ _).mpr hfree)), writeRecipe_eq]
    rfl
  case noRecipe =>
    refine exec_taken h (execRecipeSelect number) rfl rfl ?_
    rw [withLevel_reached (by exact hlevel)]
    exact requireSome_failed (finOf_none hbad) _ _
  case select =>
    refine exec_taken h (execRecipeSelect number) rfl rfl ?_
    rw [withLevel_reached (by exact hlevel), requireSome_met (finOf_some hnumber)]
    rfl

/-! ## The product temperature (R63, R64) -/

theorem setTempStale_eq (s : State) (stale : Bool) : s.setTempStale stale
    = sending { s with fmu := { s.fmu with tempStale := stale } } (change .tempStale s.fmu.tempStale stale) :=
  reportSource_eq_sending _ _ _ _

theorem productTemperatureAndItsDeadline : ProductTemperatureAndItsDeadline := by
  refine ⟨fun x s h hlevel => ⟨fun hbad => ?_, fun hlow hhigh => ?_⟩, fun s h => ⟨fun hdue => ?_, fun hwaits => ?_⟩⟩
  · refine exec_taken h (execProductTemp x) rfl rfl ?_
    rw [withLevel_reached (by exact hlevel)]
    refine require_failed ?_ _ _
    rw [Bool.and_eq_false_iff, decide_eq_false_iff_not, decide_eq_false_iff_not]
    omega
  · refine exec_taken h (execProductTemp x) rfl rfl ?_
    rw [withLevel_reached (by exact hlevel), require_met (by simp [hlow, hhigh]), State.takeTemperature, setTempStale_eq]
    rfl
  · exact exec_taken h execTempDeadlineExpiry rfl rfl ((if_pos hdue).trans (setTempStale_eq _ _))
  · exact exec_taken h execTempDeadlineExpiry rfl rfl (if_neg (not_le.mpr hwaits))

/-! ## Trims (R61, R62) -/

theorem trimsInRange_iff (first : Nat) (trims : List Int) : trimsInRange first trims = true
    ↔ 1 ≤ trims.length ∧ first + trims.length ≤ 32 ∧ ∀ t ∈ trims, -500 ≤ t ∧ t ≤ 500 := by
  simp only [trimsInRange, Bool.and_eq_true, decide_eq_true_eq, List.all_eq_true]
  refine ⟨fun ⟨⟨⟨⟨_, h1⟩, _⟩, h2⟩, h3⟩ => ⟨h1, h2, h3⟩, fun ⟨h1, h2, h3⟩ => ⟨⟨⟨⟨?_, h1⟩, ?_⟩, h2⟩, h3⟩⟩ <;> omega

theorem writeTrims_getElem (table : Vector Int 32) (first : Nat) (trims : List Int) (i : Fin 32) :
    (writeTrims table first trims)[i] = if first ≤ i.val ∧ i.val < first + trims.length then trims.getD (i.val - first) 0
      else table[i] := by
  have hget : (writeTrims table first trims)[i]
      = if first ≤ i.val then trims.getD (i.val - first) table[i] else table[i] := by
    simp [writeTrims]
  rw [hget]
  by_cases hlow : first ≤ i.val
  · by_cases hhigh : i.val < first + trims.length
    · have hin : i.val - first < trims.length := by omega
      rw [if_pos hlow, if_pos ⟨hlow, hhigh⟩, List.getD_eq_getElem _ _ hin, List.getD_eq_getElem _ _ hin]
    · rw [if_pos hlow, if_neg fun hb => hhigh hb.2, List.getD_eq_default _ _ (by omega)]
  · rw [if_neg hlow, if_neg fun hb => hlow hb.1]

theorem trimModeAfter_bad {mode : Nat} {index : Option Nat} (pinned : Nat)
    (h : 2 ≤ mode ∨ (∃ i, index = some i ∧ 32 ≤ i) ∨ (mode = 1 ∧ index = none)) : trimModeAfter mode index pinned = none := by
  obtain hmode | ⟨i, rfl, hi⟩ | ⟨rfl, rfl⟩ := h
  · obtain ⟨m, rfl⟩ := Nat.exists_eq_add_of_le' hmode
    rfl
  · have hlarge : ¬ i ≤ 31 := by omega
    unfold trimModeAfter
    split <;> simp_all
  · rfl

theorem trimsAreWrittenWhole : TrimsAreWrittenWhole := by
  refine ⟨fun first trims s h hlevel => ⟨fun hbad => ?bad, fun hfits => ⟨writeTrims s.cfg.trims first trims, ?write,
    writeTrims_getElem s.cfg.trims first trims⟩⟩,
    fun mode index s h hlevel => ⟨fun hbad => ?badMode, fun hmode hindex => ?auto, fun i hmode hindex hi => ?pinned⟩⟩
  case bad =>
    refine exec_taken h (execTrimWrite first trims) rfl rfl ?_
    rw [withLevel_reached (by exact hlevel)]
    exact require_failed (Bool.eq_false_iff.mpr (hbad ∘ (trimsInRange_iff first trims).mp)) _ _
  case write =>
    refine exec_taken h (execTrimWrite first trims) rfl rfl ?_
    rw [withLevel_reached (by exact hlevel), require_met ((trimsInRange_iff first trims).mpr hfits)]
    rfl
  all_goals refine exec_taken h (execTrimMode mode index) rfl rfl ((withLevel_reached (by exact hlevel) _).trans ?_)
  case badMode => exact requireSome_failed (trimModeAfter_bad _ hbad) _ _
  case auto =>
    have hafter : trimModeAfter mode index s.cfg.pinnedIndex = some (.auto, s.cfg.pinnedIndex) := by
      subst hmode
      cases index with
      | none => rfl
      | some i => exact if_pos (hindex i rfl)
    exact requireSome_met hafter _ _
  case pinned =>
    subst hmode hindex
    exact requireSome_met (if_pos hi) _ _

/-- Settles O18: recipes by their values and their carriers, trims whole, the temperature and its deadline. -/
theorem recipesTrimsAndTemperature : Obligations.RecipesTrimsAndTemperature :=
  ⟨recipesAreWrittenAndSelected, productTemperatureAndItsDeadline, trimsAreWrittenWhole⟩

end Sys2Proof.Recipes
end

section
/-!
SUPPORT. How the shared camera operations of chapter 4 change the state: counters, stale tags, the entries a camera
drops, its state changes and the reports of its two fault sources.
-/

namespace Sys2Proof.CameraWork

open Sys2Proof Sys2Proof.Machine Sys2Proof.Safety Sys2Proof.Claims Sys2Proof.BottleTrack Sys2Proof.Track Sys2Proof.AxisMoves

variable {s : State} {k : CameraNo} {c : Camera}

/-! ## One normal form: the camera is written last, after the reports and the notices -/

@[simp] theorem withCamera_eq_setCamera (s : State) (k : CameraNo) (c : Camera) : withCamera s k c = s.setCamera k c := rfl

@[simp] theorem sendAll_of_setCamera (s : State) (k : CameraNo) (c : Camera) (cs : List Instr) :
    (s.setCamera k c).sendAll cs = (s.sendAll cs).setCamera k c := rfl

@[simp] theorem post_of_setCamera (s : State) (k : CameraNo) (c : Camera) (n : Notice) :
    (s.setCamera k c).post n = (s.post n).setCamera k c := rfl

/-! ## Counters -/

theorem count_eq (c : Camera) (x : CameraCounter) : c.count x = { c with counters := counted c (cameraCounterIx x) 1 } := rfl

theorem counted_zero (c : Camera) (i : Fin 8) : counted c i 0 = c.counters := rfl

theorem counted_counted (c : Camera) (i : Fin 8) (m n : Nat) :
    counted { c with counters := counted c i m } i n = counted c i (m + n) := by
  by_cases hm : m = 0
  · subst hm
    rw [Nat.zero_add]
    rfl
  by_cases hn : n = 0
  · subst hn
    rfl
  unfold counted
  rw [if_neg hm, if_neg hn, if_neg (by omega)]
  simp only [Fin.getElem_fin, Vector.getElem_set_self, Vector.set_set]
  congr 1
  omega

/-! ## Stale tags (R78) -/

/-- The stale set after entries leave: their tags are in it. -/
def staled (c : Camera) (entries : List PendingEntry) : TagSet := entries.foldl (fun set e => withMember set e.tag) c.stale

theorem foldl_tags_getLsbD (entries : List PendingEntry) (set : TagSet) (t : Tag) :
    (entries.foldl (fun set e => withMember set e.tag) set).getLsbD t = (set.getLsbD t || entries.any fun e => e.tag == t) := by
  induction entries generalizing set with
  | nil => simp
  | cons e rest ih =>
    have hbit : (withMember set e.tag).getLsbD t = (set.getLsbD t || e.tag == t) := by
      simp only [withMember, BitVec.getLsbD_or, BitVec.getLsbD_shiftLeft, BitVec.getLsbD_one, beq_eq_decide, Fin.ext_iff]
      grind
    rw [List.foldl_cons, ih, hbit, List.any_cons, Bool.or_assoc]

theorem staleWith_staled (c : Camera) (entries : List PendingEntry) : staleWith c entries (staled c entries) :=
  foldl_tags_getLsbD entries c.stale

theorem tags_ext {x y : TagSet} (h : ∀ t : Tag, x.getLsbD t = y.getLsbD t) : x = y :=
  BitVec.eq_of_getLsbD_eq fun i hi => h ⟨i, hi⟩

theorem staled_of_staleWith {entries : List PendingEntry} {stale : TagSet} (h : staleWith c entries stale) :
    staled c entries = stale :=
  tags_ext fun t => (staleWith_staled c entries t).trans (h t).symm

theorem drop_eq (c : Camera) (leaves : PendingEntry → Bool) : c.drop leaves
    = { c with pending := c.pending.filter fun e => !leaves e, stale := staled c (c.pending.filter leaves) } := rfl

theorem drop_all (c : Camera) : (c.drop fun _ => true) = { c with pending := [], stale := staled c c.pending } := by
  rw [drop_eq]
  simp

/-! ## Reports of the pending entries -/

theorem reportVerdict_eq (s : State) (serial : Nat) (k : CameraNo) (v : Verdict) :
    s.reportVerdict serial k v = s.sendAll (verdictSent serial k v) := rfl

theorem reportPending_none (s : State) (k : CameraNo) (v : Verdict) :
    s.reportPending k v none = s.sendAll (resolvedReports k v (s.camera k).pending) := by
  unfold State.reportPending
  generalize (s.camera k).pending = entries
  induction entries generalizing s with
  | nil => exact (sendAll_nil s).symm
  | cons e rest ih =>
    rw [List.foldl_cons, ih]
    cases he : e.serial with
    | none => simp [resolvedReports, he]
    | some n => simp [resolvedReports, he, reportVerdict_eq]

theorem reportEntries_counted (entries : List PendingEntry) (s : State) (k : CameraNo) (v : Verdict) (x : CameraCounter) :
    entries.foldl (fun s e => match e.serial, some x with
        | some n, some c => (s.reportVerdict n k v).countCamera k c
        | some n, none => s.reportVerdict n k v
        | none, _ => s) s
      = (s.sendAll (resolvedReports k v entries)).setCamera k
          { s.camera k with counters := counted (s.camera k) (cameraCounterIx x) (named entries) } := by
  induction entries generalizing s with
  | nil =>
    simp [resolvedReports, named, counted_zero]
    exact (setCamera_camera s k).symm
  | cons e rest ih =>
    rw [List.foldl_cons, ih]
    cases he : e.serial with
    | none => simp [resolvedReports, named, he]
    | some n =>
      have hnamed : named (e :: rest) = 1 + named rest := by
        simp [named, he, Nat.add_comm]
      simp [State.countCamera, reportVerdict_eq, count_eq, counted_counted, hnamed, resolvedReports, he]

theorem reportPending_counted (s : State) (k : CameraNo) (v : Verdict) (x : CameraCounter) :
    s.reportPending k v (some x) = (s.sendAll (resolvedReports k v (s.camera k).pending)).setCamera k
      { s.camera k with counters := counted (s.camera k) (cameraCounterIx x) (named (s.camera k).pending) } :=
  reportEntries_counted (s.camera k).pending s k v x

theorem resolvePending_none (s : State) (k : CameraNo) (v : Verdict) : s.resolvePending k v none
    = (s.sendAll (resolvedReports k v (s.camera k).pending)).setCamera k
        { s.camera k with pending := [], stale := staled (s.camera k) (s.camera k).pending } := by
  unfold State.resolvePending
  rw [reportPending_none]
  simp [drop_all]

theorem resolvePending_counted (s : State) (k : CameraNo) (v : Verdict) (x : CameraCounter) : s.resolvePending k v (some x)
    = (s.sendAll (resolvedReports k v (s.camera k).pending)).setCamera k { s.camera k with
        pending := [], stale := staled (s.camera k) (s.camera k).pending
        counters := counted (s.camera k) (cameraCounterIx x) (named (s.camera k).pending) } := by
  unfold State.resolvePending
  rw [reportPending_counted]
  simp [drop_all]
  rfl

/-! ## A camera's state, and the two fault sources (R76, R80) -/

theorem someOffline_eq (x : Ctu) : someOffline x = anyOffline x := by
  rw [Bool.eq_iff_iff]
  simp only [someOffline, anyOffline, List.any_eq_true, Bool.and_eq_true, beq_iff_eq, decide_eq_true_eq]
  exact ⟨fun ⟨k, _, h⟩ => ⟨k, h⟩, fun ⟨k, h⟩ => ⟨k, mem_cameraNos k, h⟩⟩

theorem someFaulted_eq (x : Ctu) : someFaulted x = anyFaulted x := by
  rw [Bool.eq_iff_iff]
  simp only [someFaulted, anyFaulted, List.any_eq_true, beq_iff_eq, decide_eq_true_eq]
  exact ⟨fun ⟨k, _, h⟩ => ⟨k, h⟩, fun ⟨k, h⟩ => ⟨k, mem_cameraNos k, h⟩⟩

theorem reportCameraSources_eq (s : State) (before : Ctu) : s.reportCameraSources before = sending s (cameraChanges before s.ctu) := by
  unfold State.reportCameraSources
  rw [reportSource_eq_sending, reportSource_eq_sending, sending_sending, someOffline_eq, someOffline_eq, someFaulted_eq,
    someFaulted_eq]
  rfl

theorem setCameraState_same {new : CameraState} (h : (s.camera k).state = new) (cause : CameraCause) :
    s.setCameraState k new cause = s := if_pos h

theorem setCameraState_changes {new : CameraState} (h : (s.camera k).state ≠ new) (cause : CameraCause) :
    s.setCameraState k new cause = becomes s k (s.camera k) new cause := by
  unfold State.setCameraState
  dsimp only
  rw [if_neg h, reportCameraSources_eq]
  rfl

theorem setCamera_state (h : c.state = (s.camera k).state) (j : CameraNo) :
    (s.setCamera k c).ctu.cameras[j].state = s.ctu.cameras[j].state := by
  by_cases hj : j = k
  · subst hj
    exact (congrArg Camera.state (setCamera_camera_self s j c)).trans h
  · exact congrArg Camera.state (setCamera_camera_ne hj c)

theorem cameraChanges_setCamera (h : c.state = (s.camera k).state) (after : Ctu) :
    cameraChanges (s.setCamera k c).ctu after = cameraChanges s.ctu after := by
  have hoff : anyOffline (s.setCamera k c).ctu = anyOffline s.ctu := by
    unfold anyOffline
    simp only [setCamera_state h]
    rfl
  have hfault : anyFaulted (s.setCamera k c).ctu = anyFaulted s.ctu := by
    unfold anyFaulted
    simp only [setCamera_state h]
  unfold cameraChanges
  rw [hoff, hfault]

/-- A state change of a camera just written is one change, as long as the write kept the camera's state. -/
theorem setCameraState_setCamera (h : c.state = (s.camera k).state) {new : CameraState} (hnew : c.state ≠ new)
    (cause : CameraCause) : (s.setCamera k c).setCameraState k new cause = becomes s k c new cause := by
  rw [setCameraState_changes (by simpa using hnew), setCamera_camera_self]
  unfold becomes
  dsimp only
  rw [cameraChanges_setCamera h]
  simp

theorem becomes_camera (s : State) (k : CameraNo) (c : Camera) (new : CameraState) (cause : CameraCause) :
    (becomes s k c new cause).camera k = { c with state := new } := by
  simp [becomes]

/-! ## Pulses -/

theorem tagTaken_iff (c : Camera) : c.tagTaken = true ↔ ¬ tagFree c := by
  unfold Camera.tagTaken tagFree
  rw [not_and_or, Bool.or_eq_true, Bool.not_eq_false, List.any_eq_true]
  simp

theorem firePulse_eq (s : State) (k : CameraNo) (serial : Option Nat) (pitch : Pitch) (expiry : Option Pitch) :
    s.firePulse k serial pitch expiry = pulses s k (s.camera k) serial pitch expiry := rfl

theorem countCamera_eq (s : State) (k : CameraNo) (x : CameraCounter) : s.countCamera k x
    = s.setCamera k { s.camera k with counters := counted (s.camera k) (cameraCounterIx x) 1 } := rfl

end Sys2Proof.CameraWork
end

section
/-!
SUPPORT. The line trigger's cases, the windows' end and the pitch event at the cameras (R69 to R73).
-/

namespace Sys2Proof.CameraWork

open Sys2Proof Sys2Proof.Machine Sys2Proof.Safety Sys2Proof.Claims Sys2Proof.BottleTrack Sys2Proof.Track Sys2Proof.AxisMoves

/-! ## The line trigger (R70) -/

/-- The state in which a scheduled trigger meets its cases: the schedule is empty and the stage is reported. -/
def stageReported (s : State) (k : CameraNo) (sc : Scheduled) : State :=
  sending (withCamera s k { s.camera k with scheduled := none }) [.acuReport (.lineStage sc.serial k)]

section
variable {s : State} {k : CameraNo} {sc : Scheduled}

theorem takeTrigger_scheduled (h : (s.camera k).scheduled = some sc) :
    s.takeTrigger k = (stageReported s k sc).triggerCases k sc := by
  unfold State.takeTrigger
  dsimp only
  rw [h]
  rfl

theorem takeTrigger_unscheduled (h : (s.camera k).scheduled = none) : s.takeTrigger k = s := by
  unfold State.takeTrigger
  dsimp only
  rw [h]

theorem triggerCases_offline (h : (s.camera k).state = .offline) :
    s.triggerCases k sc = sending s (verdictSent sc.serial k .offline) := by
  unfold State.triggerCases
  dsimp only
  rw [h]
  rfl

theorem triggerCases_test (h : (s.camera k).state = .test) :
    s.triggerCases k sc = sending s (verdictSent sc.serial k .testing) := by
  unfold State.triggerCases
  dsimp only
  rw [h]
  rfl

theorem triggerCases_faulted (h : (s.camera k).state = .faulted) : s.triggerCases k sc
    = withCamera (sending s (verdictSent sc.serial k .fault)) k { s.camera k with counters := counted (s.camera k) 5 1 } := by
  change _ = (s.reportVerdict sc.serial k .fault).countCamera k .fault
  unfold State.triggerCases
  dsimp only
  rw [h]

theorem triggerCases_ready (h : (s.camera k).state = .ready) : s.triggerCases k sc =
    if s.faultLine k then s.faultAtTrigger k sc.serial
    else if (s.camera k).tagTaken then (s.reportVerdict sc.serial k .overrun).countCamera k .overrun
    else s.firePulse k (some sc.serial) sc.pitch (some (sc.pitch + BitVec.ofNat 32 s.cfg.cameras[k].window)) := by
  unfold State.triggerCases
  dsimp only
  rw [h]

theorem faultAtTrigger_eq (h : (s.camera k).state = .ready) (serial : Nat) : s.faultAtTrigger k serial
    = withCamera (sending (becomes s k (s.camera k) .faulted .cflt)
        (verdictSent serial k .fault ++ resolvedReports k .fault (s.camera k).pending)) k
      { s.camera k with
        state := .faulted, pending := [], stale := staled (s.camera k) (s.camera k).pending
        counters := counted (s.camera k) 5 (1 + named (s.camera k).pending) } := by
  unfold State.faultAtTrigger
  rw [setCameraState_changes (by simp [h]), countCamera_eq, resolvePending_counted]
  simp only [reportVerdict_eq, setCamera_camera_self, sendAll_camera, becomes_camera, sendAll_of_setCamera, setCamera_setCamera,
    AxisMoves.sendAll_of_sendAll, withCamera_eq_setCamera, AxisMoves.sending_eq_sendAll]
  rw [← counted_counted]
  rfl

end

/-- Settles O19: the first case that holds when the trigger comes, with the camera's schedule emptied. -/
theorem lineTriggerTakesTheFirstCase : Obligations.LineTriggerTakesTheFirstCase := by
  intro k s sc hsc
  have hcamera : (stageReported s k sc).camera k = { s.camera k with scheduled := none } := by simp [stageReported]
  refine ⟨fun h => ?_, fun h => ?_, fun h => ?_, fun stale h hline hstale _ => ?_, fun h hline hfree => ?_,
    fun h hline hfree => ?_⟩ <;> rw [takeTrigger_scheduled hsc]
  · exact triggerCases_offline (by rw [hcamera]; exact h)
  · exact triggerCases_test (by rw [hcamera]; exact h)
  · rw [triggerCases_faulted (by rw [hcamera]; exact h), hcamera]
    rfl
  · rw [triggerCases_ready (by rw [hcamera]; exact h), if_pos (by exact hline), faultAtTrigger_eq (by rw [hcamera]; exact h),
      hcamera, staled_of_staleWith hstale]
    rfl
  · rw [triggerCases_ready (by rw [hcamera]; exact h), if_neg (by exact Bool.eq_false_iff.mp hline),
      if_pos (by rw [hcamera]; exact (tagTaken_iff _).mpr hfree), countCamera_eq, reportVerdict_eq, sendAll_camera, hcamera]
    rfl
  · rw [triggerCases_ready (by rw [hcamera]; exact h), if_neg (by exact Bool.eq_false_iff.mp hline),
      if_neg (by rw [hcamera]; exact fun htaken => (tagTaken_iff _).mp htaken hfree), firePulse_eq, hcamera]
    rfl

/-! ## The end of the windows (R69) -/

section
variable {s : State} {k : CameraNo}

theorem expireEntry_eq (s : State) (k : CameraNo) (e : PendingEntry) : s.expireEntry k e
    = (s.sendAll (resolvedReports k .timeout [e])).setCamera k { s.camera k with
        pending := (s.camera k).pending.filter fun x => x != e
        stale := staled (s.camera k) ((s.camera k).pending.filter fun x => x == e)
        counters := counted (s.camera k) 3 1 } := by
  unfold State.expireEntry
  cases he : e.serial with
  | none => simp [resolvedReports, he, countCamera_eq, drop_eq]; rfl
  | some n => simp [resolvedReports, he, countCamera_eq, drop_eq, reportVerdict_eq]; rfl

theorem expireEntries_eq (l : List PendingEntry) (s : State) (k : CameraNo) : ∃ stale : TagSet,
    (∀ t : Tag, stale.getLsbD t
      = ((s.camera k).stale.getLsbD t || (s.camera k).pending.any fun e => decide (e ∈ l) && e.tag == t))
    ∧ l.foldl (fun s e => s.expireEntry k e) s = (s.sendAll (resolvedReports k .timeout l)).setCamera k { s.camera k with
        pending := (s.camera k).pending.filter fun e => decide (e ∉ l), stale := stale
        counters := counted (s.camera k) 3 l.length } := by
  induction l generalizing s with
  | nil =>
    refine ⟨(s.camera k).stale, by simp, ?_⟩
    simp [resolvedReports, counted_zero]
    exact (setCamera_camera s k).symm
  | cons e rest ih =>
    obtain ⟨stale, hbits, hfold⟩ := ih (s.expireEntry k e)
    refine ⟨stale, fun t => ?_, ?_⟩
    · rw [hbits t, expireEntry_eq, setCamera_camera_self]
      dsimp only
      rw [staleWith_staled, Bool.or_assoc]
      congr 1
      rw [Bool.eq_iff_iff]
      simp only [Bool.or_eq_true, List.any_eq_true, List.mem_filter, Bool.and_eq_true, decide_eq_true_eq, beq_iff_eq,
        bne_iff_ne, List.mem_cons]
      constructor
      · rintro (⟨x, ⟨hx, rfl⟩, htag⟩ | ⟨x, ⟨hx, _⟩, hrest, htag⟩)
        · exact ⟨x, hx, .inl rfl, htag⟩
        · exact ⟨x, hx, .inr hrest, htag⟩
      · rintro ⟨x, hx, hin, htag⟩
        by_cases hxe : x = e
        · exact .inl ⟨x, ⟨hx, hxe⟩, htag⟩
        · exact .inr ⟨x, ⟨hx, hxe⟩, hin.resolve_left hxe, htag⟩
    · rw [List.foldl_cons, hfold, expireEntry_eq]
      have hreports : resolvedReports k .timeout (e :: rest)
          = resolvedReports k .timeout [e] ++ resolvedReports k .timeout rest := by simp [resolvedReports]
      have hlength : (e :: rest).length = 1 + rest.length := by simp [Nat.add_comm]
      have hpending : ((s.camera k).pending.filter fun x => x != e).filter (fun x => decide (x ∉ rest))
          = (s.camera k).pending.filter fun x => decide (x ∉ e :: rest) := by
        rw [List.filter_filter]
        refine List.filter_congr fun x _ => ?_
        simp [bne, beq_eq_decide, Bool.and_comm]
      rw [hreports, hlength, ← counted_counted, ← hpending]
      simp only [setCamera_camera_self, sendAll_of_setCamera, setCamera_setCamera, AxisMoves.sendAll_of_sendAll]
      rfl

theorem expireWindows_due {pitch : Pitch} {stale : TagSet}
    (hstale : staleWith (s.camera k) ((s.camera k).pending.filter fun e => e.expiryPitch == some pitch) stale)
    : s.expireWindows k pitch = withCamera (sending s (resolvedReports k .timeout
        ((s.camera k).pending.filter fun e => e.expiryPitch == some pitch))) k { s.camera k with
      pending := (s.camera k).pending.filter fun e => e.expiryPitch != some pitch, stale := stale
      counters := counted (s.camera k) 3 ((s.camera k).pending.filter fun e => e.expiryPitch == some pitch).length } := by
  obtain ⟨stale', hbits, hfold⟩ := expireEntries_eq ((s.camera k).pending.filter fun e => e.expiryPitch == some pitch) s k
  have hpending : (s.camera k).pending.filter (fun e => decide
      (e ∉ (s.camera k).pending.filter fun e => e.expiryPitch == some pitch))
        = (s.camera k).pending.filter fun e => e.expiryPitch != some pitch := by
    refine List.filter_congr fun x hx => ?_
    simp [hx, bne, beq_eq_decide]
  have heq : stale' = stale := by
    refine tags_ext fun t => (hbits t).trans ?_
    rw [hstale t, List.any_filter]
    congr 1
    rw [Bool.eq_iff_iff]
    simp only [List.any_eq_true, List.mem_filter, Bool.and_eq_true, decide_eq_true_eq]
    exact exists_congr fun x => by tauto
  rw [State.expireWindows, hfold, hpending, heq]
  rfl

theorem expireWindows_none {pitch : Pitch} (h : ((s.camera k).pending.filter fun e => e.expiryPitch == some pitch) = []) :
    s.expireWindows k pitch = s := by
  rw [State.expireWindows, h]
  rfl

/-! ## The pitch event (R69, R71) -/

theorem effectiveStep_eq (s : State) (k : CameraNo) : effectiveStep s.cfg k = stepOffset s k := by
  unfold effectiveStep stepOffset
  split <;> omega

theorem expireWindows_cfg (s : State) (k : CameraNo) (pitch : Pitch) : (s.expireWindows k pitch).cfg = s.cfg :=
  (cameraOnly_expireWindows k s pitch).1 .cfg (by decide)

theorem schedule_due {records : List Announced} {a : Announced} (h : dueRecord s.cfg k records = some a) (pitch : Pitch) :
    s.schedule k pitch records = withCamera s k { s.camera k with scheduled := some ⟨a.serial, pitch⟩ } := by
  unfold State.schedule
  rw [h]
  rfl

theorem schedule_none {records : List Announced} (h : dueRecord s.cfg k records = none) (pitch : Pitch) :
    s.schedule k pitch records = s := by
  unfold State.schedule
  rw [h]

theorem cameraPitch_eq (s : State) (k : CameraNo) (pitch : Pitch) (records : List Announced) : s.cameraPitch pitch records k
    = if stepOffset s k = 0 then ((s.expireWindows k pitch).schedule k pitch records).takeTrigger k
      else (s.expireWindows k pitch).schedule k pitch records := by
  rw [← effectiveStep_eq]
  rfl

theorem exec_lineTrigger (h : running s) (n : Nat) : exec (.lineTrigger n) s = .next (if n = 0 then s.received (.lineTrigger n)
    else [(0 : CameraNo), 1, 2, 3, 4, 5].foldl (fun t k => if stepOffset t k = n then t.takeTrigger k else t)
      (s.received (.lineTrigger n))) := by
  refine exec_taken h (execLineTrigger n) rfl rfl ?_
  simp only [effectiveStep_eq]
  rfl

end

/-- Settles O20: the cameras in turn; a camera by its entries due, its record in place and its trigger step. -/
theorem pitchEventExpiresSchedulesTriggers : Obligations.PitchEventExpiresSchedulesTriggers := by
  refine ⟨fun pitch records s h => exec_taken h (execCtuPitchEvent pitch records) rfl rfl rfl, fun n s h => exec_lineTrigger h n,
    fun k pitch s => ⟨fun h => exec_taken h (execVerdictWindowExpiry k pitch) rfl rfl rfl,
      fun stale _ hstale _ => expireWindows_due hstale, expireWindows_none, takeTrigger_unscheduled, fun records =>
      ⟨fun before a after hlist ha hbefore => ?_, fun hnone => ?_⟩⟩⟩
  · have hdue : dueRecord s.cfg k records = some a := by
      obtain ⟨hposition, hcamera⟩ := ha
      rw [dueRecord, hlist, List.find?_append, List.find?_eq_none.mpr fun b hb => ?_, Option.none_or,
        List.find?_cons_of_pos (by simp only [hposition, hcamera, beq_self_eq_true, Bool.and_self])]
      simpa using fun hp hc => hbefore b hb ⟨hp, hc⟩
    rw [cameraPitch_eq, schedule_due (by rw [expireWindows_cfg]; exact hdue)]
  · have hdue : dueRecord s.cfg k records = none := List.find?_eq_none.mpr fun b hb => by
      simpa using fun hp hc => hnone b hb ⟨hp, hc⟩
    rw [cameraPitch_eq, schedule_none (by rw [expireWindows_cfg]; exact hdue)]

end Sys2Proof.CameraWork
end

section
/-!
SUPPORT. Verdicts by their tags, bindings, departures, and the cameras' requests (R72 to R84).
-/

namespace Sys2Proof.CameraWork

open Sys2Proof Sys2Proof.Machine Sys2Proof.Safety Sys2Proof.Claims Sys2Proof.BottleTrack Sys2Proof.Track Sys2Proof.AxisMoves

section
variable {s : State} {k : CameraNo}

/-! ## Verdicts (R72, R73) -/

theorem find_tag {before after : List PendingEntry} {e : PendingEntry} {tag : Tag} (htag : e.tag = tag)
    (hothers : ∀ x ∈ before ++ after, x.tag ≠ tag) :
    (before ++ e :: after).find? (fun x => x.tag == tag) = some e := by
  rw [List.find?_append, List.find?_eq_none.mpr fun x hx => by simpa using hothers x (List.mem_append_left _ hx),
    Option.none_or, List.find?_cons_of_pos (by simp [htag])]

theorem filter_tag {before after : List PendingEntry} {e : PendingEntry} {tag : Tag} (htag : e.tag = tag)
    (hothers : ∀ x ∈ before ++ after, x.tag ≠ tag) :
    (before ++ e :: after).filter (fun x => x.tag != e.tag) = before ++ after := by
  have hkept (l : List PendingEntry) (h : ∀ x ∈ l, x.tag ≠ tag) : l.filter (fun x => x.tag != e.tag) = l :=
    List.filter_eq_self.mpr fun x hx => by simpa [htag] using h x hx
  rw [List.filter_append, List.filter_cons_of_neg (by simp), hkept before fun x hx => hothers x (List.mem_append_left _ hx),
    hkept after fun x hx => hothers x (List.mem_append_right _ hx)]

theorem bindVerdict_serial {ng : Bool} {e : PendingEntry} {n : Nat} (h : e.serial = some n) : s.bindVerdict k ng e
    = withCamera (sending s (verdictSent n k (if ng then .ng else .ok))) k { s.camera k with
        pending := (s.camera k).pending.filter fun x => x.tag != e.tag
        counters := counted (s.camera k) (if ng then 2 else 1) 1 } := by
  unfold State.bindVerdict
  rw [h]
  dsimp only
  rw [countCamera_eq, reportVerdict_eq]
  cases ng <;> simp <;> rfl

theorem bindVerdict_test {ng : Bool} {e : PendingEntry} (h : e.serial = none) : s.bindVerdict k ng e
    = (withCamera s k { s.camera k with pending := (s.camera k).pending.filter fun x => x.tag != e.tag }).post
        (.testVerdict k e.tag ng e.stamp) := by
  unfold State.bindVerdict
  rw [h]
  rfl

theorem verdictArrival_bound {ng : Bool} {tag : Tag} {e : PendingEntry} (h : running s)
    (hfind : (s.camera k).pending.find? (fun e => e.tag == tag) = some e) : exec (.verdictArrival k ng tag) s
      = .next ((s.received (.verdictArrival k ng tag)).bindVerdict k ng e) := by
  refine exec_taken h (execVerdictArrival k ng tag) rfl rfl ?_
  dsimp only
  rw [show ((s.received (.verdictArrival k ng tag)).camera k).pending.find? (fun e => e.tag == tag) = some e from hfind]

theorem verdictArrival_unbound {ng : Bool} {tag : Tag} (h : running s) (hnone : ∀ e ∈ (s.camera k).pending, e.tag ≠ tag) :
    exec (.verdictArrival k ng tag) s = .next (
      let r := s.received (.verdictArrival k ng tag)
      if (s.camera k).stale.getLsbD tag then
        (r.setCamera k { s.camera k with stale := withoutMember (s.camera k).stale tag }).countCamera k .late
      else (r.countCamera k .stray).post (.strayVerdict k tag ng)) := by
  refine exec_taken h (execVerdictArrival k ng tag) rfl rfl ?_
  dsimp only
  rw [show ((s.received (.verdictArrival k ng tag)).camera k).pending.find? (fun e => e.tag == tag) = none from
    List.find?_eq_none.mpr fun e he => by simpa using hnone e he]
  rfl

end

/-- Settles O21: a verdict by the entry that has its tag, else by the stale set; the pulse by its end time. -/
theorem verdictArrivalsResolveByTag : Obligations.VerdictArrivalsResolveByTag := by
  refine ⟨fun k ng tag s h => ⟨fun before e after n hlist htag hothers hserial => ?_,
    fun before e after hlist htag hothers hserial => ?_, fun hnone hstale => ?_, fun hnone hstale => ?_⟩,
    fun k s h => ⟨fun t hend hdue => ?_, fun hwaits => ?_⟩⟩
  · refine (verdictArrival_bound h (by rw [hlist]; exact find_tag htag hothers)).trans (congrArg _ ?_)
    rw [bindVerdict_serial hserial, ← filter_tag htag hothers, ← hlist]
    rfl
  · refine (verdictArrival_bound h (by rw [hlist]; exact find_tag htag hothers)).trans (congrArg _ ?_)
    rw [bindVerdict_test hserial, ← filter_tag htag hothers, ← hlist, htag]
    rfl
  · refine (verdictArrival_unbound h hnone).trans (congrArg _ ((if_pos hstale).trans ?_))
    simp [countCamera_eq]
    rfl
  · exact (verdictArrival_unbound h hnone).trans (congrArg _ (if_neg (Bool.eq_false_iff.mp hstale)))
  · refine exec_taken h (execTriggerPulseEnd k) rfl rfl ?_
    dsimp only
    rw [show ((s.received (.triggerPulseEnd k)).camera k).trigEnd = some t from hend]
    exact if_pos hdue
  · refine exec_taken h (execTriggerPulseEnd k) rfl rfl ?_
    dsimp only
    obtain hnone | ⟨t, hend, hlater⟩ := hwaits
    · rw [show ((s.received (.triggerPulseEnd k)).camera k).trigEnd = none from hnone]
    · rw [show ((s.received (.triggerPulseEnd k)).camera k).trigEnd = some t from hend]
      exact if_neg (not_le.mpr hlater)

/-! ## Bindings and the active set (R75, R76) -/

section
variable {s : State} {k : CameraNo}

theorem exec_cameraBindingChange (h : running s) (k : CameraNo) (b : UpDown) : exec (.cameraBindingChange k b) s = .next (
    let r := s.received (.cameraBindingChange k b)
    if (s.camera k).binding = .up ∧ b = .down then r.loseCamera k else withCamera r k { s.camera k with binding := b }) :=
  exec_taken h (execCameraBindingChange k b) rfl rfl rfl

theorem loseCamera_offline (h : (s.camera k).state = .offline) :
    s.loseCamera k = withCamera s k { s.camera k with binding := .down } := if_pos h

theorem loseCamera_online {stale : TagSet} (h : (s.camera k).state ≠ .offline)
    (hstale : staleWith (s.camera k) (s.camera k).pending stale) :
    let lost := { s.camera k with binding := .down, testGrant := none }
    s.loseCamera k = withCamera
      (sending (becomes s k lost .offline .bindingLost) (resolvedReports k .offline (s.camera k).pending)) k
      { lost with state := .offline, pending := [], stale := stale } := by
  intro lost
  have hstate : (s.setCamera k lost).setCameraState k .offline .bindingLost = becomes s k lost .offline .bindingLost :=
    setCameraState_setCamera (c := lost) rfl (by exact h) _
  unfold State.loseCamera
  dsimp only
  rw [if_neg h]
  simp only [setCamera_camera_self, setCamera_setCamera]
  rw [show (s.setCamera k _).setCameraState k .offline .bindingLost = _ from hstate, resolvePending_none, becomes_camera]
  rw [show staled { lost with state := .offline } (s.camera k).pending = stale from staled_of_staleWith hstale]
  rfl

theorem cameraBindingsAndTheActiveSet : CameraBindingsAndTheActiveSet := by
  refine ⟨fun k s h => ⟨fun hgone => ?_, fun stale hup hstate hstale => ?_, ?_⟩, fun cameras s h => ?_⟩
  · refine (exec_cameraBindingChange h k .down).trans (congrArg _ ?_)
    obtain hdown | hoffline := hgone
    · exact if_neg (by simp [hdown])
    · exact (ite_congr rfl (fun _ => loseCamera_offline (by exact hoffline)) fun _ => rfl).trans (ite_self _)
  · exact (exec_cameraBindingChange h k .down).trans (congrArg _ ((if_pos ⟨hup, rfl⟩).trans
      (loseCamera_online (by exact hstate) (by exact hstale))))
  · exact (exec_cameraBindingChange h k .up).trans (congrArg _ (if_neg (by simp)))
  · exact exec_taken h (execActiveCameraSetReport cameras) rfl rfl (reportCameraSources_eq _ _)

/-! ## Departures, line clear and closings (R74, R77, R82) -/

/-- The state after each camera of a list was rewritten by `g`. -/
theorem foldl_setCamera {g : Camera → Camera} {l : List CameraNo} (hl : l.Nodup) (s : State) :
    ∃ t : Vector Camera 6, l.foldl (fun s k => s.setCamera k (g (s.camera k))) s = { s with ctu := { s.ctu with cameras := t } }
      ∧ ∀ k : CameraNo, t[k] = if k ∈ l then g (s.camera k) else s.camera k := by
  induction l generalizing s with
  | nil => exact ⟨s.ctu.cameras, rfl, fun k => rfl⟩
  | cons j rest ih =>
    obtain ⟨hj, hrest⟩ := List.nodup_cons.mp hl
    obtain ⟨t, hfold, hget⟩ := ih hrest (s.setCamera j (g (s.camera j)))
    refine ⟨t, hfold, fun k => (hget k).trans ?_⟩
    by_cases hk : k = j
    · subst hk
      rw [if_neg hj, if_pos (List.mem_cons_self ..), setCamera_camera_self]
    · rw [setCamera_camera_ne hk]
      exact if_congr (by simp [hk]) rfl rfl

theorem foldl_cameras (g : Camera → Camera) (s : State) :
    ∃ t : Vector Camera 6, cameraNos.foldl (fun s k => s.setCamera k (g (s.camera k))) s
        = { s with ctu := { s.ctu with cameras := t } } ∧ ∀ k : CameraNo, t[k] = g (s.camera k) := by
  obtain ⟨t, hfold, hget⟩ := foldl_setCamera (g := g) (l := cameraNos) (by decide) s
  exact ⟨t, hfold, fun k => (hget k).trans (if_pos (mem_cameraNos k))⟩

theorem leaveTest_leaves (h : (s.camera k).state = .test) (cause : CameraCause) : leavesTest s k cause (s.leaveTest k cause) := by
  refine ⟨_, staleWith_staled _ _, ?_⟩
  have hleft : ((s.camera k).drop fun e => e.serial.isNone) = { s.camera k with
      pending := (s.camera k).pending.filter fun e => e.serial.isSome
      stale := staled (s.camera k) ((s.camera k).pending.filter fun e => e.serial.isNone) } := by
    rw [drop_eq]
    simp
  unfold State.leaveTest
  rw [hleft]
  refine setCameraState_setCamera ?_ ?_ cause
  · rfl
  · simp [h]

theorem departuresClearsAndClosingsAtTheCameras : DeparturesClearsAndClosingsAtTheCameras := by
  refine ⟨fun serial s h => ?_, fun s h => ?_, fun grant s h => exec_taken h (execCtuGrantClosingStart grant) rfl rfl rfl,
    fun k cause s hstate => leaveTest_leaves hstate cause⟩
  · obtain ⟨t, hfold, hget⟩ := foldl_cameras (fun c => c.drop fun e => e.serial == some serial)
      (s.received (.ctuDeparture serial))
    exact ⟨t, exec_taken h (execCtuDeparture serial) rfl rfl hfold, fun k => ⟨_, staleWith_staled _ _, (hget k).trans rfl⟩⟩
  · obtain ⟨t, hfold, hget⟩ := foldl_cameras (fun c => { c.drop (fun _ => true) with scheduled := none })
      (s.received .ctuLineClear)
    exact ⟨t, exec_taken h execCtuLineClear rfl rfl hfold,
      fun k => ⟨_, staleWith_staled _ _, (hget k).trans (by rw [drop_all]; rfl)⟩⟩

end

/-- Settles O22: bindings and the active set; departures, clears and closings at each camera. -/
theorem bindingsDeparturesAndClosingsAtTheCameras : Obligations.BindingsDeparturesAndClosingsAtTheCameras :=
  ⟨cameraBindingsAndTheActiveSet, departuresClearsAndClosingsAtTheCameras⟩

end Sys2Proof.CameraWork
end

section
/-!
SUPPORT. The members of re-arm, camera test and test trigger, and the requests that run them (R79, R82 to R84).
-/

namespace Sys2Proof.CameraWork

open Sys2Proof Sys2Proof.Machine Sys2Proof.Safety Sys2Proof.Claims Sys2Proof.BottleTrack Sys2Proof.Track Sys2Proof.AxisMoves
open Sys2Proof.Recipes

section
variable {s : State} {k : CameraNo}

/-! ## Re-arm (R79) -/

/-- A camera re-armed: no entry, no stale tag, the tags from the first, the entries it had counted as faults. -/
def rearmed (c : Camera) : Camera :=
  { c with pending := [], stale := 0, nextTag := 0, counters := counted c 5 (named c.pending) }

theorem rearmMember_refused (h : (s.camera k).binding = .down ∨ s.inputs.cflt.getLsbD k = true ∨ (s.camera k).state = .test) :
    rearmMember k s = (s, .refused .state) := if_pos h

theorem rearmMember_eq (hup : (s.camera k).binding = .up) (hline : s.inputs.cflt.getLsbD k = false)
    (hstate : (s.camera k).state ≠ .test) : rearmMember k s
      = (((s.sendAll (resolvedReports k .fault (s.camera k).pending)).setCamera k (rearmed (s.camera k))).setCameraState k
          .ready .rearm, .ok) := by
  unfold rearmMember
  dsimp only
  rw [if_neg (by rw [State.faultLine, hline]; simp [hup, hstate]), reportPending_counted]
  simp only [setCamera_camera_self, setCamera_setCamera]
  rfl

theorem rearmMember_ready (hup : (s.camera k).binding = .up) (hline : s.inputs.cflt.getLsbD k = false)
    (hstate : (s.camera k).state = .ready) : rearmMember k s
      = (withCamera (sending s (resolvedReports k .fault (s.camera k).pending)) k (rearmed (s.camera k)), .ok) := by
  rw [rearmMember_eq hup hline (by simp [hstate]), setCameraState_same (by simpa [rearmed] using hstate)]
  rfl

theorem rearmMember_returns (hup : (s.camera k).binding = .up) (hline : s.inputs.cflt.getLsbD k = false)
    (hstate : (s.camera k).state = .offline ∨ (s.camera k).state = .faulted) : rearmMember k s
      = (becomes (sending s (resolvedReports k .fault (s.camera k).pending)) k (rearmed (s.camera k)) .ready .rearm, .ok) := by
  have hne : (s.camera k).state ≠ .test ∧ (s.camera k).state ≠ .ready := by
    obtain h | h := hstate <;> simp [h]
  obtain ⟨htest, hready⟩ := hne
  rw [rearmMember_eq hup hline htest]
  congr 1
  refine setCameraState_setCamera ?_ ?_ .rearm
  · rfl
  · exact hready

/-! ## Camera test (R82, R83) -/

theorem testMember_on (g : Nat) (h : (s.camera k).state = .ready) :
    testMember g true k s = (becomes s k { s.camera k with testGrant := some g } .test .testOn, .ok) := by
  have hchange : (s.setCamera k { s.camera k with testGrant := some g }).setCameraState k .test .testOn
      = becomes s k { s.camera k with testGrant := some g } .test .testOn := by
    refine setCameraState_setCamera ?_ ?_ .testOn
    · rfl
    · simp [h]
  rw [← hchange]
  unfold testMember
  dsimp only
  split <;> simp_all

theorem testMember_on_test (g : Nat) (h : (s.camera k).state = .test) :
    testMember g true k s = if (s.camera k).testGrant = some g then (s, .ok) else (s, .refused .state) := by
  unfold testMember
  dsimp only
  rw [h]

theorem testMember_on_unfit (g : Nat) (h : (s.camera k).state = .offline ∨ (s.camera k).state = .faulted) :
    testMember g true k s = (s, .refused .state) := by
  unfold testMember
  obtain h | h := h <;> dsimp only <;> rw [h]

theorem testMember_off_test (g : Nat) (h : (s.camera k).state = .test) :
    testMember g false k s = (s.leaveTest k .testOff, .ok) := by
  unfold testMember
  dsimp only
  rw [h]

theorem testMember_off (g : Nat) (h : (s.camera k).state ≠ .test) : testMember g false k s = (s, .ok) := by
  unfold testMember
  dsimp only
  cases hstate : (s.camera k).state
  case test => exact absurd hstate h
  all_goals rfl

/-! ## Test trigger (R84) -/

theorem testTriggerMember_other {g : Nat} (h : ¬ ((s.camera k).state = .test ∧ (s.camera k).testGrant = some g)) :
    testTriggerMember g k s = (s, .refused .state, 0) := by
  refine if_pos ?_
  by_cases hstate : (s.camera k).state = .test
  · exact .inr fun hgrant => h ⟨hstate, hgrant⟩
  · exact .inl hstate

theorem testTriggerMember_mine {g : Nat} (h : (s.camera k).state = .test ∧ (s.camera k).testGrant = some g) :
    testTriggerMember g k s = if s.faultLine k then
        (((s.setCamera k { s.camera k with testGrant := none }).setCameraState k .faulted .cflt).resolvePending k .fault
          (some .fault), MemberResult.fault, 0)
      else if (s.camera k).tagTaken then (s.countCamera k .overrun, MemberResult.overrun, 0)
      else (s.firePulse k none s.ltr.pitch none, MemberResult.accepted, (s.camera k).nextTag.val) := by
  obtain ⟨hstate, hgrant⟩ := h
  exact if_neg (by simp [hstate, hgrant])

theorem testTrigger_fault {stale : TagSet} (hstate : (s.camera k).state = .test)
    (hstale : staleWith (s.camera k) (s.camera k).pending stale) :
    ((s.setCamera k { s.camera k with testGrant := none }).setCameraState k .faulted .cflt).resolvePending k .fault (some .fault)
      = withCamera (sending (becomes s k { s.camera k with testGrant := none } .faulted .cflt)
          (resolvedReports k .fault (s.camera k).pending)) k
        { s.camera k with
          testGrant := none, state := .faulted, pending := [], stale := stale
          counters := counted (s.camera k) 5 (named (s.camera k).pending) } := by
  have hchange : (s.setCamera k { s.camera k with testGrant := none }).setCameraState k .faulted .cflt
      = becomes s k { s.camera k with testGrant := none } .faulted .cflt := by
    refine setCameraState_setCamera ?_ ?_ .cflt
    · rfl
    · simp [hstate]
  rw [hchange, resolvePending_counted, becomes_camera, ← staled_of_staleWith hstale]
  rfl

end

theorem cameraMembers : CameraMembers := by
  refine fun k s => ⟨rearmMember_refused, fun hup hline hstate _ => rearmMember_ready hup hline hstate,
    fun hup hline hstate _ => rearmMember_returns hup hline hstate, testMember_on, fun g ⟨hstate, hgrant⟩ => ?_,
    testMember_on_unfit, fun g hstate hgrant => ?_, fun g hstate => ?_, testMember_off, fun g => testTriggerMember_other,
    fun g stale hmine hline hstale _ => ?_, fun g hmine hline hfree => ?_, fun g hmine hline hfree => ?_⟩
  · rw [testMember_on_test g hstate, if_pos hgrant]
  · rw [testMember_on_test g hstate, if_neg hgrant]
  · rw [testMember_off_test g hstate]
    exact ⟨rfl, leaveTest_leaves hstate .testOff⟩
  · rw [testTriggerMember_mine hmine, if_pos (by exact hline), testTrigger_fault hmine.1 hstale]
  · rw [testTriggerMember_mine hmine, if_neg (by exact Bool.eq_false_iff.mp hline), if_pos ((tagTaken_iff _).mpr hfree)]
    rfl
  · rw [testTriggerMember_mine hmine, if_neg (by exact Bool.eq_false_iff.mp hline),
      if_neg fun htaken => (tagTaken_iff _).mp htaken hfree]
    rfl

/-! ## The requests (3.2) -/

theorem cameraSetOk_false {cameras : CameraSet} (h : cameras = 0 ∨ (64#8 : CameraSet) ≤ cameras) :
    cameraSetOk cameras = false := by
  obtain rfl | h := h
  · rfl
  · have hnames : namesNoCamera cameras = true := by
      rw [← Bool.not_eq_false, namesNoCamera_eq_false_iff]
      exact BitVec.not_lt.mpr h
    simp [cameraSetOk, hnames]

theorem cameraSetOk_true {cameras : CameraSet} (h : ¬ (cameras = 0 ∨ (64#8 : CameraSet) ≤ cameras)) :
    cameraSetOk cameras = true := by
  obtain ⟨hsome, hsix⟩ := not_or.mp h
  have hnames : namesNoCamera cameras = false := (namesNoCamera_eq_false_iff cameras).mpr (BitVec.not_le.mp hsix)
  rw [cameraSetOk, hnames]
  simpa using hsome

theorem onOffOf_none {n : Nat} (h : 2 ≤ n) : onOffOf n = none := by
  obtain ⟨m, rfl⟩ := Nat.exists_eq_add_of_le' h
  rfl

theorem cameras_under_grant {cameras : CameraSet} {g : Nat} (hset : ¬ (cameras = 0 ∨ (64#8 : CameraSet) ≤ cameras))
    (hid : ¬ (g = 0 ∨ 256 ≤ g)) : (cameraSetOk cameras && grantIdOk g) = true := by
  rw [cameraSetOk_true hset, Bool.true_and, grantIdOk_iff]
  omega

theorem cameras_without_grant {cameras : CameraSet} {g : Nat}
    (h : (cameras = 0 ∨ (64#8 : CameraSet) ≤ cameras) ∨ g = 0 ∨ 256 ≤ g) : (cameraSetOk cameras && grantIdOk g) = false := by
  obtain hset | hid := h
  · rw [cameraSetOk_false hset, Bool.false_and]
  · rw [Bool.and_eq_false_iff, ← Bool.not_eq_true (grantIdOk g), grantIdOk_iff]
    omega

theorem cameraSetRequestsRunTheirMembers : CameraSetRequestsRunTheirMembers := by
  intro cameras s h
  refine ⟨fun hbad => ?_, fun hset hlevel => ?_, fun hset hlevel => ?_, fun g => ⟨fun hbad => ?_, fun x hbad => ?_,
    fun hset hid => ⟨?_, ?_, ?_⟩⟩⟩
  · exact exec_taken h (execCameraRearm cameras) rfl rfl (require_failed (cameraSetOk_false hbad) _ _)
  · refine exec_taken h (execCameraRearm cameras) rfl rfl ((require_met (cameraSetOk_true hset) _ _).trans ?_)
    exact withLevel_below (Nat.lt_one_iff.mpr (by exact hlevel)) _
  · refine exec_taken h (execCameraRearm cameras) rfl rfl ((require_met (cameraSetOk_true hset) _ _).trans ?_)
    rw [withLevel_reached (by exact hlevel), require_true, onCameras_eq]
  · exact (exec_underGrant h (execTestTrigger cameras g) rfl rfl rfl).trans
      (congrArg _ (require_failed (cameras_without_grant hbad) _ _))
  · refine (exec_underGrant h (execCameraTest cameras g x) rfl rfl rfl).trans (congrArg _ ?_)
    by_cases hgrant : (cameraSetOk cameras && grantIdOk g) = true
    · rw [require_met hgrant]
      refine requireSome_failed (onOffOf_none ?_) _ _
      by_contra hx
      have hno := cameras_without_grant (cameras := cameras) (g := g) (by tauto)
      simp [hgrant] at hno
    · exact require_failed (Bool.eq_false_iff.mpr hgrant) _ _
  · refine (exec_underGrant h (execCameraTest cameras g 0) rfl rfl rfl).trans
      (congrArg _ ((require_met (cameras_under_grant hset hid) _ _).trans ?_))
    rw [requireSome_met (show onOffOf 0 = some true from rfl), onCameras_eq,
      plain_afterGrant (fun k s => s.grantCheckCamera g k)]
  · refine (exec_underGrant h (execCameraTest cameras g 1) rfl rfl rfl).trans
      (congrArg _ ((require_met (cameras_under_grant hset hid) _ _).trans ?_))
    rw [requireSome_met (show onOffOf 1 = some false from rfl), onCameras_eq,
      plain_afterGrant (fun k s => s.grantCheckCamera g k)]
  · refine (exec_underGrant h (execTestTrigger cameras g) rfl rfl rfl).trans
      (congrArg _ ((require_met (cameras_under_grant hset hid) _ _).trans ?_))
    dsimp only
    rw [runMembersDetailed_eq]
    rfl

/-- Settles O23: the members of re-arm, test and test trigger by the camera's state, and the sets that run them. -/
theorem cameraRequestsAndTheirMembers : Obligations.CameraRequestsAndTheirMembers :=
  ⟨cameraMembers, cameraSetRequestsRunTheirMembers⟩

end Sys2Proof.CameraWork
end

section
/-!
SUPPORT. How the shared operations of the SWS change the state (chapter 5): commands from the switch link, ports by their
numbers, counters, the drive and camera bindings, and the two fault sources of the ports.
-/

namespace Sys2Proof.Cabinet

open Sys2Proof Sys2Proof.Machine Sys2Proof.Safety Sys2Proof.Claims Sys2Proof.BottleTrack Sys2Proof.Track Sys2Proof.AxisMoves

variable {s : State}

/-! ## Commands from the switch link -/

theorem exec_fromSwitch {c : Instr} {t : State} {f : State → State} (h : awake s) (x : State → Result)
    (hexec : exec c s = x s) (hx : x s = takenOnSwitchLink c s f) (ht : f (s.received c) = t) : exec c s = .next t := by
  rw [hexec, hx, takenOnSwitchLink_awake h, ht]

theorem exec_fromSwitch_held {c : Instr} {f : State → State} (h : s.phase = .held) (x : State → Result)
    (hexec : exec c s = x s) (hx : x s = takenOnSwitchLink c s f) : exec c s = .next s := by
  rw [hexec, hx, takenOnSwitchLink_held h]

theorem countSwitch_eq (s : State) (c : SwitchCounter) :
    s.countSwitch c = withSws s (linkCounted s.sws (switchCounterIx c)) := rfl

/-! ## Ports by their numbers -/

theorem portOf_of_portIs {n : Nat} {p : PortIx} (h : portIs n p) : portOf n = some p := by
  obtain rfl : n = p.val + 1 := h
  exact portOf_some ⟨by omega, p.isLt⟩

theorem portOf_of_noPort {n : Nat} (h : n = 0 ∨ 9 ≤ n) : portOf n = none := portOf_none (by omega)

theorem onPort_of_portIs {n : Nat} {p : PortIx} (h : portIs n p) (f : PortIx → State → State) : s.onPort n f = f p s := by
  unfold State.onPort
  rw [portOf_of_portIs h]

theorem onPort_of_noPort {n : Nat} (h : n = 0 ∨ 9 ≤ n) (f : PortIx → State → State) :
    s.onPort n f = withSws s (linkCounted s.sws 1) := by
  unfold State.onPort
  rw [portOf_of_noPort h]
  rfl

end Sys2Proof.Cabinet
end

section
/-! SUPPORT. O24: queries join their queue, and bad frames are counted (R97, R98). -/

namespace Sys2Proof.Cabinet

open Sys2Proof Sys2Proof.Machine Sys2Proof.Safety Sys2Proof.Claims Sys2Proof.BottleTrack

/-- Settles O24, by the room in the query queue and by what a bad frame is bad for. -/
theorem queriesQueueAndBadFramesCount : Obligations.QueriesQueueAndBadFramesCount := by
  refine ⟨fun a n p tag s h hp => ⟨fun hroom => ?_, fun hfull => ?_⟩, fun a n tag s h hn => ?_, fun frame s h => ?_,
    fun a n tag frame s h => ⟨exec_fromSwitch_held h (execQuery a n tag) rfl rfl,
      exec_fromSwitch_held h (execSwitchBadFrame frame) rfl rfl⟩⟩
  · refine exec_fromSwitch h (execQuery a n tag) rfl rfl ((onPort_of_portIs hp _).trans ?_)
    exact if_pos hroom
  · refine exec_fromSwitch h (execQuery a n tag) rfl rfl ((onPort_of_portIs hp _).trans ?_)
    exact if_neg (Nat.not_lt.mpr hfull)
  · exact exec_fromSwitch h (execQuery a n tag) rfl rfl (onPort_of_noPort hn _)
  · refine ⟨?_, fun bytes f hframe hparts => ?_⟩
    · rintro rfl
      exact exec_fromSwitch h (execSwitchBadFrame .abandoned) rfl rfl rfl
    · subst hframe
      refine ⟨fun hcheck => ?_, fun hcheck hcommand => ?_⟩ <;>
        refine exec_fromSwitch h (execSwitchBadFrame (.complete bytes)) rfl rfl ?_
      · simp [hparts, hcheck]
        rfl
      · simp [hparts, hcheck, hcommand]
        rfl

end Sys2Proof.Cabinet
end

section
/-!
SUPPORT. The bindings of drives and cameras, the error states and blocks of the ports, and the claims' words for them
(R100, R103, R104).
-/

namespace Sys2Proof.Cabinet

open Sys2Proof Sys2Proof.Machine Sys2Proof.Safety Sys2Proof.Claims Sys2Proof.BottleTrack Sys2Proof.Invariants

variable {s : State}

/-! ## Stations of the table -/

theorem mem_stations {x : Sws} {e : Station} :
    e ∈ x.stations ↔ ∃ (n : Fin 16) (w : Fin 4), x.table[n].ways[w] = some e := by
  unfold Sws.stations
  rw [List.mem_filterMap]
  exact ⟨fun ⟨p, _, h⟩ => ⟨p.1, p.2, h⟩, fun ⟨n, w, h⟩ => ⟨(n, w), mem_allWays n w, h⟩⟩

/-! ## The bindings (R104) -/

theorem upDown_eq {a b : UpDown} (h : a = .up ↔ b = .up) : a = b := by
  cases a <;> cases b <;> simp_all

theorem bindingOf_eq_up (x : Sws) (r : Role) : x.bindingOf r = .up ↔ bindsUp x r := by
  have hbinds : (x.stations.any fun e => e.role == r && x.vouches e) = true ↔ bindsUp x r := by
    simp only [List.any_eq_true, mem_stations, Sws.vouches, Bool.and_eq_true, beq_iff_eq, Bool.not_eq_true', bindsUp]
    constructor
    · rintro ⟨e, ⟨n, w, hway⟩, hrole, ⟨⟨hkind, hstate⟩, hlink⟩, hblocked⟩
      exact ⟨n, w, e, hway, hrole, hkind, hstate, hlink, hblocked⟩
    · rintro ⟨n, w, e, hway, hrole, hkind, hstate, hlink, hblocked⟩
      exact ⟨e, ⟨n, w, hway⟩, hrole, ⟨⟨hkind, hstate⟩, hlink⟩, hblocked⟩
  unfold Sws.bindingOf
  rw [← hbinds]
  split <;> simp_all

theorem computedDrives_eq_up (x : Sws) (k : AxisNo) : x.computedDrives[k] = .up ↔ bindsUp x (.drive k) := by
  rw [← bindingOf_eq_up]
  simp [Sws.computedDrives]

theorem computedCameras_eq_up (x : Sws) (k : CameraNo) : x.computedCameras[k] = .up ↔ bindsUp x (.camera k) := by
  rw [← bindingOf_eq_up]
  simp [Sws.computedCameras]

theorem axisNos_eq : axisNos = List.finRange 8 := by decide

theorem cameraNos_eq : cameraNos = List.finRange 6 := by decide

theorem recomputeBindings_eq (s : State) : s.recomputeBindings
    = sending (withSws s { s.sws with drives := s.sws.computedDrives, cameras := s.sws.computedCameras })
      (if s.sws.firstDone then
        bindingReports s.sws { s.sws with drives := s.sws.computedDrives, cameras := s.sws.computedCameras } else []) := by
  unfold State.recomputeBindings
  split
  · rfl
  · exact (sendAll_nil _).symm

theorem rebinds_iff {t : State} : rebinds s t ↔ t = s.recomputeBindings := by
  rw [recomputeBindings_eq, bindingReports, axisNos_eq, cameraNos_eq]
  constructor
  · rintro ⟨d, v, hd, hv, rfl⟩
    obtain rfl : d = s.sws.computedDrives := Vector.ext fun i hi =>
      upDown_eq ((hd ⟨i, hi⟩).trans (computedDrives_eq_up s.sws ⟨i, hi⟩).symm)
    obtain rfl : v = s.sws.computedCameras := Vector.ext fun i hi =>
      upDown_eq ((hv ⟨i, hi⟩).trans (computedCameras_eq_up s.sws ⟨i, hi⟩).symm)
    rfl
  · rintro rfl
    exact ⟨_, _, computedDrives_eq_up s.sws, computedCameras_eq_up s.sws, rfl⟩

/-! ## The fault sources of the ports (R100, R103) -/

theorem mem_portIxs (p : PortIx) : p ∈ portIxs := by
  revert p
  decide

theorem someAlarm_eq (x : Sws) : someAlarm x = inAlarm x := by
  rw [Bool.eq_iff_iff]
  simp only [someAlarm, inAlarm, List.any_eq_true, beq_iff_eq, decide_eq_true_eq]
  exact ⟨fun ⟨p, _, h⟩ => ⟨p, h⟩, fun ⟨p, h⟩ => ⟨p, mem_portIxs p, h⟩⟩

theorem someBlocked_eq (x : Sws) : someBlocked x = decide (∃ p : PortIx, x.ports[p].blocked = true) := by
  rw [Bool.eq_iff_iff]
  simp only [someBlocked, List.any_eq_true, decide_eq_true_eq]
  exact ⟨fun ⟨p, _, h⟩ => ⟨p, h⟩, fun ⟨p, h⟩ => ⟨p, mem_portIxs p, h⟩⟩

theorem someBlocked_of {x : Sws} {p : PortIx} (h : x.ports[p].blocked = true) : someBlocked x = true := by
  rw [someBlocked_eq, decide_eq_true_eq]
  exact ⟨p, h⟩

theorem onePort_port (x : Sws) (p : PortIx) (r : Port) : (onePort x p r).ports[p] = r := by
  simp [onePort]

theorem onePort_onePort (x : Sws) (p : PortIx) (q r : Port) : onePort (onePort x p q) p r = onePort x p r := by
  simp [onePort]

theorem onePort_ports (x : Sws) (p q : PortIx) (r : Port) : (onePort x p r).ports[q] = if q = p then r else x.ports[q] := by
  simp only [onePort, Fin.getElem_fin, Vector.getElem_set, Fin.ext_iff, eq_comm]

theorem setPort_eq (s : State) (p : PortIx) (r : Port) : s.setPort p r = withSws s (onePort s.sws p r) := rfl

theorem inAlarm_onePort {x : Sws} {p : PortIx} {r : Port} (h : r.errorState = x.ports[p].errorState) :
    inAlarm (onePort x p r) = inAlarm x := by
  have hstate : ∀ q : PortIx, (onePort x p r).ports[q].errorState = x.ports[q].errorState := by
    intro q
    rw [onePort_ports]
    split
    · rename_i hq
      rw [h, hq]
    · rfl
  simp only [inAlarm, hstate]

theorem settleErrors_eq (s : State) (p : PortIx) : s.settleErrors p =
    let c := s.cfg.ports[p]
    let after := onePort s.sws p { s.sws.ports[p] with
      errorState := errorStateFor s.sws.ports[p].errorCount c.warn c.alarm }
    sending (withSws s after) (change .portErrors (inAlarm s.sws) (inAlarm after)) := by
  unfold State.settleErrors
  dsimp only
  rw [reportSource_eq_sending, someAlarm_eq, someAlarm_eq]
  rfl

/-- The error state is settled after a write of the port that leaves it. -/
theorem settleErrors_of_setPort {p : PortIx} {r : Port} (h : r.errorState = s.sws.ports[p].errorState) :
    (s.setPort p r).settleErrors p =
      let c := s.cfg.ports[p]
      let after := onePort s.sws p { r with errorState := errorStateFor r.errorCount c.warn c.alarm }
      sending (withSws s after) (change .portErrors (inAlarm s.sws) (inAlarm after)) := by
  rw [settleErrors_eq, setPort_eq, ← inAlarm_onePort h]
  dsimp only [withSws]
  rw [onePort_port, onePort_onePort]

theorem setBlocked_eq (s : State) (p : PortIx) (b : Bool) : s.setBlocked p b =
    let after := onePort s.sws p { s.sws.ports[p] with blocked := b }
    sending (withSws s after) (change .flushUnconfirmed (someBlocked s.sws) (someBlocked after)) := by
  unfold State.setBlocked
  dsimp only
  rw [reportSource_eq_sending]
  rfl

end Sys2Proof.Cabinet
end

section
/-! SUPPORT. O27, the reports: a link report and an error report set the fields of their port (R100, R104). -/

namespace Sys2Proof.Cabinet

open Sys2Proof Sys2Proof.Machine Sys2Proof.Safety Sys2Proof.Claims Sys2Proof.BottleTrack

theorem linkAndErrorReportsSetThePort : LinkAndErrorReportsSetThePort := by
  refine ⟨fun n p s h hp => ⟨fun link => ⟨fun hsame => ?_, fun hother => ?_⟩, fun count => ?_⟩,
    fun n link count s h hn => ⟨?_, ?_⟩,
    fun n link count s h => ⟨exec_fromSwitch_held h (execLinkReport n link) rfl rfl,
      exec_fromSwitch_held h (execErrorReport n count) rfl rfl⟩⟩
  · refine exec_fromSwitch h (execLinkReport n link) rfl rfl ((onPort_of_portIs hp _).trans ?_)
    exact if_pos hsame
  · refine ⟨_, rebinds_iff.mpr rfl, exec_fromSwitch h (execLinkReport n link) rfl rfl ((onPort_of_portIs hp _).trans ?_)⟩
    exact if_neg hother
  · refine exec_fromSwitch h (execErrorReport n count) rfl rfl ((onPort_of_portIs hp _).trans ?_)
    exact settleErrors_of_setPort rfl
  · exact exec_fromSwitch h (execLinkReport n link) rfl rfl (onPort_of_noPort hn _)
  · exact exec_fromSwitch h (execErrorReport n count) rfl rfl (onPort_of_noPort hn _)

end Sys2Proof.Cabinet
end

section
/-! SUPPORT. O27, the first setting: every axis and every camera takes the binding of its drive or camera (R104). -/

namespace Sys2Proof.Cabinet

open Sys2Proof Sys2Proof.Machine Sys2Proof.Safety Sys2Proof.Claims Sys2Proof.BottleTrack Sys2Proof.Track Sys2Proof.AxisMoves
  Sys2Proof.CameraWork

/-! ## Folds over the axes and the cameras -/

/-- Two step functions that agree wherever a kept property holds give the same fold. -/
theorem foldl_eq_of_invariant {α β : Type} {P : β → Prop} {f g : β → α → β} (hkeeps : ∀ t x, P t → P (f t x))
    (heq : ∀ t x, P t → f t x = g t x) (l : List α) {s : β} (h : P s) : l.foldl f s = l.foldl g s := by
  induction l generalizing s with
  | nil => rfl
  | cons x rest ih =>
    rw [List.foldl_cons, List.foldl_cons, ← heq s x h]
    exact ih (hkeeps s x h)

/-- A fold that rewrites the entries of one vector: each entry of the list is rewritten from what it was. -/
theorem foldl_vector {α β : Type} {n : Nat} {mk : Vector α n → β} {f : β → Fin n → β} {g : Fin n → α → α}
    (hf : ∀ (v : Vector α n) (k : Fin n), f (mk v) k = mk (v.set k (g k v[k]))) {l : List (Fin n)} (hl : l.Nodup)
    (v : Vector α n) :
    ∃ w : Vector α n, l.foldl f (mk v) = mk w ∧ ∀ k : Fin n, w[k] = if k ∈ l then g k v[k] else v[k] := by
  induction l generalizing v with
  | nil => exact ⟨v, rfl, fun k => rfl⟩
  | cons j rest ih =>
    obtain ⟨hj, hrest⟩ := List.nodup_cons.mp hl
    obtain ⟨w, hfold, hw⟩ := ih hrest (v.set j (g j v[j]))
    refine ⟨w, by rw [List.foldl_cons, hf, hfold], fun k => ?_⟩
    rw [hw k]
    simp only [Fin.getElem_fin, Vector.getElem_set, List.mem_cons, Fin.val_inj]
    by_cases hk : j = k
    · subst hk
      simp [hj]
    · simp [hk, Ne.symm hk]

theorem foldl_vector_all {α β : Type} {n : Nat} {mk : Vector α n → β} {f : β → Fin n → β} {g : Fin n → α → α}
    (hf : ∀ (v : Vector α n) (k : Fin n), f (mk v) k = mk (v.set k (g k v[k]))) {l : List (Fin n)} (hl : l.Nodup)
    (hall : ∀ k, k ∈ l) (v : Vector α n) : l.foldl f (mk v) = mk (Vector.ofFn fun k => g k v[k]) := by
  obtain ⟨w, hfold, hw⟩ := foldl_vector hf hl v
  have hvector : w = Vector.ofFn fun k => g k v[k] := Vector.ext fun i hi => by
    rw [Vector.getElem_ofFn]
    exact (hw ⟨i, hi⟩).trans (if_pos (hall ⟨i, hi⟩))
  rw [hfold, hvector]

def withAxes (s : State) (v : Vector Axis 8) : State := { s with fmu := { s.fmu with axes := v } }

theorem foldl_axisNos {s : State} {f : State → AxisNo → State} {g : AxisNo → Axis → Axis}
    (hf : ∀ (v : Vector Axis 8) (k : AxisNo), f (withAxes s v) k = withAxes s (v.set k (g k v[k]))) :
    axisNos.foldl f s = withAxes s (Vector.ofFn fun k => g k (s.axis k)) :=
  foldl_vector_all hf (by decide) mem_axisNos s.fmu.axes

theorem firstCamera_eq (s : State) (k : CameraNo) : s.firstCamera k = firstBound s k s.sws.cameras[k] := by
  unfold State.firstCamera firstBound
  dsimp only
  by_cases hup : s.sws.cameras[k] = .up
  · rw [if_pos hup]
    by_cases hready : (s.camera k).state = .ready
    · rw [setCameraState_same (by simpa using hready), if_neg fun h => h.2 hready]
      rfl
    · rw [if_pos ⟨hup, hready⟩]
      exact setCameraState_setCamera (c := { s.camera k with binding := s.sws.cameras[k] }) rfl hready .bindingSet
  · rw [if_neg hup, if_neg fun h => hup h.1]
    rfl

theorem firstCamera_sws (s : State) (k : CameraNo) : (s.firstCamera k).sws = s.sws := by
  rw [firstCamera_eq]
  unfold firstBound
  dsimp only
  split <;> rfl

/-- The first setting is due (R104). -/
theorem firstSettingDue_iff (s : State) : firstSettingDue s = true ↔ s.sws.firstDone = false ∧ (s.sws.reported = 0xFF#8
    ∨ ∃ t, s.sws.forgetAllAt = some t ∧ t + 2000000 ≤ s.tmu.now) := by
  unfold firstSettingDue
  cases s.sws.forgetAllAt with
  | none => simp
  | some t =>
    simp [State.now, Config.firstSettingWait, Config.sec]
    exact fun _ => or_congr_right decide_eq_true_iff

theorem firstSettingGivesEveryBinding : FirstSettingGivesEveryBinding := by
  intro s h due r
  have hdue : firstSettingDue r = true ↔ due := firstSettingDue_iff s
  refine ⟨fun hnot => ?_, fun hthen => ⟨_, rebinds_iff.mpr rfl, ?_⟩⟩
  · exact exec_taken h execFirstSetting rfl rfl (if_neg fun h => hnot (hdue.mp h))
  · refine exec_taken h execFirstSetting rfl rfl ((if_pos (hdue.mpr hthen)).trans ?_)
    dsimp only
    generalize hu : r.recomputeBindings = u
    have hfmu : s.fmu = u.fmu := by
      rw [← hu, recomputeBindings_eq]
      rfl
    rw [foldl_axisNos (g := fun k a => { a with binding := u.sws.drives[k] }) fun v k => rfl]
    rw [hfmu]
    exact foldl_eq_of_invariant (P := fun t => t.sws.cameras = u.sws.cameras)
      (fun t k ht => (congrArg Sws.cameras (firstCamera_sws t k)).trans ht)
      (fun t k ht => by rw [firstCamera_eq, ht]) cameraNos rfl

/-- Settles O27: a link report recomputes the bindings that the first setting gives to every axis and every camera. -/
theorem bindingsFollowLinksAndTheFirstSetting : Obligations.BindingsFollowLinksAndTheFirstSetting :=
  ⟨linkAndErrorReportsSetThePort, firstSettingGivesEveryBinding⟩

end Sys2Proof.Cabinet
end

section
/-!
SUPPORT. The station table of the SWS in the words of the claims: looking an address up, writing a way, forgetting a
station, and the place a new entry takes (R101, R102).
-/

namespace Sys2Proof.Cabinet

open Sys2Proof Sys2Proof.Machine Sys2Proof.Safety Sys2Proof.Claims Sys2Proof.BottleTrack Sys2Proof.Invariants
  Sys2Proof.FillSegments

variable {s : State} {a : Address} {w : Fin 4} {e : Station} {n : Fin 16}

/-! ## Looking an address up -/

theorem way_setOf : s.way (setOf a) w = s.way (setFor a) w := by
  rw [setOf_eq_setFor]

theorem lookup_of_standsIn (h : standsIn s a w e) : s.lookup a = some (w, e) := by
  obtain ⟨hway, haddress, hothers⟩ := h
  cases hfound : s.lookup a with
  | none => exact absurd haddress (no_way_of_lookup hfound w e (way_setOf.trans hway))
  | some x =>
    obtain ⟨hx, hxaddress⟩ := way_of_lookup hfound
    rw [way_setOf] at hx
    have hw : x.1 = w := by
      by_contra hne
      exact hothers x.1 x.2 hne hx hxaddress
    have he : x.2 = e := Option.some.inj (hx.symm.trans (hw ▸ hway))
    rw [← hw, ← he]

theorem lookup_of_misses (h : misses s a) : s.lookup a = none := by
  cases hfound : s.lookup a with
  | none => rfl
  | some x =>
    obtain ⟨hx, hxaddress⟩ := way_of_lookup hfound
    exact absurd hxaddress (h x.1 x.2 (way_setOf.symm.trans hx))

/-! ## Writes of the table -/

theorem setWay_eq (s : State) (n : Fin 16) (w : Fin 4) (e : Option Station) : s.setWay n w e = withWay s n w e := rfl

theorem setVictim_eq (s : State) (n : Fin 16) (v : Fin 4) : s.setVictim n v = withVictim s n v := rfl

/-! ## Forgets, and the counts of a grant's terminals -/

theorem forgetting_iff : s.forgetting a = true ↔ forgotten s a := by
  simp [State.forgetting, forgotten]

theorem forgetting_eq_false : s.forgetting a = false ↔ ¬ forgotten s a := by
  rw [← forgetting_iff, Bool.not_eq_true]

theorem sendForget_eq (s : State) (e : Station) (reason : ForgetReason) : s.sendForget e reason = forgets s e reason := rfl

theorem terminalOf_iff {id : Nat} : e.terminalOf id = true ↔ e.role = .serviceTerminal ∧ e.state = .admitted
    ∧ e.grant = some id := by
  simp [Station.terminalOf, and_assoc]

theorem countsTerminal_terminal {id : Nat} (h : e.terminalOf id = true) :
    countsTerminal s e = sending s [.closingReport (.terminals id (s.terminalCount id))] := by
  obtain ⟨hrole, hstate, hgrant⟩ := terminalOf_iff.mp h
  simp only [countsTerminal, hrole, hstate, hgrant]

theorem countsTerminal_other (h : ∀ id, e.grant = some id → e.terminalOf id = false) : countsTerminal s e = s := by
  unfold countsTerminal
  split
  · rename_i id hrole hstate hgrant
    have hterminal : e.terminalOf id = true := terminalOf_iff.mpr ⟨hrole, hstate, hgrant⟩
    exact absurd ((h id hgrant).symm.trans hterminal) (by decide)
  · rfl

theorem reportLeft_eq (s : State) (e : Station) : s.reportLeft e = countsTerminal s e := by
  unfold State.reportLeft
  split
  · rename_i id hgrant
    split
    · rename_i hterminal
      exact (countsTerminal_terminal hterminal).symm
    · rename_i hother
      refine (countsTerminal_other fun other hsame => ?_).symm
      obtain rfl := Option.some.inj (hgrant.symm.trans hsame)
      simpa using hother
  · rename_i hnone
    exact (countsTerminal_other fun id hid => absurd (hnone.symm.trans hid) (by simp)).symm

theorem reportLeft_of_not_admitted (h : e.state ≠ .admitted) : s.reportLeft e = s := by
  rw [reportLeft_eq]
  refine countsTerminal_other fun id _ => ?_
  rw [← Bool.not_eq_true, terminalOf_iff]
  exact fun hterminal => h hterminal.2.1

/-! ## The place of a new entry (R101) -/

theorem hasRoom_iff : s.hasRoom = true ↔ s.sws.forgets.length ≤ 15 := by
  exact decide_eq_true_iff

theorem hasRoom_eq_false : s.hasRoom = false ↔ 16 ≤ s.sws.forgets.length := by
  rw [← Bool.not_eq_true, hasRoom_iff]
  omega

theorem placeIn_of_free (hfree : s.way n w = none) (hbefore : ∀ v < w, s.way n v ≠ none) : s.placeIn n = .free w := by
  have hway : (s.stationSet n).freeWay = some w :=
    find_fourNos (p := fun v => (s.stationSet n).ways[v].isNone) (Option.isNone_iff_eq_none.mpr hfree)
      fun v hv => Option.isNone_eq_false_iff.mpr (Option.isSome_iff_ne_none.mpr (hbefore v hv))
  unfold State.placeIn
  rw [hway]

theorem passedOver_iff : e.passedOver = true ↔ e.kind = .pinned ∨ e.state = .flushing := by
  simp [Station.passedOver]

theorem freeWay_of_full (h : ∀ v, s.way n v ≠ none) : (s.stationSet n).freeWay = none := by
  unfold StationSet.freeWay
  rw [List.find?_eq_none]
  intro v _ hv
  exact h v (Option.isNone_iff_eq_none.mp hv)

theorem placeIn_of_victim (h : victimIs s n w e) :
    s.placeIn n = if e.state = .admitted ∧ !s.hasRoom then .noRoom else .replace w e := by
  obtain ⟨hfull, i, rfl, hway, hpasses, hbefore⟩ := h
  have hvictim : (s.stationSet n).victimWay = some ((s.stationSet n).victim + i) := by
    unfold StationSet.victimWay
    rw [List.find?_map, find_fourNos (w := i)]
    · rfl
    · show Option.any _ (s.way n _) = true
      rw [show s.way n ((s.stationSet n).victim + i) = some e from hway]
      simpa [passedOver_iff, ← Bool.not_eq_true] using hpasses
    · intro j hj
      obtain ⟨y, hy, hyp⟩ := hbefore j hj
      show Option.any _ (s.way n _) = false
      rw [show s.way n ((s.stationSet n).victim + j) = some y from hy]
      simpa [passedOver_iff] using hyp
  unfold State.placeIn
  rw [freeWay_of_full hfull, hvictim]
  dsimp only
  rw [show s.way n ((s.stationSet n).victim + i) = some e from hway]
  rfl

theorem placeIn_of_noVictim (h : noVictim s n) : s.placeIn n = .noVictim := by
  have hfull : ∀ v, s.way n v ≠ none := fun v hv => by
    obtain ⟨e, he, -⟩ := h v
    exact absurd (he.symm.trans hv) (by simp)
  have hvictim : (s.stationSet n).victimWay = none := by
    unfold StationSet.victimWay
    rw [List.find?_eq_none]
    intro v _
    obtain ⟨e, he, hpasses⟩ := h v
    rw [show (s.stationSet n).ways[v] = some e from he]
    simpa [passedOver_iff] using hpasses
  unfold State.placeIn
  rw [freeWay_of_full hfull, hvictim]

/-- A full forget list leaves no room for an ADMITTED victim. -/
theorem placeIn_noRoom (h : victimIs s n w e) (hadmitted : e.state = .admitted) (hfull : 16 ≤ s.sws.forgets.length) :
    s.placeIn n = .noRoom := by
  rw [placeIn_of_victim h, hasRoom_eq_false.mpr hfull]
  exact if_pos ⟨hadmitted, rfl⟩

/-- The place a set makes: its first free way, or that of its evicted victim. -/
theorem placeIn_of_makesPlace {t : State} (h : makesPlace s n w t) :
    (s.placeIn n = .free w ∧ t = s) ∨ ∃ e, s.placeIn n = .replace w e ∧ t = s.evict n w e := by
  obtain ⟨hfree, hbefore, rfl⟩ | ⟨e, hvictim, ⟨hstate, rfl⟩ | ⟨hstate, hroom, rfl⟩⟩ := h
  · exact .inl ⟨placeIn_of_free hfree hbefore, rfl⟩
  · refine .inr ⟨e, ?_, ?_⟩
    · rw [placeIn_of_victim hvictim, hstate]
      exact if_neg fun h => by cases h.1
    · unfold State.evict
      rw [hstate]
      rfl
  · refine .inr ⟨e, ?_, ?_⟩
    · rw [placeIn_of_victim hvictim, hasRoom_iff.mpr hroom]
      exact if_neg fun h => by cases h.2
    · unfold State.evict
      dsimp only
      rw [if_pos hstate, reportLeft_eq]
      rfl

end Sys2Proof.Cabinet
end

section
/-!
SUPPORT. O25: queries are answered by the first step that decides, and unknown stations are learned by policy (R98, R101).
-/

namespace Sys2Proof.Cabinet

open Sys2Proof Sys2Proof.Machine Sys2Proof.Safety Sys2Proof.Claims Sys2Proof.BottleTrack Sys2Proof.Invariants Sys2Proof.Track

variable {s : State} {q : Query} {w : Fin 4} {e : Station}

theorem answerQuery_eq (s : State) (q : Query) (admits : Bool) : s.answerQuery q admits = answersWith s q admits := rfl

theorem notAnAddress_iff {a : Address} : notAnAddress a = true ↔ a = 0 ∨ a = BitVec.allOnes 48 := by
  simp [notAnAddress]

theorem deniedFirst_iff : ((s.port q.port).blocked || notAnAddress q.address || s.forgetting q.address) = true
    ↔ deniedFirst s q := by
  simp only [Bool.or_eq_true, notAnAddress_iff, forgetting_iff, or_assoc]
  rfl

theorem judgeQuery_denied (h : deniedFirst s q) : s.judgeQuery q = answersWith s q false := by
  unfold State.judgeQuery
  rw [if_pos (deniedFirst_iff.mpr h)]
  rfl

theorem judgeQuery_ownPort (h : ¬ deniedFirst s q) (he : standsIn s q.address w e) (hport : e.port = q.port) :
    s.judgeQuery q = s.hitOwnPort q w e := by
  unfold State.judgeQuery
  rw [if_neg fun hdenied => h (deniedFirst_iff.mp hdenied), lookup_of_standsIn he]
  exact if_pos hport

theorem judgeQuery_otherPort (h : ¬ deniedFirst s q) (he : standsIn s q.address w e) (hport : e.port ≠ q.port) :
    s.judgeQuery q = s.hitOtherPort q e := by
  unfold State.judgeQuery
  rw [if_neg fun hdenied => h (deniedFirst_iff.mp hdenied), lookup_of_standsIn he]
  exact if_neg hport

theorem judgeQuery_miss (h : ¬ deniedFirst s q) (he : misses s q.address) : s.judgeQuery q = s.missQuery q := by
  unfold State.judgeQuery
  rw [if_neg fun hdenied => h (deniedFirst_iff.mp hdenied), lookup_of_misses he]

theorem hitOwnPort_eq (s : State) (q : Query) (w : Fin 4) (e : Station) : s.hitOwnPort q w e =
    let n := setFor q.address
    let e' := { e with lastSeen := s.stamp, firstSeen := if e.firstSeen = none then s.stamp else e.firstSeen }
    answersWith (withVictim (withWay s n w (some e')) n (s.sws.table[n].victim + 1)) q (e.state == .admitted) := by
  unfold State.hitOwnPort
  simp only [setOf_eq_setFor, Option.isNone_iff_eq_none]
  rfl

theorem hitOtherPort_eq (s : State) (q : Query) (e : Station) : s.hitOtherPort q e =
    let n := setFor q.address
    answersWith ((withVictim s n (s.sws.table[n].victim + 1)).post (.stationMoved q.address e.port q.port e.role)) q false := by
  unfold State.hitOtherPort
  simp only [setOf_eq_setFor]
  rfl

theorem queriesAreAnsweredByTheFirstStep : QueriesAreAnsweredByTheFirstStep := by
  refine ⟨fun s h hnone => ?_, fun q rest s h hsome => ?_, fun q s => ⟨judgeQuery_denied,
    fun w e hopen he hport => (judgeQuery_ownPort hopen he hport).trans (hitOwnPort_eq s q w e),
    fun w e hopen he hport => (judgeQuery_otherPort hopen he hport).trans (hitOtherPort_eq s q e), judgeQuery_miss⟩⟩
  · refine exec_taken h execAnswer rfl rfl ?_
    dsimp only
    rw [show (s.received .answer).sws.queries = [] from hnone]
  · refine exec_taken h execAnswer rfl rfl ?_
    dsimp only
    rw [show (s.received .answer).sws.queries = q :: rest from hsome]
    rfl

/-! ## Learning -/

section

variable {role : Role} {state : StationState} {grant : Option Nat} {f : Fin 4 → State → State} {t : State}

theorem learn_of_makesPlace (h : makesPlace s (setFor q.address) w t) : s.learn q role state grant f
    = f w (withWay t (setFor q.address) w (some (learnt s q role state grant))) := by
  unfold State.learn
  rw [setOf_eq_setFor]
  dsimp only
  obtain ⟨hplace, rfl⟩ | ⟨e, hplace, rfl⟩ := placeIn_of_makesPlace h
  all_goals
    rw [hplace]
    rfl

theorem learn_noRoom (h : victimIs s (setFor q.address) w e) (hadmitted : e.state = .admitted)
    (hfull : 16 ≤ s.sws.forgets.length) :
    s.learn q role state grant f = answersWith (withSws s (linkCounted s.sws 4)) q false := by
  unfold State.learn
  rw [setOf_eq_setFor]
  dsimp only
  rw [placeIn_noRoom h hadmitted hfull]
  rfl

theorem learn_noVictim (h : noVictim s (setFor q.address)) :
    s.learn q role state grant f = answersWith (s.post (.tableFull q.address q.port (setFor q.address))) q false := by
  unfold State.learn
  rw [setOf_eq_setFor]
  dsimp only
  rw [placeIn_of_noVictim h]
  rfl

end

/-- The policy of the query's port learns the station, whatever it then does with it. -/
def policyLearns (s : State) (q : Query) : Prop :=
  s.cfg.ports[q.port].policy = .locked ∨ s.cfg.ports[q.port].policy = .learn
    ∨ (s.cfg.ports[q.port].policy = .service
      ∧ ∃ id, s.sws.ports[q.port].service = some (id, .opened) ∧ s.terminalCount id < 4)

theorem missQuery_locked (h : s.cfg.ports[q.port].policy = .locked) : s.missQuery q
    = s.learn q .unknown .quarantined none fun w s =>
      (s.post (.stationStranger q.address q.port w)).answerQuery q false := by
  unfold State.missQuery
  rw [h]

theorem missQuery_learn (h : s.cfg.ports[q.port].policy = .learn) : s.missQuery q
    = s.learn q .unknown .admitted none fun _ s => s.answerQuery q true := by
  unfold State.missQuery
  rw [h]

theorem missQuery_service {id : Nat} (h : s.cfg.ports[q.port].policy = .service)
    (hopen : s.sws.ports[q.port].service = some (id, .opened)) (hroom : s.terminalCount id < 4) : s.missQuery q
    = s.learn q .serviceTerminal .admitted (some id) fun _ s => (s.reportTerminals id).answerQuery q true := by
  unfold State.missQuery
  rw [h]
  dsimp only
  rw [show (s.port q.port).service = some (id, .opened) from hopen]
  exact if_pos hroom

theorem missQuery_of_not_learns (h : s.cfg.ports[q.port].policy = .service) (hnot : ¬ policyLearns s q) :
    s.missQuery q = answersWith s q false := by
  have hclosed : ∀ id, (s.port q.port).service = some (id, .opened) → ¬ s.terminalCount id < Config.terminalLimit :=
    fun id hid hroom => hnot (.inr (.inr ⟨h, id, hid, hroom⟩))
  unfold State.missQuery
  rw [h]
  dsimp only
  split
  · rename_i id hid
    exact if_neg (hclosed id hid)
  · rfl

/-- A policy that learns makes one learning of the query. -/
theorem missQuery_of_learns (h : policyLearns s q) :
    ∃ role state grant f, s.missQuery q = s.learn q role state grant f := by
  obtain hlocked | hlearn | ⟨hservice, id, hopen, hroom⟩ := h
  · exact ⟨_, _, _, _, missQuery_locked hlocked⟩
  · exact ⟨_, _, _, _, missQuery_learn hlearn⟩
  · exact ⟨_, _, _, _, missQuery_service hservice hopen hroom⟩

theorem learningByPolicy : LearningByPolicy := by
  refine fun q s => ⟨fun w t hpolicy hplace => ?_, fun w t hpolicy hplace => ?_, fun w t id hpolicy hopen hroom hplace => ?_,
    fun hpolicy hnot => missQuery_of_not_learns hpolicy hnot, fun w e hlearns hvictim hadmitted hfull => ?_,
    fun hlearns hvictim => ?_⟩
  · exact (missQuery_locked hpolicy).trans (learn_of_makesPlace hplace)
  · exact (missQuery_learn hpolicy).trans (learn_of_makesPlace hplace)
  · exact (missQuery_service hpolicy hopen hroom).trans (learn_of_makesPlace hplace)
  · obtain ⟨role, state, grant, f, heq⟩ := missQuery_of_learns (q := q) hlearns
    exact heq.trans (learn_noRoom hvictim hadmitted hfull)
  · obtain ⟨role, state, grant, f, heq⟩ := missQuery_of_learns (q := q) hlearns
    exact heq.trans (learn_noVictim hvictim)

end Sys2Proof.Cabinet
end

section
/-! SUPPORT. O25. -/

namespace Sys2Proof.Cabinet

open Sys2Proof

/-- Settles O25, by the first step that decides a query and by what each policy learns. -/
theorem queriesAreAnsweredAndLearned : Obligations.QueriesAreAnsweredAndLearned :=
  ⟨queriesAreAnsweredByTheFirstStep, learningByPolicy⟩

end Sys2Proof.Cabinet
end

section
/-! SUPPORT. O26: forgets are resolved by a done message or by their expiry (R103). -/

namespace Sys2Proof.Cabinet

open Sys2Proof Sys2Proof.Machine Sys2Proof.Safety Sys2Proof.Claims Sys2Proof.BottleTrack Sys2Proof.Invariants Sys2Proof.Track

variable {s t : State} {a : Address} {f : Forget} {before after : List Forget}

/-! ## The forget of an address -/

theorem find_forget_none (h : ¬ forgotten s a) : (s.sws.forgets.find? fun f => f.address == a) = none := by
  rw [List.find?_eq_none]
  exact fun f hf haddress => h ⟨f, hf, by simpa using haddress⟩

theorem find_forget (hbefore : ∀ x ∈ before ++ after, x.address ≠ f.address) :
    ((before ++ f :: after).find? fun x => x.address == f.address) = some f := by
  rw [List.find?_append, List.find?_eq_none.mpr fun x hx => by simpa using hbefore x (List.mem_append_left _ hx)]
  simp

theorem filter_forget (hbefore : ∀ x ∈ before ++ after, x.address ≠ f.address) :
    ((before ++ f :: after).filter fun x => x.address != f.address) = before ++ after := by
  rw [List.filter_append, List.filter_cons_of_neg (by simp), ← List.filter_append, List.filter_eq_self]
  simpa using hbefore

theorem endFlushing_of_endsFlushing {g : Station → Option Station} (h : endsFlushing s a g t) : s.endFlushing a g = t := by
  unfold State.endFlushing
  obtain ⟨w, e, hstands, hflushing, rfl⟩ | ⟨hnone, rfl⟩ := h
  · rw [lookup_of_standsIn hstands]
    dsimp only
    rw [if_pos hflushing, setOf_eq_setFor]
    rfl
  · split
    · rename_i w e hfound
      obtain ⟨hway, haddress⟩ := way_of_lookup hfound
      exact if_neg (hnone w e (way_setOf.symm.trans hway) haddress)
    · rfl

/-! ## Resolutions -/

/-- The report of a resolved forget, to the grant it was for. -/
def reportResolved (s : State) (f : Forget) (expired : Bool) : State := sending s (resolution s f expired)

theorem reportResolved_none (h : f.grant = none) (expired : Bool) : reportResolved s f expired = s := by
  unfold reportResolved resolution
  rw [h]
  exact sendAll_nil s

theorem reportResolved_some {id : Nat} (h : f.grant = some id) (expired : Bool) : reportResolved s f expired
    = s.send (.closingReport (if expired then .resolvedExpired id (s.forgetsOf id)
      else .resolvedDone id (s.forgetsOf id))) := by
  unfold reportResolved resolution
  rw [h]
  rfl

theorem blockPort_eq (s : State) (p : PortIx) : s.blockPort p =
    let x := s.sws.ports[p]
    let b := onePort s.sws p { x with blocked := true }
    if x.blocked then s
    else sending (withSws s { b with outTag := b.outTag + 1, sent := b.sent ++ [⟨b.outTag, .portBlock p⟩] })
      (change .flushUnconfirmed (decide (∃ q : PortIx, s.sws.ports[q].blocked = true)) true) := by
  unfold State.blockPort
  rw [setBlocked_eq, ← someBlocked_eq]
  dsimp only
  rw [someBlocked_of (x := onePort s.sws p _) (p := p) (by rw [onePort_port])]
  rfl

theorem expireForget_eq (s : State) (f : Forget) : s.expireForget f =
    reportResolved ((((((s.dropForget f.address).countSwitch .forgetsExpired).endFlushing f.address fun e =>
      some { e with state := .quarantined }).blockPort f.port).recomputeBindings).post
        (.forgetExpired f.address f.port f.reason f.grant)) f true := by
  unfold State.expireForget
  dsimp only
  split
  · rename_i id hid
    rw [reportResolved_some hid]
    rfl
  · rename_i hid
    rw [reportResolved_none hid]

theorem resolution_post (s : State) (n : Notice) (f : Forget) (expired : Bool) :
    resolution (s.post n) f expired = resolution s f expired := rfl

theorem exec_forgetDone_none (h : awake s) (hnone : ¬ forgotten s a) :
    exec (.forgetDone a) s = .next (withSws (s.received (.forgetDone a)) (linkCounted s.sws 5)) := by
  refine exec_fromSwitch h (execForgetDone a) rfl rfl ?_
  dsimp only
  rw [find_forget_none (s := s.received (.forgetDone a)) hnone]
  rfl

theorem exec_forgetExpiry_none (h : running s) (hnone : ¬ forgotten s a) :
    exec (.forgetExpiry a) s = .next (s.received (.forgetExpiry a)) := by
  refine exec_taken h (execForgetExpiry a) rfl rfl ?_
  rw [find_forget_none (s := s.received (.forgetExpiry a)) hnone]

theorem dropForget_eq (hforgets : s.sws.forgets = before ++ f :: after)
    (hothers : ∀ x ∈ before ++ after, x.address ≠ f.address) :
    s.dropForget f.address = withSws s { s.sws with forgets := before ++ after } := by
  unfold State.dropForget
  rw [hforgets, filter_forget hothers]
  rfl

/-- Settles O26, by the forget of the address: a done message drops it, its expiry also blocks its port. -/
theorem forgetsResolveByDoneOrExpiry : Obligations.ForgetsResolveByDoneOrExpiry := by
  refine ⟨fun a s h hnone => exec_forgetDone_none h hnone, fun a s h hnone => exec_forgetExpiry_none h hnone,
    fun a s f before after hforgets haddress hothers => ?_⟩
  subst haddress
  have hdrop : ∀ c, (s.received c).dropForget f.address = withSws (s.received c) { s.sws with forgets := before ++ after } :=
    fun c => dropForget_eq (s := s.received c) hforgets hothers
  refine ⟨fun t h hends => ?_, fun h hearly => ?_, fun t t' h hlate hends hrebinds => ?_⟩
  · refine exec_fromSwitch h (execForgetDone f.address) rfl rfl ?_
    rw [← hdrop] at hends
    rw [show (s.received (.forgetDone f.address)).sws.forgets = before ++ f :: after from hforgets, find_forget hothers]
    dsimp only
    rw [endFlushing_of_endsFlushing hends]
    cases hgrant : f.grant with
    | none => exact (reportResolved_none hgrant false).symm
    | some id => exact (reportResolved_some hgrant false).symm
  · refine exec_taken h (execForgetExpiry f.address) rfl rfl ?_
    rw [show (s.received (.forgetExpiry f.address)).sws.forgets = before ++ f :: after from hforgets, find_forget hothers]
    exact if_neg (Nat.not_le.mpr hearly)
  · refine exec_taken h (execForgetExpiry f.address) rfl rfl ?_
    rw [show (s.received (.forgetExpiry f.address)).sws.forgets = before ++ f :: after from hforgets, find_forget hothers]
    refine (if_pos (show forgetEnd f ≤ s.tmu.now from hlate)).trans ?_
    rw [show withSws _ _ = ((s.received _).dropForget f.address).countSwitch .forgetsExpired by
      rw [hdrop]
      rfl] at hends
    rw [expireForget_eq, endFlushing_of_endsFlushing hends, blockPort_eq, ← rebinds_iff.mp hrebinds]
    rfl

end Sys2Proof.Cabinet
end

section
/-!
SUPPORT. A walk over every way of the station table: what it writes, and what it forgets on the way (R101, R103).
-/

namespace Sys2Proof.Cabinet

open Sys2Proof Sys2Proof.Machine Sys2Proof.Safety Sys2Proof.Claims Sys2Proof.BottleTrack Sys2Proof.Invariants

/-! ## The ways in their order -/

theorem allWays_filterMap {α : Type} (f : Fin 16 → Fin 4 → Option α) :
    (allWays.filterMap fun p => f p.1 p.2) = (List.finRange 16).flatMap fun n => (List.finRange 4).filterMap (f n) := by
  have hways : allWays = (List.finRange 16).flatMap fun n => (List.finRange 4).map fun w => (n, w) := by decide
  rw [hways, List.filterMap_flatMap]
  simp only [List.filterMap_map]
  rfl

theorem stations_filter (x : Sws) (P : Station → Bool) : x.stations.filter P
    = (List.finRange 16).flatMap fun n => (List.finRange 4).filterMap fun w => (x.table[n].ways[w]).filter P := by
  unfold Sws.stations
  rw [List.filter_filterMap, ← allWays_filterMap]

theorem allWays_nodup : allWays.Nodup := by decide

/-! ## A walk that writes each way it stands at -/

def withTable (s : State) (table : Vector StationSet 16) : State := withSws s { s.sws with table := table }

theorem withTable_self (s : State) : withTable s s.sws.table = s := rfl

theorem withTable_withTable (s : State) (x y : Vector StationSet 16) : withTable (withTable s x) y = withTable s y := rfl

/-- One step of a walk: an entry that is picked is written anew in its way, and then acted on. -/
def walkStep (picks : Station → Bool) (writes : Station → Option Station) (act : State → Station → State) (s : State)
    (p : Fin 16 × Fin 4) : State :=
  match s.way p.1 p.2 with
  | some e => if picks e then act (s.setWay p.1 p.2 (writes e)) e else s
  | none => s

def written (picks : Station → Bool) (writes : Station → Option Station) (e : Station) : Option Station :=
  if picks e then writes e else some e

section

variable {s : State} {picks : Station → Bool} {writes : Station → Option Station} {act : State → Station → State}

theorem foldl_act_withTable (hact : ∀ s e table, act (withTable s table) e = withTable (act s e) table) (l : List Station)
    (s : State) (table : Vector StationSet 16) : l.foldl act (withTable s table) = withTable (l.foldl act s) table := by
  induction l generalizing s with
  | nil => rfl
  | cons e rest ih => rw [List.foldl_cons, List.foldl_cons, hact, ih]

def setCell (table : Vector StationSet 16) (n : Fin 16) (w : Fin 4) (e : Option Station) : Vector StationSet 16 :=
  table.set n { table[n] with ways := table[n].ways.set w e }

theorem setCell_ways (table : Vector StationSet 16) (n m : Fin 16) (w v : Fin 4) (e : Option Station) :
    (setCell table n w e)[m].ways[v] = if m = n ∧ v = w then e else table[m].ways[v] := by
  rw [setCell]
  by_cases hm : m = n
  · subst hm
    simp only [true_and, Fin.getElem_fin, Vector.getElem_set_self, Vector.getElem_set, Fin.ext_iff, eq_comm]
  · rw [if_neg fun h => hm h.1]
    simp only [Fin.getElem_fin, Vector.getElem_set_ne _ _ fun h => hm (Fin.ext h.symm)]

theorem setCell_victim (table : Vector StationSet 16) (n m : Fin 16) (w : Fin 4) (e : Option Station) :
    (setCell table n w e)[m].victim = table[m].victim := by
  rw [setCell]
  by_cases hm : m = n
  · subst hm
    simp only [Fin.getElem_fin, Vector.getElem_set_self]
  · simp only [Fin.getElem_fin, Vector.getElem_set_ne _ _ fun h => hm (Fin.ext h.symm)]

/-- A step past an entry that is not picked does nothing. -/
theorem walkStep_passes {table : Vector StationSet 16} {n : Fin 16} {w : Fin 4}
    (h : (table[n].ways[w]).filter picks = none) :
    walkStep picks writes act (withTable s table) (n, w) = withTable s table := by
  unfold walkStep
  rw [show (withTable s table).way (n, w).1 (n, w).2 = table[n].ways[w] from rfl]
  split
  · rename_i e he
    rw [he, Option.filter_some_eq_none] at h
    exact if_neg h
  · rfl

theorem walkStep_writes (hact : ∀ s e table, act (withTable s table) e = withTable (act s e) table)
    {table : Vector StationSet 16} {n : Fin 16} {w : Fin 4} {e : Station} (h : (table[n].ways[w]).filter picks = some e) :
    walkStep picks writes act (withTable s table) (n, w) = withTable (act s e) (setCell table n w (writes e)) := by
  obtain ⟨he, hpicks⟩ := Option.filter_eq_some_iff.mp h
  unfold walkStep
  rw [show (withTable s table).way (n, w).1 (n, w).2 = table[n].ways[w] from rfl, he]
  dsimp only
  rw [if_pos hpicks, ← hact]
  rfl

theorem bind_written_of_passes {x : Option Station} (h : x.filter picks = none) : x.bind (written picks writes) = x := by
  cases x with
  | none => rfl
  | some e =>
    rw [Option.filter_some_eq_none] at h
    exact if_neg h

theorem bind_written_of_picks {x : Option Station} {e : Station} (h : x.filter picks = some e) :
    x.bind (written picks writes) = writes e := by
  obtain ⟨rfl, hpicks⟩ := Option.filter_eq_some_iff.mp h
  exact if_pos hpicks

/-- The entry a walk picks where it stands. -/
def pickedAt (picks : Station → Bool) (table : Vector StationSet 16) (p : Fin 16 × Fin 4) : Option Station :=
  (table[p.1].ways[p.2]).filter picks

theorem foldl_walkStep (hact : ∀ s e table, act (withTable s table) e = withTable (act s e) table)
    {l : List (Fin 16 × Fin 4)} (hl : l.Nodup) (s : State) (table : Vector StationSet 16) :
    ∃ after : Vector StationSet 16, l.foldl (walkStep picks writes act) (withTable s table)
        = withTable ((l.filterMap (pickedAt picks table)).foldl act s) after
      ∧ (∀ n w, after[n].ways[w]
        = if (n, w) ∈ l then (table[n].ways[w]).bind (written picks writes) else table[n].ways[w])
      ∧ ∀ n : Fin 16, after[n].victim = table[n].victim := by
  induction l generalizing s table with
  | nil => exact ⟨table, rfl, fun n w => rfl, fun n => rfl⟩
  | cons p rest ih =>
    obtain ⟨hp, hrest⟩ := List.nodup_cons.mp hl
    obtain ⟨m, v⟩ := p
    cases hfilter : pickedAt picks table (m, v) with
    | none =>
      obtain ⟨after, hfold, hways, hvictims⟩ := ih hrest s table
      refine ⟨after, ?_, fun n w => ?_, hvictims⟩
      · rw [List.foldl_cons, walkStep_passes hfilter, hfold, List.filterMap_cons_none hfilter]
      · rw [hways]
        by_cases hhere : (n, w) = (m, v)
        · obtain ⟨rfl, rfl⟩ := Prod.mk.inj hhere
          rw [if_neg hp, if_pos List.mem_cons_self, bind_written_of_passes hfilter]
        · simp only [List.mem_cons, hhere, false_or]
    | some e =>
      obtain ⟨after, hfold, hways, hvictims⟩ := ih hrest (act s e) (setCell table m v (writes e))
      have hkeeps : ∀ p ∈ rest, pickedAt picks (setCell table m v (writes e)) p = pickedAt picks table p := by
        rintro ⟨n, w⟩ hmem
        refine congrArg (Option.filter picks) ((setCell_ways _ _ _ _ _ _).trans (if_neg ?_))
        rintro ⟨rfl, rfl⟩
        exact hp hmem
      refine ⟨after, ?_, fun n w => ?_, fun n => (hvictims n).trans (setCell_victim _ _ _ _ _)⟩
      · rw [List.foldl_cons, walkStep_writes hact hfilter, hfold, List.filterMap_cons_some hfilter, List.foldl_cons]
        congr 2
        exact List.filterMap_congr hkeeps
      · rw [hways]
        by_cases hhere : (n, w) = (m, v)
        · obtain ⟨rfl, rfl⟩ := Prod.mk.inj hhere
          rw [if_neg hp, if_pos List.mem_cons_self, bind_written_of_picks hfilter, setCell_ways, if_pos ⟨rfl, rfl⟩]
        · have hother : (setCell table m v (writes e))[n].ways[w] = table[n].ways[w] :=
            (setCell_ways _ _ _ _ _ _).trans (if_neg fun heq => hhere (Prod.ext heq.1 heq.2))
          simp only [List.mem_cons, hhere, false_or, hother]

/-- A walk over the whole table writes every way, and acts on the entries it picked in their order. -/
theorem walk_eq (hact : ∀ s e table, act (withTable s table) e = withTable (act s e) table) (s : State) :
    allWays.foldl (walkStep picks writes act) s
      = ((List.finRange 16).flatMap fun n => (List.finRange 4).filterMap fun w =>
          (s.sws.table[n].ways[w]).filter picks).foldl act (withSws s (everyWay s.sws (written picks writes))) := by
  obtain ⟨after, hfold, hways, hvictims⟩ := foldl_walkStep hact allWays_nodup s s.sws.table
  have htable : after = s.sws.table.map fun y => { y with ways := y.ways.map fun e => e.bind (written picks writes) } := by
    refine Vector.ext fun n hn => ?_
    have hhere : after[n].ways = (s.sws.table[n].ways).map fun e => e.bind (written picks writes) := by
      refine Vector.ext fun w hw => ?_
      rw [Vector.getElem_map]
      exact (hways ⟨n, hn⟩ ⟨w, hw⟩).trans (if_pos (mem_allWays _ _))
    rw [Vector.getElem_map, ← hhere, ← show after[n].victim = s.sws.table[n].victim from hvictims ⟨n, hn⟩]
  rw [← allWays_filterMap fun n w => (s.sws.table[n].ways[w]).filter picks]
  change allWays.foldl (walkStep picks writes act) s = List.foldl act (withTable s _) (allWays.filterMap (pickedAt picks _))
  rw [← htable, foldl_act_withTable hact, ← hfold, withTable_self]

end

end Sys2Proof.Cabinet
end

section
/-! SUPPORT. O28: the configuration of a port, and the end of its block (R99, R103). -/

namespace Sys2Proof.Cabinet

open Sys2Proof Sys2Proof.Machine Sys2Proof.Safety Sys2Proof.Claims Sys2Proof.BottleTrack Sys2Proof.Invariants Sys2Proof.Track
  Sys2Proof.AxisMoves Sys2Proof.Recipes

variable {s : State} {p : PortIx} {old new : Policy}

/-! ## What a change of policy does to the strangers -/

theorem strangerOn_eq (e : Station) (p : PortIx) (state : StationState) : e.strangerOn p state = stranger e p state := rfl

theorem everyWay_congr (x : Sws) {f g : Station → Option Station} (h : ∀ e, f e = g e) : everyWay x f = everyWay x g := by
  rw [funext h]

theorem flushStrangers_eq (s : State) (p : PortIx) : s.flushStrangers p
    = allForgotten (withSws s (everyWay s.sws fun e =>
        some (if stranger e p .admitted then { e with state := .flushing } else e))) (strangers s p) .policyChange := by
  have hwalk := walk_eq (picks := fun e => stranger e p .admitted) (writes := fun e => some { e with state := .flushing })
    (act := fun t e => forgets t e .policyChange) (fun _ _ _ => rfl) s
  refine Eq.trans ?_ (hwalk.trans ?_)
  · rfl
  · rw [everyWay_congr s.sws (g := fun e => some (if stranger e p .admitted then { e with state := .flushing } else e))]
    · rfl
    · intro e
      unfold written
      split <;> rfl

theorem clearStrangers_eq (s : State) (p : PortIx) : s.clearStrangers p
    = withSws s (everyWay s.sws fun e => if stranger e p .quarantined then none else some e) := by
  have hwalk := walk_eq (picks := fun e => stranger e p .quarantined) (writes := fun _ => none)
    (act := fun t _ => t) (fun _ _ _ => rfl) s
  refine Eq.trans ?_ (hwalk.trans ?_)
  · rfl
  · rw [List.foldl_fixed]
    rfl

theorem changePolicy_eq (s : State) (p : PortIx) (old new : Policy) : s.changePolicy p old new = policyChanged s p old new := by
  unfold State.changePolicy policyChanged
  rw [← flushStrangers_eq, ← clearStrangers_eq]
  by_cases hsame : old = new
  · subst hsame
    rw [if_pos rfl, if_neg fun h => h.2 h.1, if_neg fun h => h.1 h.2]
  · rw [if_neg hsame]
    dsimp only
    by_cases hold : old = .learn
    · have hnew : new ≠ .learn := fun hnew => hsame (hold.trans hnew.symm)
      rw [if_pos hold, if_neg hnew, if_pos ⟨hold, hnew⟩]
    · simp only [hold, not_false_eq_true, ne_eq, true_and, false_and, if_false]

theorem allForgotten_keeps (entries : List Station) (s : State) (reason : ForgetReason) :
    (allForgotten s entries reason).sws.ports = s.sws.ports ∧ (allForgotten s entries reason).cfg = s.cfg := by
  unfold allForgotten
  induction entries generalizing s with
  | nil => exact ⟨rfl, rfl⟩
  | cons e rest ih => exact ih (forgets s e reason)

theorem policyChanged_keeps (s : State) (p : PortIx) (old new : Policy) :
    (policyChanged s p old new).sws.ports = s.sws.ports ∧ (policyChanged s p old new).cfg = s.cfg := by
  unfold policyChanged
  split
  · exact allForgotten_keeps _ _ _
  · split
    · exact ⟨rfl, rfl⟩
    · exact ⟨rfl, rfl⟩

/-! ## Whether a policy may change -/

theorem strangers_eq (s : State) (p : PortIx) : (s.sws.stations.filter fun e => e.strangerOn p .admitted) = strangers s p :=
  stations_filter s.sws _

theorem policyRefusal_inUse (hold : old = .service) (hnew : new ≠ .service) (hused : s.sws.ports[p].service ≠ none) :
    policyRefusal s p old new = some .state := by
  subst hold
  unfold policyRefusal
  rw [if_neg hnew.symm]
  exact if_pos (Option.isSome_iff_ne_none.mpr hused)

theorem policyRefusal_crowded (hold : old = .learn) (hnew : new ≠ .learn)
    (hfull : 16 < s.sws.forgets.length + (strangers s p).length) : policyRefusal s p old new = some .full := by
  subst hold
  unfold policyRefusal
  rw [if_neg hnew.symm]
  dsimp only
  rw [strangers_eq]
  exact if_neg (Nat.not_le.mpr hfull)

theorem policyRefusal_none (hused : ¬ (old = .service ∧ new ≠ .service ∧ s.sws.ports[p].service ≠ none))
    (hfull : ¬ (old = .learn ∧ new ≠ .learn ∧ 16 < s.sws.forgets.length + (strangers s p).length)) :
    policyRefusal s p old new = none := by
  unfold policyRefusal
  by_cases hsame : old = new
  · exact if_pos hsame
  rw [if_neg hsame]
  cases old with
  | locked => rfl
  | learn =>
    dsimp only
    rw [strangers_eq]
    exact if_pos (Nat.not_lt.mp fun hlt => hfull ⟨rfl, Ne.symm hsame, hlt⟩)
  | service => exact if_neg fun hsome => hused ⟨rfl, Ne.symm hsame, Option.isSome_iff_ne_none.mp hsome⟩

/-! ## The two commands -/

theorem policyOf_eq_some {n : Nat} : policyOf n = some new ↔ policyCode new = n := by
  unfold policyOf
  split <;> cases new <;> simp_all [policyCode] <;> omega

theorem policyOf_none {n : Nat} (h : 3 ≤ n) : policyOf n = none := by
  unfold policyOf
  split <;> first | omega | rfl

theorem thresholdsOk_iff (top warn alarm : Nat) : thresholdsOk top warn alarm = true
    ↔ warn ≤ top ∧ alarm ≤ top ∧ (warn ≠ 0 → alarm ≠ 0 → warn ≤ alarm) := by
  simp only [thresholdsOk, Bool.and_eq_true, Bool.or_eq_true, decide_eq_true_eq, beq_iff_eq]
  omega

theorem inAlarm_congr {x y : Sws} (h : x.ports = y.ports) : inAlarm x = inAlarm y := by
  unfold inAlarm
  rw [h]

/-- A port's error state is settled against its new thresholds. -/
theorem configured_settleErrors {t : State} (h : t.sws.ports = s.sws.ports ∧ t.cfg = s.cfg) (c : PortSettings) :
    (t.configure { t.cfg with ports := t.cfg.ports.set p c }).settleErrors p =
      let u := withSettings t { s.cfg with ports := s.cfg.ports.set p c }
      let after := onePort u.sws p { s.sws.ports[p] with
        errorState := errorStateFor s.sws.ports[p].errorCount c.warn c.alarm }
      sending (withSws u after) (change .portErrors (inAlarm s.sws) (inAlarm after)) := by
  obtain ⟨hports, hcfg⟩ := h
  rw [configure_eq_withSettings, settleErrors_eq, hcfg]
  dsimp only
  rw [show (withSettings t _).sws.ports = s.sws.ports from hports,
    inAlarm_congr (x := (withSettings t _).sws) hports]
  simp only [withSettings, Fin.getElem_fin, Vector.getElem_set_self]

theorem portConfig_fits {n policy warn alarm : Nat} (hlevel : 2 ≤ s.acu.level) (hp : portIs n p)
    (hpolicy : policyCode new = policy) (hfits : thresholdsFit warn alarm) (f : PortIx → Policy → State → State) :
    (s.withLevel 2 fun s => s.requireSome (portOf n) .badValue fun p s => s.requireSome (policyOf policy) .badValue fun new s =>
      s.require (thresholdsOk 65535 warn alarm) .badValue (f p new)) = f p new s := by
  rw [withLevel_reached hlevel, requireSome_met (portOf_of_portIs hp), requireSome_met (policyOf_eq_some.mpr hpolicy),
    require_met ((thresholdsOk_iff _ _ _).mpr hfits)]

theorem portConfig_unfit {n policy warn alarm : Nat} (hlevel : 2 ≤ s.acu.level)
    (hbad : n = 0 ∨ 9 ≤ n ∨ 3 ≤ policy ∨ ¬ thresholdsFit warn alarm) (f : PortIx → Policy → State → State) :
    (s.withLevel 2 fun s => s.requireSome (portOf n) .badValue fun p s => s.requireSome (policyOf policy) .badValue fun new s =>
      s.require (thresholdsOk 65535 warn alarm) .badValue (f p new)) = s.refuse .badValue := by
  rw [withLevel_reached hlevel]
  by_cases hn : n = 0 ∨ 9 ≤ n
  · rw [requireSome_failed (portOf_of_noPort hn)]
  have hport : portIs n ⟨n - 1, by omega⟩ := by
    show n = n - 1 + 1
    omega
  rw [requireSome_met (portOf_of_portIs hport)]
  cases hpolicy : policyOf policy with
  | none => rw [requireSome_none]
  | some new =>
    have hsmall : policy < 3 := Nat.lt_of_not_le fun hlarge => by rw [policyOf_none hlarge] at hpolicy; cases hpolicy
    have hunfit : ¬ thresholdsFit warn alarm := by
      obtain h | h | h | h := hbad
      · exact absurd (.inl h) hn
      · exact absurd (.inr h) hn
      · omega
      · exact h
    rw [requireSome_some]
    exact require_failed (Bool.eq_false_iff.mpr fun hok => hunfit ((thresholdsOk_iff _ _ _).mp hok)) _ _

theorem portConfigChecksThenChanges : PortConfigChecksThenChanges := by
  intro n policy warn alarm s h hlevel
  dsimp only
  refine ⟨fun hbad => ?_, fun p new hp hpolicy hfits => ⟨fun hused => ?_, fun hcrowded => ?_, fun hfree hroom => ?_⟩⟩
  · exact exec_taken h (execPortConfig n policy warn alarm) rfl rfl (portConfig_unfit (by exact hlevel) hbad _)
  all_goals
    refine exec_taken h (execPortConfig n policy warn alarm) rfl rfl
      ((portConfig_fits (by exact hlevel) hp hpolicy hfits _).trans ?_)
    dsimp only
  · obtain ⟨hold, hnew, hsome⟩ := hused
    rw [policyRefusal_inUse (s := s.received _) (by exact hold) hnew (by exact hsome)]
  · obtain ⟨hold, hnew, hfull⟩ := hcrowded
    rw [policyRefusal_crowded (s := s.received _) (by exact hold) hnew (by exact hfull)]
  · rw [policyRefusal_none (s := s.received _) (by exact hfree) (by exact hroom)]
    dsimp only
    rw [changePolicy_eq, configured_settleErrors (policyChanged_keeps _ _ _ _)]
    rfl

theorem portUnblockClearsTheBlock : PortUnblockClearsTheBlock := by
  intro n s h hlevel
  dsimp only
  refine ⟨fun hn => ?_, fun p hp => ⟨fun hopen => ?_, fun hblocked => ?_⟩⟩
  · refine exec_taken h (execPortUnblock n) rfl rfl ((withLevel_reached (by exact hlevel) _).trans ?_)
    exact requireSome_failed (portOf_of_noPort hn) _ _
  · refine exec_taken h (execPortUnblock n) rfl rfl ((withLevel_reached (by exact hlevel) _).trans
      ((requireSome_met (portOf_of_portIs hp) _ _).trans (if_neg ?_)))
    exact Bool.not_eq_true _ ▸ hopen
  · refine ⟨_, rebinds_iff.mpr rfl, ?_⟩
    refine exec_taken h (execPortUnblock n) rfl rfl ((withLevel_reached (by exact hlevel) _).trans
      ((requireSome_met (portOf_of_portIs hp) _ _).trans ((if_pos (by exact hblocked)).trans ?_)))
    rw [setBlocked_eq, ← someBlocked_eq]
    dsimp only
    rw [show someBlocked (s.received (.portUnblock n)).sws = true from someBlocked_of hblocked]
    rfl

/-- Settles O28, by the checks of a port's configuration and by the port's block. -/
theorem portsAreConfiguredAndUnblocked : Obligations.PortsAreConfiguredAndUnblocked :=
  ⟨portConfigChecksThenChanges, portUnblockClearsTheBlock⟩

end Sys2Proof.Cabinet
end

section
/-! SUPPORT. O29 and O30: stations are pinned by their table, leave it and return (R105, R106). -/

namespace Sys2Proof.Cabinet

open Sys2Proof Sys2Proof.Machine Sys2Proof.Safety Sys2Proof.Claims Sys2Proof.BottleTrack Sys2Proof.Invariants Sys2Proof.Track
  Sys2Proof.AxisMoves

variable {s : State} {a : Address} {w : Fin 4} {e : Station} {r : Role} {role : Nat} {unitNo : Option Nat}

theorem stationDone_iff {u : State} : Claims.stationDone s u ↔ u = s.stationDone := by
  constructor
  · rintro ⟨t, hrebinds, rfl⟩
    rw [rebinds_iff.mp hrebinds]
    rfl
  · rintro rfl
    exact ⟨_, rebinds_iff.mpr rfl, rfl⟩

theorem finOf_eq_some {n v : Nat} {i : Fin n} : finOf n v = some i ↔ v = i.val := by
  unfold finOf
  split
  · rw [Option.some.injEq, Fin.ext_iff]
  · rename_i h
    exact iff_of_false (by simp) fun hv => h (hv ▸ i.isLt)

theorem finOf_map_eq_some {α : Type} {n v : Nat} {f : Fin n → α} {x : α} :
    (finOf n v).map f = some x ↔ ∃ i : Fin n, v = i.val ∧ x = f i := by
  simp only [Option.map_eq_some_iff, finOf_eq_some, eq_comm (a := x)]

theorem pinRoleOf_eq_some : pinRoleOf role unitNo = some r ↔ pinRole role unitNo r := by
  unfold pinRoleOf pinRole
  split
  · simp [finOf_eq_some, eq_comm (a := r)]
  · simp [finOf_eq_some, eq_comm (a := r)]
  · simp [eq_comm]
  · simp [eq_comm]
  · rename_i hdrive hcamera hpanel hother
    refine iff_of_false (by simp) ?_
    rintro (⟨k, rfl, rfl, -⟩ | ⟨k, rfl, rfl, -⟩ | ⟨rfl, rfl, -⟩ | ⟨rfl, rfl, -⟩)
    · exact hdrive _ rfl rfl
    · exact hcamera _ rfl rfl
    · exact hpanel rfl rfl
    · exact hother rfl rfl

/-- The roles a pin names are those of a drive, a camera, a panel or another station. -/
theorem roleUnit_isSome_of_pinRole (h : pinRole role unitNo r) :
    (roleUnit r).isSome = true ↔ r ≠ .panel ∧ r ≠ .other := by
  obtain ⟨k, -, -, rfl⟩ | ⟨k, -, -, rfl⟩ | ⟨-, -, rfl⟩ | ⟨-, -, rfl⟩ := h <;> simp [roleUnit]

theorem boundElsewhere_iff (h : pinRole role unitNo r) : s.boundElsewhere a r = true ↔ boundByAnother s a r := by
  simp only [State.boundElsewhere, Bool.and_eq_true, roleUnit_isSome_of_pinRole h, List.any_eq_true, mem_stations,
    beq_iff_eq, bne_iff_ne]
  constructor
  · rintro ⟨⟨hpanel, hother⟩, e, ⟨n, w, hway⟩, hrole, haddress⟩
    exact ⟨hpanel, hother, n, w, e, hway, hrole, haddress⟩
  · rintro ⟨hpanel, hother, n, w, e, hway, hrole, haddress⟩
    exact ⟨⟨hpanel, hother⟩, e, ⟨n, w, hway⟩, hrole, haddress⟩

/-- What a pin must name. -/
def pinFits (a : Address) (n role : Nat) (unitNo : Option Nat) : Prop :=
  a ≠ 0 ∧ a ≠ BitVec.allOnes 48 ∧ 1 ≤ n ∧ n ≤ 8 ∧ ∃ r, pinRole role unitNo r

section

variable {n : Nat} (f : PortIx → Role → State → State)

theorem pin_fits {p : PortIx} (hlevel : 2 ≤ s.acu.level) (hfits : pinFits a n role unitNo) (hp : portIs n p)
    (hr : pinRole role unitNo r) :
    (s.withLevel 2 fun s => s.require (!notAnAddress a) .badValue fun s => s.requireSome (portOf n) .badValue fun p s =>
      s.requireSome (pinRoleOf role unitNo) .badValue (f p)) = f p r s := by
  have haddress : (!notAnAddress a) = true := by
    rw [Bool.not_eq_true', ← Bool.not_eq_true, notAnAddress_iff]
    exact fun h => h.elim hfits.1 hfits.2.1
  rw [withLevel_reached hlevel, require_met haddress, requireSome_met (portOf_of_portIs hp),
    requireSome_met (pinRoleOf_eq_some.mpr hr)]

theorem pin_unfit (hlevel : 2 ≤ s.acu.level) (hbad : ¬ pinFits a n role unitNo) :
    (s.withLevel 2 fun s => s.require (!notAnAddress a) .badValue fun s => s.requireSome (portOf n) .badValue fun p s =>
      s.requireSome (pinRoleOf role unitNo) .badValue (f p)) = s.refuse .badValue := by
  rw [withLevel_reached hlevel]
  cases haddress : notAnAddress a with
  | true => rfl
  | false =>
    by_cases hn : 1 ≤ n ∧ n ≤ 8
    · rw [Bool.not_false, require_true, requireSome_met (portOf_some hn)]
      cases hr : pinRoleOf role unitNo with
      | none => rfl
      | some r =>
        have hnot : ¬ (a = 0 ∨ a = BitVec.allOnes 48) := by rw [← notAnAddress_iff, haddress]; decide
        exact absurd ⟨fun h => hnot (.inl h), fun h => hnot (.inr h), hn.1, hn.2, r, pinRoleOf_eq_some.mp hr⟩ hbad
    · rw [Bool.not_false, require_true, requireSome_failed (portOf_none hn)]

end

/-! ## The cases of a pin -/

theorem pinNew_of_makesPlace {p : PortIx} {t : State} (h : makesPlace s (setFor a) w t) : s.pinNew a p r
    = (withWay t (setFor a) w (some (pins a p r none))).stationDone := by
  unfold State.pinNew
  rw [setOf_eq_setFor]
  dsimp only
  obtain ⟨hplace, rfl⟩ | ⟨e, hplace, rfl⟩ := placeIn_of_makesPlace h
  all_goals
    rw [hplace]
    rfl

theorem pinNew_noRoom {p : PortIx} (h : victimIs s (setFor a) w e) (hadmitted : e.state = .admitted)
    (hfull : 16 ≤ s.sws.forgets.length) : s.pinNew a p r = s.refuse .full := by
  unfold State.pinNew
  rw [setOf_eq_setFor]
  dsimp only
  rw [placeIn_noRoom h hadmitted hfull]

theorem pinNew_noVictim {p : PortIx} (h : noVictim s (setFor a)) : s.pinNew a p r = s.refuse .full := by
  unfold State.pinNew
  rw [setOf_eq_setFor]
  dsimp only
  rw [placeIn_of_noVictim h]

theorem pinOver_eq {p : PortIx} (h : e.address = a) : s.pinOver p r w e
    = (countsTerminal (withWay s (setFor a) w (some (pins a p r (some e)))) e).stationDone := by
  subst h
  unfold State.pinOver
  rw [reportLeft_eq, setOf_eq_setFor]
  rfl

theorem countsTerminal_of_not_admitted (h : e.state ≠ .admitted) : countsTerminal s e = s := by
  rw [← reportLeft_eq, reportLeft_of_not_admitted h]

/-- A pin whose operands passed their checks. -/
def pinChecked (a : Address) (p : PortIx) (r : Role) (s : State) : State :=
  if s.forgetting a then s.refuse .busy
  else match s.lookup a with
    | some (w, e) =>
      if e.kind = .pinned ∨ s.boundElsewhere a r ∨ (e.state = .admitted ∧ e.port ≠ p) then s.refuse .state
      else s.pinOver p r w e
    | none => if s.boundElsewhere a r then s.refuse .state else s.pinNew a p r

theorem exec_stationPin {n : Nat} {p : PortIx} (h : running s) (hlevel : 2 ≤ s.acu.level) (hfits : pinFits a n role unitNo)
    (hp : portIs n p) (hr : pinRole role unitNo r) :
    exec (.stationPin a n role unitNo) s = .next (pinChecked a p r (s.received (.stationPin a n role unitNo))) :=
  exec_taken h (execStationPin a n role unitNo) rfl rfl (pin_fits (pinChecked a) (by exact hlevel) hfits hp hr)

theorem pinChecked_forgotten {p : PortIx} (h : forgotten s a) : pinChecked a p r s = s.refuse .busy :=
  if_pos (forgetting_iff.mpr h)

theorem pinChecked_standing_refused {p : PortIx} (hr : pinRole role unitNo r) (hfree : ¬ forgotten s a) (hw : standsIn s a w e)
    (hbad : e.kind = .pinned ∨ boundByAnother s a r ∨ (e.state = .admitted ∧ e.port ≠ p)) :
    pinChecked a p r s = s.refuse .state := by
  unfold pinChecked
  rw [if_neg fun h => hfree (forgetting_iff.mp h), lookup_of_standsIn hw]
  exact if_pos (hbad.imp_right (Or.imp_left (boundElsewhere_iff hr).mpr))

theorem pinChecked_standing {p : PortIx} (hr : pinRole role unitNo r) (hfree : ¬ forgotten s a) (hw : standsIn s a w e)
    (hlearned : e.kind = .learned) (hunbound : ¬ boundByAnother s a r) (hport : e.state = .admitted → e.port = p) :
    pinChecked a p r s = s.pinOver p r w e := by
  unfold pinChecked
  rw [if_neg fun h => hfree (forgetting_iff.mp h), lookup_of_standsIn hw]
  refine if_neg ?_
  rintro (hpinned | hbound | ⟨hadmitted, hother⟩)
  · rw [hlearned] at hpinned
    cases hpinned
  · exact hunbound ((boundElsewhere_iff hr).mp hbound)
  · exact hother (hport hadmitted)

theorem pinChecked_missing_refused {p : PortIx} (hr : pinRole role unitNo r) (hfree : ¬ forgotten s a) (hmiss : misses s a)
    (hbound : boundByAnother s a r) : pinChecked a p r s = s.refuse .state := by
  unfold pinChecked
  rw [if_neg fun h => hfree (forgetting_iff.mp h), lookup_of_misses hmiss]
  exact if_pos ((boundElsewhere_iff hr).mpr hbound)

theorem pinChecked_missing {p : PortIx} (hr : pinRole role unitNo r) (hfree : ¬ forgotten s a) (hmiss : misses s a)
    (hunbound : ¬ boundByAnother s a r) : pinChecked a p r s = s.pinNew a p r := by
  unfold pinChecked
  rw [if_neg fun h => hfree (forgetting_iff.mp h), lookup_of_misses hmiss]
  exact if_neg fun h => hunbound ((boundElsewhere_iff hr).mp h)

/-- Settles O29: the pin's checks in their order, then what its address stands for in the table. -/
theorem stationPinByItsTable : Obligations.StationPinByItsTable := by
  intro a n role unitNo s h hlevel
  dsimp only
  refine ⟨fun hbad => ?_, fun hvalid hforgotten => ?_, fun p r hvalid hp hr hfree => ?_⟩
  · exact exec_taken h (execStationPin a n role unitNo) rfl rfl (pin_unfit _ (by exact hlevel) hbad)
  · obtain ⟨-, -, hn, hn', r, hr⟩ := id hvalid
    have hp : portIs n ⟨n - 1, by omega⟩ := by
      show n = n - 1 + 1
      omega
    exact (exec_stationPin h hlevel hvalid hp hr).trans (congrArg _ (pinChecked_forgotten hforgotten))
  rw [exec_stationPin h hlevel hvalid hp hr]
  refine ⟨fun w e hw hbad => congrArg _ ?_, fun hmiss hbound => congrArg _ ?_,
    fun w e u hw hlearned hunbound hadmitted hport hdone => congrArg _ ?_,
    fun w e u hw hlearned hunbound hquarantined hdone => congrArg _ ?_,
    fun w t u hmiss hunbound hplace hdone => congrArg _ ?_,
    fun w e hmiss hunbound hvictim hadmitted hfull => congrArg _ ?_, fun hmiss hunbound hvictim => congrArg _ ?_⟩
  · exact pinChecked_standing_refused hr hfree hw hbad
  · exact pinChecked_missing_refused hr hfree hmiss hbound
  · rw [pinChecked_standing (s := s.received _) hr hfree hw hlearned hunbound fun _ => hport,
      pinOver_eq hw.2.1, stationDone_iff.mp hdone]
  · rw [pinChecked_standing (s := s.received _) hr hfree hw hlearned hunbound
      fun h => absurd (hquarantined.symm.trans h) (by decide), pinOver_eq hw.2.1,
      countsTerminal_of_not_admitted (by rw [hquarantined]; decide),
      stationDone_iff.mp hdone]
  · rw [pinChecked_missing (s := s.received _) hr hfree hmiss hunbound, pinNew_of_makesPlace hplace, stationDone_iff.mp hdone]
  · exact (pinChecked_missing (s := s.received _) hr hfree hmiss hunbound).trans (pinNew_noRoom hvictim hadmitted hfull)
  · exact (pinChecked_missing (s := s.received _) hr hfree hmiss hunbound).trans (pinNew_noVictim hvictim)

end Sys2Proof.Cabinet
end

section
/-! SUPPORT. O30: pinned stations are unpinned, quarantined and released (R106). -/

namespace Sys2Proof.Cabinet

open Sys2Proof Sys2Proof.Machine Sys2Proof.Safety Sys2Proof.Claims Sys2Proof.BottleTrack Sys2Proof.Invariants Sys2Proof.Track
  Sys2Proof.AxisMoves

variable {s t : State} {a : Address} {w : Fin 4} {e : Station}

section

variable (h : running s) (hlevel : 2 ≤ s.acu.level)

include h hlevel

/-! ## An address that is not found -/

theorem unpin_missing (hmiss : misses s a) :
    exec (.stationUnpin a) s = .next ((s.received (.stationUnpin a)).refuse .notFound) := by
  refine exec_taken h (execStationUnpin a) rfl rfl ((withLevel_reached (by exact hlevel) _).trans ?_)
  rw [lookup_of_misses (s := s.received _) hmiss]

theorem quarantine_missing (hmiss : misses s a) :
    exec (.stationQuarantine a) s = .next ((s.received (.stationQuarantine a)).refuse .notFound) := by
  refine exec_taken h (execStationQuarantine a) rfl rfl ((withLevel_reached (by exact hlevel) _).trans ?_)
  rw [lookup_of_misses (s := s.received _) hmiss]

theorem release_missing (hmiss : misses s a) :
    exec (.stationRelease a) s = .next ((s.received (.stationRelease a)).refuse .notFound) := by
  refine exec_taken h (execStationRelease a) rfl rfl ((withLevel_reached (by exact hlevel) _).trans ?_)
  rw [lookup_of_misses (s := s.received _) hmiss]

/-! ## A learned station -/

variable (hw : standsIn s a w e)

include hw

theorem unpin_learned (hlearned : e.kind = .learned) :
    exec (.stationUnpin a) s = .next ((s.received (.stationUnpin a)).refuse .notFound) := by
  refine exec_taken h (execStationUnpin a) rfl rfl ((withLevel_reached (by exact hlevel) _).trans ?_)
  rw [lookup_of_standsIn (s := s.received _) hw]
  exact if_pos hlearned

theorem quarantine_learned (hlearned : e.kind = .learned) :
    exec (.stationQuarantine a) s = .next ((s.received (.stationQuarantine a)).refuse .state) := by
  refine exec_taken h (execStationQuarantine a) rfl rfl ((withLevel_reached (by exact hlevel) _).trans ?_)
  rw [lookup_of_standsIn (s := s.received _) hw]
  exact if_pos hlearned

theorem release_learned (hlearned : e.kind = .learned) :
    exec (.stationRelease a) s = .next ((s.received (.stationRelease a)).refuse .state) := by
  refine exec_taken h (execStationRelease a) rfl rfl ((withLevel_reached (by exact hlevel) _).trans ?_)
  rw [lookup_of_standsIn (s := s.received _) hw]
  exact if_pos hlearned

/-! ## A pinned station -/

variable (hkind : e.kind ≠ .learned)

include hkind

/-- An ADMITTED station leaves when the forget list has room for it. -/
theorem unpin_admitted (hstate : e.state = .admitted) : exec (.stationUnpin a) s
    = .next ((s.received (.stationUnpin a)).require (s.received (.stationUnpin a)).hasRoom .full fun s =>
      (forgets (withWay s (setFor a) w none) e .unpin).stationDone) := by
  refine exec_taken h (execStationUnpin a) rfl rfl ((withLevel_reached (by exact hlevel) _).trans ?_)
  rw [lookup_of_standsIn (s := s.received _) hw, setOf_eq_setFor]
  exact (if_neg hkind).trans (if_pos hstate)

theorem unpin_other (hstate : e.state ≠ .admitted) : exec (.stationUnpin a) s
    = .next (withWay (s.received (.stationUnpin a)) (setFor a) w none).stationDone := by
  refine exec_taken h (execStationUnpin a) rfl rfl ((withLevel_reached (by exact hlevel) _).trans ?_)
  rw [lookup_of_standsIn (s := s.received _) hw, setOf_eq_setFor]
  exact (if_neg hkind).trans (if_neg hstate)

theorem quarantine_admitted (hstate : e.state = .admitted) : exec (.stationQuarantine a) s
    = .next ((s.received (.stationQuarantine a)).require (s.received (.stationQuarantine a)).hasRoom .full fun s =>
      (forgets (withWay s (setFor a) w (some { e with state := .quarantined })) e .flushRequest).stationDone) := by
  refine exec_taken h (execStationQuarantine a) rfl rfl ((withLevel_reached (by exact hlevel) _).trans ?_)
  rw [lookup_of_standsIn (s := s.received _) hw, setOf_eq_setFor]
  exact (if_neg hkind).trans (if_pos hstate)

theorem quarantine_other (hstate : e.state ≠ .admitted) :
    exec (.stationQuarantine a) s = .next ((s.received (.stationQuarantine a)).replyOk []) := by
  refine exec_taken h (execStationQuarantine a) rfl rfl ((withLevel_reached (by exact hlevel) _).trans ?_)
  rw [lookup_of_standsIn (s := s.received _) hw, setOf_eq_setFor]
  exact (if_neg hkind).trans (if_neg hstate)

theorem release_admitted (hstate : e.state = .admitted) :
    exec (.stationRelease a) s = .next ((s.received (.stationRelease a)).replyOk []) := by
  refine exec_taken h (execStationRelease a) rfl rfl ((withLevel_reached (by exact hlevel) _).trans ?_)
  rw [lookup_of_standsIn (s := s.received _) hw, setOf_eq_setFor]
  exact (if_neg hkind).trans (if_pos hstate)

theorem release_other (hstate : e.state ≠ .admitted) : exec (.stationRelease a) s
    = .next ((s.received (.stationRelease a)).require (!(s.received (.stationRelease a)).forgetting a) .busy fun s =>
      (withWay s (setFor a) w (some { e with state := .admitted })).stationDone) := by
  refine exec_taken h (execStationRelease a) rfl rfl ((withLevel_reached (by exact hlevel) _).trans ?_)
  rw [lookup_of_standsIn (s := s.received _) hw, setOf_eq_setFor]
  exact (if_neg hkind).trans (if_neg hstate)

end

/-- Settles O30, by the kind and the state of the station that stands at the address. -/
theorem pinnedStationsLeaveAndReturn : Obligations.PinnedStationsLeaveAndReturn := by
  intro a s h hlevel
  dsimp only
  refine ⟨fun hmiss => ⟨unpin_missing h hlevel hmiss, quarantine_missing h hlevel hmiss, release_missing h hlevel hmiss⟩,
    fun w e hw hlearned => ⟨unpin_learned h hlevel hw hlearned, quarantine_learned h hlevel hw hlearned,
      release_learned h hlevel hw hlearned⟩, fun w e hw hpinned => ?_⟩
  have hkind : e.kind ≠ .learned := by rw [hpinned]; decide
  have hnot : e.state = .quarantined → e.state ≠ .admitted := fun hq => by rw [hq]; decide
  have hroom : ¬ 16 ≤ s.sws.forgets.length → ∀ c, (s.received c).hasRoom = true := fun hspace c =>
    hasRoom_iff.mpr (Nat.le_of_lt_succ (Nat.lt_of_not_le hspace))
  refine ⟨fun hstate hfull => ⟨?_, ?_⟩, fun t hstate hspace => ⟨fun hdone => ?_, fun hdone => ?_⟩,
    fun hstate => release_admitted h hlevel hw hkind hstate, fun hstate => quarantine_other h hlevel hw hkind (hnot hstate),
    fun t hstate hdone => ?_, fun hstate hforgotten => ?_, fun t hstate hfree hdone => ?_⟩
  · rw [unpin_admitted h hlevel hw hkind hstate, require_failed (hasRoom_eq_false.mpr (by exact hfull))]
  · rw [quarantine_admitted h hlevel hw hkind hstate, require_failed (hasRoom_eq_false.mpr (by exact hfull))]
  · rw [unpin_admitted h hlevel hw hkind hstate, require_met (hroom hspace _), stationDone_iff.mp hdone]
  · rw [quarantine_admitted h hlevel hw hkind hstate, require_met (hroom hspace _), stationDone_iff.mp hdone]
  · rw [unpin_other h hlevel hw hkind (hnot hstate), stationDone_iff.mp hdone]
  · have hbusy : (!(s.received (.stationRelease a)).forgetting a) = false :=
      congrArg Bool.not (forgetting_iff.mpr hforgotten)
    rw [release_other h hlevel hw hkind (hnot hstate), require_failed hbusy]
  · have hopen : (!(s.received (.stationRelease a)).forgetting a) = true :=
      congrArg Bool.not (forgetting_eq_false.mpr hfree)
    rw [release_other h hlevel hw hkind (hnot hstate), require_met hopen, stationDone_iff.mp hdone]

end Sys2Proof.Cabinet
end

section
/-! SUPPORT. O31: a flush handles the stations of its scope way by way (R107). -/

namespace Sys2Proof.Cabinet

open Sys2Proof Sys2Proof.Machine Sys2Proof.Safety Sys2Proof.Claims Sys2Proof.BottleTrack Sys2Proof.Invariants Sys2Proof.Track
  Sys2Proof.AxisMoves

variable {s : State} {inScope : Station → Bool} {n : Fin 16} {w : Fin 4} {handled : Nat} {e : Station}

/-! ## One way -/

theorem flushOne_passes {stopped : Bool} (h : stopped = true ∨ ∀ e, s.way n w = some e → inScope e = false) :
    flushOne inScope n w (s, handled, stopped) = (s, handled, stopped) := by
  unfold flushOne
  dsimp only
  split
  · rfl
  · rename_i e he
    refine if_pos ?_
    obtain hstopped | hout := h
    · rw [hstopped, Bool.true_or]
    · rw [hout e he, Bool.not_false, Bool.or_true]

section

variable (he : s.way n w = some e) (hin : inScope e = true)

include he hin

theorem flushOne_clears (hstate : e.state ≠ .admitted) :
    flushOne inScope n w (s, handled, false) = (withWay s n w none, handled + 1, false) := by
  unfold flushOne
  dsimp only
  rw [he]
  dsimp only
  rw [hin]
  cases hcase : e.state with
  | admitted => exact absurd hcase hstate
  | quarantined => rfl
  | flushing => rfl

theorem flushOne_stops (hstate : e.state = .admitted) (hfull : 16 ≤ s.sws.forgets.length) :
    flushOne inScope n w (s, handled, false) = (s, handled, true) := by
  unfold flushOne
  dsimp only
  rw [he]
  dsimp only
  rw [hin, hstate, hasRoom_eq_false.mpr hfull]
  rfl

theorem flushOne_forgets (hstate : e.state = .admitted) (hroom : s.sws.forgets.length ≤ 15) :
    flushOne inScope n w (s, handled, false) = (countsTerminal
      (forgets (withWay s n w (some { e with state := .flushing })) e .flushRequest) e, handled + 1, false) := by
  unfold flushOne
  dsimp only
  rw [he]
  dsimp only
  rw [hin, hasRoom_iff.mpr hroom, reportLeft_eq]
  simp only [hstate]
  rfl

end

/-! ## The whole scope -/

theorem flush_eq_refuse (hadmitted : ∃ (n : Fin 16) (w : Fin 4) (e : Station), s.sws.table[n].ways[w] = some e
    ∧ inScope e = true ∧ e.state = .admitted) (hfull : 16 ≤ s.sws.forgets.length) : s.flush inScope = s.refuse .full := by
  obtain ⟨n, w, e, he, hin, hstate⟩ := hadmitted
  refine require_failed ?_ _ _
  rw [hasRoom_eq_false.mpr hfull, Bool.false_or, Bool.not_eq_false', List.any_eq_true]
  exact ⟨e, mem_stations.mpr ⟨n, w, he⟩, by simp [hin, hstate]⟩

theorem flush_eq_replyOk (h : ¬ (∃ (n : Fin 16) (w : Fin 4) (e : Station), s.sws.table[n].ways[w] = some e
    ∧ inScope e = true ∧ e.state = .admitted) ∨ s.sws.forgets.length ≤ 15) :
    s.flush inScope = (flushScope s inScope).1.replyOk
      (byte (flushScope s inScope).2.1 ++ yesNo (flushScope s inScope).2.2) := by
  refine require_met ?_ _ _
  obtain hnone | hroom := h
  · rw [Bool.or_eq_true, Bool.not_eq_true', List.any_eq_false]
    refine .inr fun e he hboth => hnone ?_
    obtain ⟨n, w, hway⟩ := mem_stations.mp he
    simp only [Bool.and_eq_true, beq_iff_eq] at hboth
    exact ⟨n, w, e, hway, hboth.1, hboth.2⟩
  · rw [hasRoom_iff.mpr hroom, Bool.true_or]

theorem allWays_eq : allWays = (List.finRange 16).flatMap fun n => (List.finRange 4).map fun w => (n, w) := by decide

theorem yesNo_eq (b : Bool) : yesNo b = [if b then 1 else 0] := by
  cases b <;> rfl

/-! ## The command -/

section

variable (h : running s) (hlevel : 2 ≤ s.acu.level) {a : Address}

include h hlevel

theorem flush_badPort {m : Nat} (hm : m = 0 ∨ 9 ≤ m) :
    exec (.stationFlush (.port m)) s = .next ((s.received (.stationFlush (.port m))).refuse .badValue) := by
  refine exec_taken h (execStationFlush (.port m)) rfl rfl ((withLevel_reached (by exact hlevel) _).trans ?_)
  exact requireSome_failed (portOf_of_noPort hm) _ _

theorem flush_port {m : Nat} {p : PortIx} (hp : portIs m p) : exec (.stationFlush (.port m)) s
    = .next ((s.received (.stationFlush (.port m))).flush fun x => x.kind == .learned && x.port == p) := by
  refine exec_taken h (execStationFlush (.port m)) rfl rfl ((withLevel_reached (by exact hlevel) _).trans ?_)
  exact requireSome_met (portOf_of_portIs hp) _ _

theorem flush_missing (hmiss : misses s a) : exec (.stationFlush (.address a)) s
    = .next ((s.received (.stationFlush (.address a))).refuse .notFound) := by
  refine exec_taken h (execStationFlush (.address a)) rfl rfl ((withLevel_reached (by exact hlevel) _).trans ?_)
  dsimp only
  rw [lookup_of_misses (s := s.received _) hmiss]

theorem flush_pinned (hw : standsIn s a w e) (hkind : e.kind = .pinned) : exec (.stationFlush (.address a)) s
    = .next ((s.received (.stationFlush (.address a))).refuse .state) := by
  refine exec_taken h (execStationFlush (.address a)) rfl rfl ((withLevel_reached (by exact hlevel) _).trans ?_)
  dsimp only
  rw [lookup_of_standsIn (s := s.received _) hw]
  exact if_pos hkind

theorem flush_learned (hw : standsIn s a w e) (hkind : e.kind = .learned) : exec (.stationFlush (.address a)) s
    = .next ((s.received (.stationFlush (.address a))).flush fun x => x.address == a) := by
  refine exec_taken h (execStationFlush (.address a)) rfl rfl ((withLevel_reached (by exact hlevel) _).trans ?_)
  dsimp only
  rw [lookup_of_standsIn (s := s.received _) hw]
  exact if_neg (by rw [hkind]; decide)

end

/-- Settles O31, by the scope of the request and by what a flush does at one way. -/
theorem stationFlushHandlesItsScope : Obligations.StationFlushHandlesItsScope := by
  refine ⟨fun scope s h hlevel => ⟨?_, ?_, ?_, ?_, ?_, ?_⟩, fun s inScope => ⟨flush_eq_refuse, fun hopen => ?_,
    fun n w handled stopped => ⟨fun hpass => flushOne_passes hpass, fun e he hin hstate => flushOne_clears he hin hstate,
      fun e he hin hstate hfull => flushOne_stops he hin hstate hfull,
      fun e he hin hstate hroom => flushOne_forgets he hin hstate hroom⟩⟩⟩
  · rintro (⟨code, rfl⟩ | ⟨m, rfl, hm⟩)
    · exact exec_taken h (execStationFlush (.unknown code)) rfl rfl (withLevel_reached (by exact hlevel) _)
    · exact flush_badPort h hlevel hm
  · rintro a rfl hmiss
    exact flush_missing h hlevel hmiss
  · rintro a w e rfl hw hkind
    exact flush_pinned h hlevel hw hkind
  · rintro a w e rfl hw hkind
    exact flush_learned h hlevel hw hkind
  · rintro m p rfl hp
    exact flush_port h hlevel hp
  · rintro rfl
    exact exec_taken h (execStationFlush .all) rfl rfl (withLevel_reached (by exact hlevel) _)
  · rw [flush_eq_replyOk hopen, flushScope, allWays_eq]
    dsimp only
    rw [yesNo_eq]
    rfl

end Sys2Proof.Cabinet
end

section
/-! SUPPORT. O32: what the opening, closing and end of a grant do at the switch (R108). -/

namespace Sys2Proof.Cabinet

open Sys2Proof Sys2Proof.Machine Sys2Proof.Safety Sys2Proof.Claims Sys2Proof.BottleTrack Sys2Proof.Invariants Sys2Proof.Track

variable {s : State} {id : Nat}

/-! ## The service field of the ports -/

def withPorts (s : State) (v : Vector Port 8) : State := withSws s { s.sws with ports := v }

theorem foldl_served (s : State) {f : State → PortIx → State} {serves : PortIx → Port → Bool}
    {service : Option (Nat × GrantState)} (hf : ∀ t p, f t p
      = if serves p (t.port p) then t.setPort p { t.port p with service := service } else t) :
    portIxs.foldl f s = withSws s (served s.sws (fun p => serves p s.sws.ports[p]) service) := by
  refine foldl_vector_all (mk := withPorts s) (g := fun p x => if serves p x then { x with service := service } else x)
    (fun v p => ?_) (by decide) mem_portIxs s.sws.ports
  rw [hf]
  split
  · rename_i hserves
    rw [if_pos (by exact hserves)]
    rfl
  · rename_i hserves
    rw [if_neg (by exact hserves), Fin.getElem_fin, Vector.set_getElem_self]

theorem openService_eq (s : State) (ports : PortSet) (service : Option (Nat × GrantState)) :
    ((portMembers ports).foldl (fun s p => s.setPort p { s.port p with service := service }) s)
      = withSws s (served s.sws (fun p => ports.getLsbD p) service) := by
  unfold portMembers
  rw [List.foldl_filter]
  exact foldl_served s (serves := fun p _ => ports.getLsbD p.val) (service := service)
    (f := fun t p => if ports.getLsbD p.val = true then t.setPort p { t.port p with service := service } else t)
    fun t p => rfl

theorem setService_eq (s : State) (id : Nat) (service : Option (Nat × GrantState)) :
    s.setService id service = withSws s (served s.sws (servesGrant s id) service) := by
  unfold State.setService
  refine (foldl_served s (serves := fun _ x => x.service.any fun g => g.1 == id) (service := service)
    (f := fun t p => if ((t.port p).service.any fun g => g.1 == id) = true then t.setPort p { t.port p with service := service }
      else t) fun t p => rfl).trans ?_
  rfl

/-! ## The terminals of a grant -/

theorem terminalOf_eq (e : Station) (id : Nat) : e.terminalOf id = Claims.terminalOf id e := rfl

/-- A terminal of the closing grant is FLUSHING. -/
def flushesTerminal (id : Nat) (e : Station) : Station :=
  if Claims.terminalOf id e then { e with state := .flushing } else e

theorem flushTerminals_eq (s : State) (id : Nat) :
    (s.overWays fun n w e s =>
      if e.terminalOf id then (s.setWay n w (some { e with state := .flushing })).sendForget e .grantClose else s)
      = allForgotten (withSws s (everyWay s.sws fun e => some (flushesTerminal id e))) (terminals s id) .grantClose := by
  have hwalk := walk_eq (picks := Claims.terminalOf id) (writes := fun e => some { e with state := .flushing })
    (act := fun t e => forgets t e .grantClose) (fun _ _ _ => rfl) s
  refine Eq.trans ?_ (hwalk.trans ?_)
  · rfl
  · rw [everyWay_congr s.sws (g := fun e => some (flushesTerminal id e))]
    · rfl
    · intro e
      unfold written flushesTerminal
      split <;> rfl

theorem allForgotten_table (entries : List Station) (s : State) (reason : ForgetReason) :
    (allForgotten s entries reason).sws.table = s.sws.table := by
  unfold allForgotten
  induction entries generalizing s with
  | nil => rfl
  | cons e rest ih => exact ih (forgets s e reason)

theorem flushesTerminal_not_terminal (id : Nat) (e : Station) : (flushesTerminal id e).terminalOf id = false := by
  rw [← Bool.not_eq_true, terminalOf_iff]
  unfold flushesTerminal
  split
  · exact fun h => StationState.noConfusion h.2.1
  · rename_i hnot
    exact fun h => hnot (terminalOf_iff.mpr h)

/-- No terminal of the grant is left once each is FLUSHING. -/
theorem terminalCount_flushed {x : Sws} (h : s.sws.table = (everyWay x fun e => some (flushesTerminal id e)).table) :
    s.terminalCount id = 0 := by
  unfold State.terminalCount
  rw [List.length_eq_zero_iff, List.filter_eq_nil_iff]
  intro e he hterminal
  obtain ⟨n, w, hway⟩ := mem_stations.mp he
  rw [h] at hway
  simp only [everyWay, Fin.getElem_fin, Vector.getElem_map, Option.bind_eq_some_iff] at hway
  obtain ⟨x, -, hx⟩ := hway
  obtain rfl := Option.some.inj hx
  rw [flushesTerminal_not_terminal] at hterminal
  cases hterminal

/-- Settles O32: the service fields are one fold over the ports, the flushed terminals one walk over the table. -/
theorem grantsAtTheSwitch : Obligations.GrantsAtTheSwitch := by
  refine fun id s h => ⟨fun ports => ?_, ?_, ?_⟩
  · exact exec_taken h (execSwsGrantOpened id ports) rfl rfl (openService_eq _ _ _)
  · exact exec_taken h (execSwsGrantClosed id) rfl rfl (setService_eq _ _ _)
  · refine exec_taken h (execSwsGrantClosingStart id) rfl rfl ?_
    dsimp only
    rw [setService_eq, flushTerminals_eq]
    unfold State.reportTerminals
    rw [terminalCount_flushed (x := s.sws) (by exact allForgotten_table _ _ _)]
    exact sending_sending _ [_] [_]

end Sys2Proof.Cabinet
end

section
/-! SUPPORT. O33: the access level follows the passcodes, and requests below their level are refused (R117 to R120). -/

namespace Sys2Proof.Access

open Sys2Proof Sys2Proof.Machine Sys2Proof.Safety Sys2Proof.Claims Sys2Proof.Track Sys2Proof.AxisMoves Sys2Proof.Recipes

variable {s : State} {level : Nat} {code : List Byte}

theorem levelOk_iff : levelOk level = true ↔ mayName level := by
  simp [levelOk, mayName]

theorem passcodeOk_iff : passcodeOk code = true ↔ codeFits code := by
  simp [passcodeOk, codeFits]

theorem passcodeOf_eq (s : State) (level : Nat) : passcodeOf s.cfg level = codeOf s level := rfl

/-! ## Unlocking -/

theorem unlock_fits_iff : (levelOk level && passcodeOk code) = true ↔ mayName level ∧ codeFits code := by
  rw [Bool.and_eq_true, levelOk_iff, passcodeOk_iff]

/-- What an unlock does with a passcode that fits, while no lockout runs. -/
def unlockChecked (level : Nat) (code : List Byte) (s : State) : State :=
  match passcodeOf s.cfg level with
  | some stored => if stored = code then s.unlockTo level else s.wrongPasscode
  | none => if s.inputs.setup then s.unlockTo level else s.refuse .state

theorem unlockChecked_stored {stored : List Byte} (h : codeOf s level = some stored) :
    unlockChecked level code s = if stored = code then s.unlockTo level else s.wrongPasscode := by
  unfold unlockChecked
  rw [passcodeOf_eq, h]

theorem unlockChecked_none (h : codeOf s level = none) :
    unlockChecked level code s = if s.inputs.setup then s.unlockTo level else s.refuse .state := by
  unfold unlockChecked
  rw [passcodeOf_eq, h]

theorem wrongPasscode_early (h : s.acu.failures < 2) :
    s.wrongPasscode = (withAcu s { s.acu with failures := s.acu.failures + 1 }).refuse .level := by
  unfold State.wrongPasscode
  rw [if_neg (Nat.not_le.mpr h)]
  rfl

theorem wrongPasscode_third (h : 2 ≤ s.acu.failures) : s.wrongPasscode
    = (withAcu s { s.acu with failures := 0, lockoutEnd := some (s.tmu.now + 60000000) }).refuse .level := by
  unfold State.wrongPasscode
  rw [if_pos h]
  rfl

theorem exec_unlock_fits (h : running s) (hfits : mayName level ∧ codeFits code) (hopen : s.acu.lockoutEnd = none) :
    exec (.unlock level code) s = .next (unlockChecked level code (s.received (.unlock level code))) :=
  exec_taken h (execUnlock level code) rfl rfl ((require_met (unlock_fits_iff.mpr hfits) _ _).trans
    (require_met (Option.isNone_iff_eq_none.mpr (by exact hopen)) _ _))

/-! ## The claims -/

theorem unlock_setsTheLevel (h : running s) :
    let c := Instr.unlock level code
    let r := s.received c
    let opens := (withAcu r { s.acu with level := level, failures := 0 }).replyOk []
    let fits := mayName level ∧ codeFits code
    (¬ fits → exec c s = .next (r.refuse .badValue))
    ∧ (fits → s.acu.lockoutEnd ≠ none → exec c s = .next (r.refuse .lockedOut))
    ∧ (fits → s.acu.lockoutEnd = none →
      (codeOf s level = some code → exec c s = .next opens)
      ∧ (∀ other, codeOf s level = some other → other ≠ code → s.acu.failures < 2 →
        exec c s = .next ((withAcu r { s.acu with failures := s.acu.failures + 1 }).refuse .level))
      ∧ (∀ other, codeOf s level = some other → other ≠ code → 2 ≤ s.acu.failures →
        exec c s = .next ((withAcu r { s.acu with
          failures := 0, lockoutEnd := some (s.tmu.now + 60000000) }).refuse .level))
      ∧ (codeOf s level = none → s.inputs.setup = true → exec c s = .next opens)
      ∧ (codeOf s level = none → s.inputs.setup = false → exec c s = .next (r.refuse .state))) := by
  dsimp only
  refine ⟨fun hbad => ?_, fun hfits hlocked => ?_, fun hfits hopen => ?_⟩
  · refine exec_taken h (execUnlock level code) rfl rfl (require_failed ?_ _ _)
    exact Bool.eq_false_iff.mpr fun hok => hbad (unlock_fits_iff.mp hok)
  · refine exec_taken h (execUnlock level code) rfl rfl ((require_met (unlock_fits_iff.mpr hfits) _ _).trans
      (require_failed ?_ _ _))
    exact Option.isNone_eq_false_iff.mpr (Option.isSome_iff_ne_none.mpr hlocked)
  · rw [exec_unlock_fits h hfits hopen]
    refine ⟨fun hcode => ?_, fun other hother hne hfew => ?_, fun other hother hne hmany => ?_, fun hnone hsetup => ?_,
      fun hnone hsetup => ?_⟩
    · rw [unlockChecked_stored (by exact hcode), if_pos rfl]
      rfl
    · rw [unlockChecked_stored (by exact hother), if_neg hne, wrongPasscode_early (by exact hfew)]
      rfl
    · rw [unlockChecked_stored (by exact hother), if_neg hne, wrongPasscode_third (by exact hmany)]
      rfl
    · rw [unlockChecked_none (by exact hnone), if_pos (by exact hsetup)]
      rfl
    · rw [unlockChecked_none (by exact hnone), if_neg (by rw [received_eq]; simp [hsetup])]

theorem passcodesSetTheLevel : PasscodesSetTheLevel := by
  refine ⟨fun level code s h => unlock_setsTheLevel h, fun s h => exec_taken h execLock rfl rfl rfl,
    fun s h => ⟨fun t ht hdue => ?_, fun hnot => ?_⟩, fun s h => ⟨fun hdue hlevel => ?_, fun hnot => ?_⟩,
    fun level code s h => ⟨fun hlow => ?_, fun hlevel hbad => ?_, fun hlevel hfits => ?_⟩⟩
  · refine exec_taken h execLockoutExpiry rfl rfl ?_
    dsimp only
    rw [show (s.received .lockoutExpiry).acu.lockoutEnd = some t from ht]
    exact if_pos hdue
  · refine exec_taken h execLockoutExpiry rfl rfl ?_
    dsimp only
    obtain hnone | ⟨t, ht, hearly⟩ := hnot
    · rw [show (s.received .lockoutExpiry).acu.lockoutEnd = none from hnone]
    · rw [show (s.received .lockoutExpiry).acu.lockoutEnd = some t from ht]
      exact if_neg (Nat.not_le.mpr hearly)
  · exact exec_taken h execIdleDeadlineExpiry rfl rfl (if_pos ⟨hdue, hlevel⟩)
  · refine exec_taken h execIdleDeadlineExpiry rfl rfl (if_neg fun hboth => ?_)
    exact hnot.elim (Nat.not_lt.mpr hboth.1) fun hzero => Nat.not_lt.mpr (Nat.le_of_eq hzero) hboth.2
  · exact exec_taken h (execPasscodeSet level code) rfl rfl (withLevel_below (by exact hlow) _)
  all_goals
    have hok : (levelOk level && code.all passcodeOk) = true ↔ mayName level ∧ ∀ x, code = some x → codeFits x := by
      rw [Bool.and_eq_true, levelOk_iff]
      cases code <;> simp [passcodeOk_iff]
    refine exec_taken h (execPasscodeSet level code) rfl rfl ((withLevel_reached (by exact hlevel) _).trans ?_)
  · exact require_failed (Bool.eq_false_iff.mpr fun h => hbad (hok.mp h)) _ _
  · exact require_met (hok.mpr hfits) _ _

theorem refused_below {c : Instr} {n m : Nat} {f : State → State} (h : running s) (hlow : s.acu.level < m) (hm : m = n)
    (hexec : exec c s = taken c s fun s => s.withLevel n f) : exec c s = .next ((s.received c).refuse .level) := by
  subst hm
  rw [hexec, taken_running h, withLevel_below (by exact hlow)]

theorem requestsBelowTheirLevelAreRefused : RequestsBelowTheirLevelAreRefused := by
  intro c level s h hneeds hlow
  cases c
  case lineClear | recipeSelect | productTemp | watchAck | timeSet | faultAck => exact refused_below h hlow hneeds rfl
  case lineGeometry | axisConfig | recipeWrite | trimWrite | trimMode | cameraConfig | portConfig | portUnblock | stationPin
      | stationUnpin | stationQuarantine | stationRelease | stationFlush | passcodeSet | accountConfig | permitConfig | save
      | softReset => exact refused_below h hlow hneeds rfl
  all_goals exact hneeds.elim

/-- Settles O33, by the check of each passcode and by the level each request asks for first. -/
theorem levelsFollowThePasscodes : Obligations.LevelsFollowThePasscodes :=
  ⟨passcodesSetTheLevel, requestsBelowTheirLevelAreRefused⟩

end Sys2Proof.Access
end

section
/-! SUPPORT. Finding grants by their ids and free slots and ids for new ones (R121). -/

namespace Sys2Proof.Access

open Sys2Proof Sys2Proof.Machine Sys2Proof.Safety Sys2Proof.Claims Sys2Proof.FillSegments Sys2Proof.Invariants

variable {s : State} {id : Nat} {slot : Fin 4} {g : Grant}

/-! ## The grant of an id -/

theorem slotOf_of_freeOf (h : freeOf s id) : s.slotOf id = none := slotOf_none h

theorem slotOf_of_holdsGrant (h : holdsGrant s id slot g) : s.slotOf id = some slot := slotOf_some h.1 h.2.1 h.2.2

theorem grantOf_of_freeOf (h : freeOf s id) : s.grantOf id = none := by
  rw [State.grantOf, slotOf_of_freeOf h]
  rfl

theorem grantOf_of_holdsGrant (h : holdsGrant s id slot g) : s.grantOf id = some g := by
  rw [State.grantOf, slotOf_of_holdsGrant h]
  exact h.1

theorem slotOf_isSome_iff : (s.slotOf id).isSome = true ↔ ¬ freeOf s id := by
  rw [State.slotOf, List.find?_isSome, freeOf]
  constructor
  · rintro ⟨i, -, hi⟩ hfree
    obtain ⟨g, hg, hid⟩ := (Option.any_eq_true _ _).mp hi
    exact hfree i g hg (by simpa using hid)
  · intro hheld
    push Not at hheld
    obtain ⟨i, g, hg, hid⟩ := hheld
    exact ⟨i, FillSegments.mem_fourNos i, (Option.any_eq_true _ _).mpr ⟨g, hg, by simpa using hid⟩⟩

theorem grantOf_isSome_iff : (s.grantOf id).isSome = true ↔ ¬ freeOf s id := by
  rw [← slotOf_isSome_iff, State.grantOf]
  cases hslot : s.slotOf id with
  | none => rfl
  | some i =>
    have hany := List.find?_some (p := fun i => (s.grant i).any fun x => x.id == id) (by exact hslot)
    obtain ⟨g, hg, -⟩ := (Option.any_eq_true _ _).mp hany
    rw [Option.bind_some, hg]
    exact iff_of_true rfl rfl

/-! ## The id of a new grant (R121) -/

/-- The ids in the order they are tried. -/
def candidate (s : State) (i : Nat) : Nat := (s.acu.grantCounter + i) % 255 + 1

theorem idAfter_counter (h : s.acu.grantCounter ≤ 255) : idAfter s.acu.grantCounter = candidate s 0 := by
  unfold idAfter candidate
  split <;> omega

theorem idAfter_candidate (s : State) (i : Nat) : idAfter (candidate s i) = candidate s (i + 1) := by
  unfold idAfter candidate
  split <;> omega

theorem freeId_eq {i : Nat} (hfree : freeOf s (candidate s i)) (hbefore : ∀ j < i, ¬ freeOf s (candidate s j))
    (fuel k x : Nat) (hx : idAfter x = candidate s k) (hk : k ≤ i) (hfuel : i ≤ k + fuel) :
    s.freeId fuel x = candidate s i := by
  induction fuel generalizing k x with
  | zero =>
    obtain rfl : k = i := by omega
    exact hx
  | succ fuel ih =>
    rw [State.freeId, hx]
    by_cases hhere : k = i
    · subst hhere
      exact if_neg fun hsome => slotOf_isSome_iff.mp hsome hfree
    · rw [if_pos (slotOf_isSome_iff.mpr (hbefore k (by omega)))]
      exact ih (k + 1) _ (idAfter_candidate s k) (by omega) (by omega)

/-- Four slots hold at most four ids, so one of the first five is free. -/
theorem few_candidates_held {i : Nat} (hbefore : ∀ j < i, ¬ freeOf s (candidate s j)) : i ≤ 4 := by
  by_contra hmany
  have hheld : ∀ j : Fin 5, ∃ slot : Fin 4, ∃ g, s.acu.grants[slot] = some g ∧ g.id = candidate s j := by
    intro j
    have hj := hbefore j (by omega)
    rw [freeOf] at hj
    push Not at hj
    exact hj
  choose slots hslots using hheld
  obtain ⟨j, k, hne, hsame⟩ := Fintype.exists_ne_map_eq_of_card_lt slots (by decide)
  obtain ⟨g, hg, hj⟩ := hslots j
  obtain ⟨g', hg', hk⟩ := hslots k
  rw [hsame, hg'] at hg
  obtain rfl := Option.some.inj hg
  have hcandidates := hj.symm.trans hk
  unfold candidate at hcandidates
  exact hne (Fin.ext (by omega))

theorem freeId_of_nextId (hcounter : s.acu.grantCounter ≤ 255) (h : nextId s id) :
    s.freeId 4 s.acu.grantCounter = id := by
  obtain ⟨i, rfl, hfree, hbefore⟩ := h
  exact freeId_eq hfree hbefore 4 0 _ (idAfter_counter hcounter) (Nat.zero_le i)
    (by simpa using few_candidates_held hbefore)

/-! ## The slot of a new grant, and the scopes taken -/

theorem freeSlot_none (h : ∀ i : Fin 4, s.acu.grants[i] ≠ none) : s.freeSlot = none := by
  unfold State.freeSlot
  rw [List.find?_eq_none]
  exact fun i _ hnone => h i (Option.isNone_iff_eq_none.mp hnone)

theorem freeSlot_some (hfree : s.acu.grants[slot] = none) (hbefore : ∀ i : Fin 4, i < slot → s.acu.grants[i] ≠ none) :
    s.freeSlot = some slot :=
  find_fourNos (p := fun i => (s.grant i).isNone) (Option.isNone_iff_eq_none.mpr hfree)
    fun i hi => Option.isNone_eq_false_iff.mpr (Option.isSome_iff_ne_none.mpr (hbefore i hi))

theorem exists_freeSlot (h : ¬ ∀ i : Fin 4, s.acu.grants[i] ≠ none) : ∃ i, s.freeSlot = some i := by
  rw [← Option.isSome_iff_exists, State.freeSlot, List.find?_isSome]
  push Not at h
  obtain ⟨i, hi⟩ := h
  exact ⟨i, FillSegments.mem_fourNos i, Option.isNone_iff_eq_none.mpr hi⟩

theorem mem_grants : g ∈ s.grants ↔ ∃ i : Fin 4, s.acu.grants[i] = some g := by
  rw [State.grants, List.mem_filterMap]
  exact ⟨fun ⟨i, _, h⟩ => ⟨i, h⟩, fun ⟨i, h⟩ => ⟨i, FillSegments.mem_fourNos i, h⟩⟩

theorem overlaps_iff {axes : AxisSet} {cameras : CameraSet} {ports : PortSet} {gate : Bool} :
    g.overlaps axes cameras ports gate = true
      ↔ g.axes &&& axes ≠ 0 ∨ g.cameras &&& cameras ≠ 0 ∨ g.ports &&& ports ≠ 0 ∨ (g.gate = true ∧ gate = true) := by
  simp [Grant.overlaps, or_assoc]

theorem scopeTaken_iff {axes : AxisSet} {cameras : CameraSet} {ports : PortSet} {gate : Nat} :
    (s.grants.any fun x => x.overlaps axes cameras ports (decide (gate = 1))) = true
      ↔ scopeTaken s axes cameras ports gate := by
  simp only [List.any_eq_true, mem_grants, overlaps_iff, decide_eq_true_eq, scopeTaken]
  exact ⟨fun ⟨g, ⟨i, hi⟩, h⟩ => ⟨i, g, hi, h⟩, fun ⟨i, g, hi, h⟩ => ⟨g, ⟨i, hi⟩, h⟩⟩

end Sys2Proof.Access
end

section
/-! SUPPORT. O34: grants open and extend by their tables (R121, R122). -/

namespace Sys2Proof.Access

open Sys2Proof Sys2Proof.Machine Sys2Proof.Safety Sys2Proof.Claims Sys2Proof.Track Sys2Proof.AxisMoves Sys2Proof.Recipes

variable {s : State} {level gate minutes : Nat} {axes : AxisSet} {cameras : CameraSet} {ports : PortSet}

theorem yesNoOf_some (h : gate ≤ 1) : yesNoOf gate = some (decide (gate = 1)) := by
  obtain rfl | rfl := Nat.le_one_iff_eq_zero_or_eq_one.mp h <;> rfl

theorem minutesOk_iff : minutesOk minutes = true ↔ 1 ≤ minutes ∧ minutes ≤ 480 := by
  simp [minutesOk]

theorem namesNoCamera_iff : (!namesNoCamera cameras) = true ↔ cameras < (64#8 : CameraSet) := by
  rw [Bool.not_eq_true', namesNoCamera_eq_false_iff]

theorem grantValuesOk_iff {g : Bool} : grantValuesOk level axes cameras ports g minutes = true
    ↔ mayName level ∧ 1 ≤ minutes ∧ minutes ≤ 480 ∧ cameras < (64#8 : CameraSet)
      ∧ (axes ≠ 0 ∨ cameras ≠ 0 ∨ ports ≠ 0 ∨ g = true) := by
  simp only [grantValuesOk, Bool.and_eq_true, levelOk_iff, minutesOk_iff, namesNoCamera_iff, Bool.or_eq_true, bne_iff_ne,
    and_assoc, or_assoc]

theorem grantFits_iff : grantFits level axes cameras ports gate minutes
    ↔ gate ≤ 1 ∧ grantValuesOk level axes cameras ports (decide (gate = 1)) minutes = true := by
  rw [grantValuesOk_iff, decide_eq_true_eq, grantFits]
  tauto

theorem servicePorts_iff (s : State) (ports : PortSet) :
    ((portMembers ports).all fun p => s.cfg.ports[p].policy == .service) = true
      ↔ ¬ ∃ p : PortIx, ports.getLsbD p = true ∧ s.cfg.ports[p].policy ≠ .service := by
  simp only [portMembers, List.all_eq_true, List.mem_filter, beq_iff_eq, and_imp, not_exists, not_and, not_not]
  exact ⟨fun h p => h p (Cabinet.mem_portIxs p), fun h p _ => h p⟩

/-! ## Opening -/

/-- An opening whose values fit, at its level. -/
def openChecked (level : Nat) (axes : AxisSet) (cameras : CameraSet) (ports : PortSet) (gate : Bool) (minutes : Nat)
    (s : State) : State :=
  s.requireSome s.freeSlot .full fun slot s =>
    s.require (!s.grants.any fun x => x.overlaps axes cameras ports gate) .busy fun s =>
      s.require ((portMembers ports).all fun p => s.cfg.ports[p].policy == .service) .state fun s =>
        s.openGrant slot level axes cameras ports gate minutes

theorem exec_grantOpen_unfit (h : running s) (hbad : ¬ grantFits level axes cameras ports gate minutes) :
    let c := Instr.grantOpen level axes cameras ports gate minutes
    exec c s = .next ((s.received c).refuse .badValue) := by
  refine exec_taken h (execGrantOpen level axes cameras ports gate minutes) rfl rfl ?_
  by_cases hgate : gate ≤ 1
  · rw [requireSome_met (yesNoOf_some hgate)]
    exact require_failed (Bool.eq_false_iff.mpr fun hok => hbad (grantFits_iff.mpr ⟨hgate, hok⟩)) _ _
  · rw [requireSome_failed (yesNoOf_none (by omega))]

theorem exec_grantOpen_fits (h : running s) (hfits : grantFits level axes cameras ports gate minutes) :
    let c := Instr.grantOpen level axes cameras ports gate minutes
    exec c s = .next ((s.received c).withLevel level (openChecked level axes cameras ports (decide (gate = 1)) minutes)) := by
  obtain ⟨hgate, hok⟩ := grantFits_iff.mp hfits
  exact exec_taken h (execGrantOpen level axes cameras ports gate minutes) rfl rfl
    ((requireSome_met (yesNoOf_some hgate) _ _).trans (require_met hok _ _))

theorem openChecked_free {slot : Fin 4} (hslot : s.freeSlot = some slot) (hfree : ¬ scopeTaken s axes cameras ports gate) :
    openChecked level axes cameras ports (decide (gate = 1)) minutes s
      = s.require ((portMembers ports).all fun p => s.cfg.ports[p].policy == .service) .state fun s =>
        s.openGrant slot level axes cameras ports (decide (gate = 1)) minutes := by
  refine (requireSome_met hslot _ _).trans (require_met ?_ _ _)
  rw [Bool.not_eq_true', ← Bool.not_eq_true, scopeTaken_iff]
  exact hfree

theorem openGrant_eq {slot : Fin 4} {id : Nat} (hcounter : s.acu.grantCounter ≤ 255) (hid : nextId s id) :
    s.openGrant slot level axes cameras ports (decide (gate = 1)) minutes =
      let expires := s.tmu.now + minutes * 60000000
      let g : Grant := {
        id := id, level := level, axes := axes, cameras := cameras, ports := ports, gate := decide (gate = 1)
        openedAt := s.tmu.now, expiresAt := expires, state := .opened, terminals := 0, closeCause := none
        closeResult := .clean, forgetsExpired := 0, forgetsOutstanding := none, axesInMotion := none }
      (sending (withAcu s { s.acu with grants := s.acu.grants.set slot (some g), grantCounter := id })
        [.swsGrantOpened id ports]).replyOk ([BitVec.ofNat 8 slot, BitVec.ofNat 8 id] ++ be 8 expires) := by
  unfold State.openGrant
  rw [freeId_of_nextId hcounter hid]
  rfl

/-! ## Extending -/

section

variable {id : Nat}

theorem extend_fits_iff : (grantIdOk id && minutesOk minutes) = true ↔ 1 ≤ id ∧ id ≤ 255 ∧ 1 ≤ minutes ∧ minutes ≤ 480 := by
  rw [Bool.and_eq_true, grantIdOk_iff, minutesOk_iff, and_assoc]

theorem exec_grantExtend_free (h : running s) (hfits : 1 ≤ id ∧ id ≤ 255 ∧ 1 ≤ minutes ∧ minutes ≤ 480) (hfree : freeOf s id) :
    exec (.grantExtend id minutes) s = .next ((s.received (.grantExtend id minutes)).refuse .notFound) := by
  refine exec_taken h (execGrantExtend id minutes) rfl rfl ((require_met (extend_fits_iff.mpr hfits) _ _).trans ?_)
  rw [slotOf_of_freeOf (s := s.received _) hfree]

theorem exec_grantExtend_held {slot : Fin 4} {g : Grant} (h : running s)
    (hfits : 1 ≤ id ∧ id ≤ 255 ∧ 1 ≤ minutes ∧ minutes ≤ 480) (hg : holdsGrant s id slot g) :
    let c := Instr.grantExtend id minutes
    let expires := g.expiresAt + minutes * 60000000
    exec c s = .next ((s.received c).withLevel g.level fun s => s.require (g.state == .opened) .state fun s =>
      s.require (expires ≤ g.openedAt + 28800000000) .badValue fun s =>
        (withGrant s slot (some { g with expiresAt := expires })).replyOk (be 8 expires)) := by
  refine exec_taken h (execGrantExtend id minutes) rfl rfl ((require_met (extend_fits_iff.mpr hfits) _ _).trans ?_)
  rw [slotOf_of_holdsGrant (s := s.received _) hg, grantOf_of_holdsGrant (s := s.received _) hg]
  rfl

end

/-- Settles O34: an opening's checks in their order and its free slot and id, an extension's by the grant of its id. -/
theorem grantsOpenAndExtendByTheirTables : Obligations.GrantsOpenAndExtendByTheirTables := by
  refine ⟨fun level axes cameras ports gate minutes s h => ?_, fun id minutes s h => ?_⟩
  · dsimp only
    refine ⟨fun hbad => exec_grantOpen_unfit h hbad, fun hfits hlow => ?_, fun hfits hlevel hfull => ?_,
      fun hfits hlevel hroom hbusy => ?_, fun hfits hlevel hroom hfree hother => ?_,
      fun slot id hfits hlevel hfree hservice hslot hbefore hcounter hid => ?_⟩
    all_goals rw [exec_grantOpen_fits h hfits]
    · rw [withLevel_below (by exact hlow)]
    all_goals rw [withLevel_reached (by exact hlevel)]
    · exact congrArg _ (requireSome_failed (freeSlot_none (s := s.received _) hfull) _ _)
    · obtain ⟨slot, hslot⟩ := exists_freeSlot (s := s.received (.grantOpen level axes cameras ports gate minutes)) hroom
      refine congrArg _ ((requireSome_met hslot _ _).trans (require_failed ?_ _ _))
      exact congrArg Bool.not (scopeTaken_iff.mpr hbusy)
    · obtain ⟨slot, hslot⟩ := exists_freeSlot (s := s.received (.grantOpen level axes cameras ports gate minutes)) hroom
      rw [openChecked_free hslot hfree]
      exact congrArg _ (require_failed (Bool.eq_false_iff.mpr fun hok => (servicePorts_iff _ ports).mp hok hother) _ _)
    · rw [openChecked_free (freeSlot_some (s := s.received _) hslot hbefore) hfree]
      exact congrArg _ ((require_met ((servicePorts_iff _ ports).mpr hservice) _ _).trans
        (openGrant_eq (s := s.received _) hcounter hid))
  · dsimp only
    refine ⟨fun hbad => ?_, fun hfits hfree => exec_grantExtend_free h hfits hfree, fun slot g hfits hg => ?_⟩
    · refine exec_taken h (execGrantExtend id minutes) rfl rfl (require_failed ?_ _ _)
      exact Bool.eq_false_iff.mpr fun hok => hbad (extend_fits_iff.mp hok)
    · rw [exec_grantExtend_held h hfits hg]
      refine ⟨fun hlow => ?_, fun hlevel hclosing => ?_, fun hlevel hopen hlate => ?_, fun hlevel hopen hfit => ?_⟩
      · rw [withLevel_below (by exact hlow)]
      all_goals rw [withLevel_reached (by exact hlevel)]
      · rw [hclosing]
        rfl
      · rw [hopen, require_met (by rfl), require_failed (decide_eq_false (Nat.not_le.mpr hlate))]
      · rw [hopen, require_met (by rfl), require_met (decide_eq_true hfit)]

end Sys2Proof.Access
end

section
/-! SUPPORT. O37: checks under a grant, and resets of accounts (R124, R160). -/

namespace Sys2Proof.Access

open Sys2Proof Sys2Proof.Machine Sys2Proof.Safety Sys2Proof.Claims Sys2Proof.Track Sys2Proof.AxisMoves

variable {s : State} {id n : Nat} {slot : Fin 4} {g : Grant} {covers : Grant → Bool} {a : Account}

theorem grantCheck_of_freeOf (h : freeOf s id) : s.grantCheck id covers = some .noGrant := by
  unfold State.grantCheck
  rw [grantOf_of_freeOf h]

theorem grantCheck_of_holdsGrant (h : holdsGrant s id slot g) : s.grantCheck id covers
    = if covers g = true then if g.state = .closing then some .state else none else some .noGrant := by
  unfold State.grantCheck
  rw [grantOf_of_holdsGrant h]
  dsimp only
  cases hcovers : covers g with
  | false => rfl
  | true => cases hstate : g.state <;> rfl

theorem accountOf_numberOf (a : Account) : accountOf (numberOf a) = some a := by
  cases a with
  | axis k => fin_cases k <;> rfl
  | camera k => fin_cases k <;> rfl
  | gate => rfl

theorem accountOf_none (h : 15 ≤ n) : accountOf n = none := by
  unfold accountOf
  rw [if_neg (by omega), if_neg (by omega), if_neg (by omega)]

theorem coversAccount_iff : g.coversAccount a = true ↔ coversUnit g a := by
  cases a <;> exact Iff.rfl

/-- A reset of an account under a grant whose id is one. -/
def resetChecked (id : Nat) (a : Account) (s : State) : State :=
  match s.grantCheck id fun g => g.coversAccount a with
  | some r => s.refuse r
  | none => if (s.grantOf id).any fun g => g.level == 2 then (s.resetAccount a).replyOk [] else s.refuse .noGrant

theorem resetChecked_refused {r : Reason} (h : (s.grantCheck id fun g => g.coversAccount a) = some r) :
    resetChecked id a s = s.refuse r := by
  unfold resetChecked
  rw [h]

theorem resetChecked_standing (h : holdsGrant s id slot g) (hcheck : (s.grantCheck id fun g => g.coversAccount a) = none) :
    resetChecked id a s = if g.level = 2 then (s.resetAccount a).replyOk [] else s.refuse .noGrant := by
  unfold resetChecked
  rw [hcheck, grantOf_of_holdsGrant h]
  simp

theorem exec_accountReset_named (h : running s) (ha : numberOf a = n) (hlow : 1 ≤ id) (hhigh : id ≤ 255) :
    exec (.accountReset id n) s = .next (resetChecked id a (s.received (.accountReset id n))) := by
  subst ha
  exact exec_taken h (execAccountReset id (numberOf a)) rfl rfl ((require_met (grantIdOk_iff.mpr ⟨hlow, hhigh⟩) _ _).trans
    (requireSome_met (accountOf_numberOf a) _ _))

theorem exec_accountReset_bad (h : running s) (hbad : id = 0 ∨ 256 ≤ id ∨ 15 ≤ n) :
    exec (.accountReset id n) s = .next ((s.received (.accountReset id n)).refuse .badValue) := by
  refine exec_taken h (execAccountReset id n) rfl rfl ?_
  by_cases hid : 1 ≤ id ∧ id ≤ 255
  · rw [require_met (grantIdOk_iff.mpr hid), requireSome_failed (accountOf_none (by omega))]
  · rw [require_failed (Bool.eq_false_iff.mpr fun hok => hid (grantIdOk_iff.mp hok))]

/-- Settles O37, by what each check finds of the grant. -/
theorem grantChecksAndAccountResets : Obligations.GrantChecksAndAccountResets := by
  refine ⟨fun id s => ⟨fun hfree => ⟨fun k => grantCheck_of_freeOf hfree, fun k => grantCheck_of_freeOf hfree⟩,
    fun slot g hg => ⟨fun k => grantCheck_of_holdsGrant hg, fun k => grantCheck_of_holdsGrant hg⟩⟩, fun id n s h => ?_⟩
  refine ⟨fun hbad => exec_accountReset_bad h hbad, fun a ha hlow hhigh => ?_⟩
  dsimp only
  rw [exec_accountReset_named h ha hlow hhigh]
  refine ⟨fun hfree => congrArg _ (resetChecked_refused (grantCheck_of_freeOf (s := s.received _) hfree)), fun slot g hg => ?_⟩
  have hcheck := grantCheck_of_holdsGrant (s := s.received (.accountReset id n)) (covers := fun g => g.coversAccount a) hg
  refine ⟨fun hnot => ?_, fun hcovers hclosing => ?_, fun hcovers hopen hlevel => ?_, fun hcovers hopen hlevel => ?_⟩
  · refine congrArg _ (resetChecked_refused (hcheck.trans (if_neg ?_)))
    exact fun h => hnot (coversAccount_iff.mp h)
  · refine congrArg _ (resetChecked_refused (hcheck.trans ((if_pos ?_).trans (if_pos hclosing))))
    exact coversAccount_iff.mpr hcovers
  all_goals
    have hopened : g.state ≠ .closing := by rw [hopen]; decide
    have hnone := hcheck.trans ((if_pos (coversAccount_iff.mpr hcovers)).trans (if_neg hopened))
    refine congrArg _ ((resetChecked_standing (s := s.received _) hg hnone).trans ?_)
  · exact if_neg hlevel
  · exact if_pos hlevel

end Sys2Proof.Access
end

section
/-! SUPPORT. O35: closing reports move the grant they reach (R123). -/

namespace Sys2Proof.Access

open Sys2Proof Sys2Proof.Machine Sys2Proof.Safety Sys2Proof.Claims Sys2Proof.Track

variable {s : State} {slot : Fin 4} {g g' : Grant} {report : GrantReport}

theorem concerned_iff : g.concerned report = true ↔ reaches g report := by
  cases report <;> simp [Grant.concerned, reaches]

theorem report_of_reported (h : reported g report g') : g.report report = g' := by
  obtain ⟨id, axes, rfl, hclosing, rfl⟩ | ⟨k, rfl, rfl⟩ | ⟨k, m, rfl, rfl⟩ | ⟨id, n, rfl, hclosing, rfl⟩ | ⟨id, n, rfl, rfl⟩
    | ⟨id, n, rfl, rfl⟩ | ⟨id, n, rfl, rfl⟩ := h
  case inl | inr.inr.inr.inl => exact if_pos hclosing
  all_goals rfl

theorem closingOver_iff : g.closingOver = true
    ↔ g.state = .closing ∧ g.axesInMotion = some 0 ∧ g.forgetsOutstanding = some 0 := by
  simp [Grant.closingOver, and_assoc]

theorem setGrant_setGrant (s : State) (slot : Fin 4) (x y : Option Grant) :
    (s.setGrant slot x).setGrant slot y = withGrant s slot y := by
  simp [State.setGrant, State.setAcu, withGrant, withAcu]

theorem completeClosing_eq {cause : CloseCause} (h : g.closeCause = some cause) :
    (s.setGrant slot (some g)).completeClosing slot g
      = (sending (withGrant s slot none) [.fmuGrantCompletion g.axes, .swsGrantClosed g.id]).post
        (.grantClosed g.id g.level cause g.closeResult g.forgetsExpired g.openedAt) := by
  rw [← setGrant_setGrant s slot (some g) none]
  unfold State.completeClosing
  rw [h, send_eq_sendAll, send_eq_sendAll, sendAll_sendAll]
  rfl

theorem grantReport_none (h : ∀ g, s.acu.grants[slot] = some g → ¬ reaches g report) : s.grantReport report slot = s := by
  unfold State.grantReport
  split
  · rfl
  · rename_i g hg
    exact if_neg fun hconcerned => h g hg (concerned_iff.mp hconcerned)

theorem grantReport_some (hg : s.acu.grants[slot] = some g) (hreaches : reaches g report) (hreported : reported g report g') :
    s.grantReport report slot = if g'.closingOver then (withGrant s slot (some g')).completeClosing slot g'
      else withGrant s slot (some g') := by
  unfold State.grantReport
  rw [show s.grant slot = some g from hg]
  dsimp only
  rw [if_pos (concerned_iff.mpr hreaches), report_of_reported hreported]
  rfl

/-- Settles O35: a report goes to every slot, and a grant it reaches is completed when it is then over. -/
theorem closingReportsMoveTheGrantToItsCompletion : Obligations.ClosingReportsMoveTheGrantToItsCompletion := by
  refine ⟨fun report s h => exec_taken h (execClosingReport report) rfl rfl rfl,
    fun report slot s => ⟨grantReport_none, fun g g' hg hreaches hreported => ⟨fun hon => ?_, fun cause hended hcause => ?_⟩⟩⟩
  · rw [grantReport_some hg hreaches hreported]
    exact if_neg fun hover => hon (closingOver_iff.mp hover)
  · rw [grantReport_some hg hreaches hreported, if_pos (closingOver_iff.mpr hended)]
    exact completeClosing_eq hcause

end Sys2Proof.Access
end

section
/-! SUPPORT. O36: a grant's closing starts, reaches its axes and returns them (R42, R43, R122). -/

namespace Sys2Proof.Access

open Sys2Proof Sys2Proof.Machine Sys2Proof.Safety Sys2Proof.Claims Sys2Proof.Track Sys2Proof.AxisMoves Sys2Proof.Cabinet

variable {s t : State} {id : Nat} {slot : Fin 4} {g : Grant} {w : WatchNo} {x : Watch} {k : AxisNo}

/-! ## The watches of a closing grant -/

theorem removalReports_eq (w : WatchNo) (x : Watch) : removalReports w x = unholding w x := by
  obtain ⟨kind, action, scope, enabled⟩ := x
  cases kind with
  | axisPhase k phase => cases phase <;> cases enabled <;> cases action <;> rfl
  | _ => cases enabled <;> cases action <;> rfl

theorem clearHolder_eq (s : State) (w : WatchNo) : s.clearHolder w = withAcu s (unholder s.acu w) := rfl

theorem disableWatch_enabled (hx : s.acu.watches[w] = some x) (hscope : x.scope = .localTo id) (henabled : x.enabled = true) :
    s.disableWatch id w = sending (withWatch (withAcu s (unholder s.acu w)) w (some { x with enabled := false, run := 0 }))
      (unholding w x) := by
  unfold State.disableWatch
  rw [show s.watch w = some x from hx]
  dsimp only
  rw [if_pos ⟨hscope, henabled⟩, removalReports_eq]
  rfl

theorem disableWatch_other (h : ∀ x, s.acu.watches[w] = some x → x.scope = .localTo id → x.enabled = false) :
    s.disableWatch id w = s := by
  unfold State.disableWatch
  split
  · rfl
  · rename_i x hx
    exact if_neg fun hboth => Bool.eq_false_iff.mp (h x hx hboth.1) hboth.2

/-! ## The start of a closing -/

theorem startClosing_eq (s : State) (slot : Fin 4) (g : Grant) (cause : CloseCause) :
    s.startClosing slot g cause = beginsClosing s slot g cause := rfl

theorem exec_grantClose_free (h : running s) (hfits : 1 ≤ id ∧ id ≤ 255) (hfree : freeOf s id) :
    exec (.grantClose id) s = .next ((s.received (.grantClose id)).refuse .notFound) := by
  refine exec_taken h (execGrantClose id) rfl rfl ((require_met (grantIdOk_iff.mpr hfits) _ _).trans ?_)
  rw [slotOf_of_freeOf (s := s.received _) hfree]

theorem exec_grantClose_opened (h : running s) (hfits : 1 ≤ id ∧ id ≤ 255) (hg : holdsGrant s id slot g)
    (hopen : g.state = .opened) :
    exec (.grantClose id) s = .next ((beginsClosing (s.received (.grantClose id)) slot g .request).replyAccepted []) := by
  refine exec_taken h (execGrantClose id) rfl rfl ((require_met (grantIdOk_iff.mpr hfits) _ _).trans ?_)
  rw [slotOf_of_holdsGrant (s := s.received _) hg, grantOf_of_holdsGrant (s := s.received _) hg]
  dsimp only
  rw [hopen, startClosing_eq]

theorem exec_grantClose_closing (h : running s) (hfits : 1 ≤ id ∧ id ≤ 255) (hg : holdsGrant s id slot g)
    (hclosing : g.state = .closing) : exec (.grantClose id) s = .next ((s.received (.grantClose id)).replyOk []) := by
  refine exec_taken h (execGrantClose id) rfl rfl ((require_met (grantIdOk_iff.mpr hfits) _ _).trans ?_)
  rw [slotOf_of_holdsGrant (s := s.received _) hg, grantOf_of_holdsGrant (s := s.received _) hg]
  dsimp only
  rw [hclosing]

theorem exec_grantExpiry_due (h : running s) (hg : s.acu.grants[slot] = some g) (hopen : g.state = .opened)
    (hdue : g.expiresAt ≤ s.tmu.now) :
    exec (.grantExpiry slot) s = .next (beginsClosing (s.received (.grantExpiry slot)) slot g .expiry) := by
  refine exec_taken h (execGrantExpiry slot) rfl rfl ?_
  rw [show (s.received (.grantExpiry slot)).grant slot = some g from hg]
  exact if_pos ⟨hopen, hdue⟩

theorem exec_grantExpiry_early (h : running s)
    (hnot : ∀ g, s.acu.grants[slot] = some g → g.state = .closing ∨ s.tmu.now < g.expiresAt) :
    exec (.grantExpiry slot) s = .next (s.received (.grantExpiry slot)) := by
  refine exec_taken h (execGrantExpiry slot) rfl rfl ?_
  split
  · rename_i g hg
    refine if_neg fun hdue => ?_
    obtain hclosing | hearly := hnot g hg
    · exact absurd (hdue.1.symm.trans hclosing) (by decide)
    · exact Nat.not_lt.mpr hdue.2 hearly
  · rfl

theorem closingsStartByRequestAndExpiry : ClosingsStartByRequestAndExpiry := by
  refine ⟨fun id s h => ⟨fun hbad => ?_, fun hfits hfree => exec_grantClose_free h hfits hfree,
    fun slot g hfits hg => ⟨exec_grantClose_opened h hfits hg, exec_grantClose_closing h hfits hg⟩⟩,
    fun slot s h => ⟨fun g hg hopen hdue => exec_grantExpiry_due h hg hopen hdue, exec_grantExpiry_early h⟩,
    fun id w s => ⟨fun x hx hscope henabled => disableWatch_enabled hx hscope henabled, disableWatch_other⟩⟩
  refine exec_taken h (execGrantClose id) rfl rfl (require_failed ?_ _ _)
  exact Bool.eq_false_iff.mpr fun hok => hbad (grantIdOk_iff.mp hok)

/-! ## The axes of a closing grant (R42) -/

theorem foldl_withMember_getLsbD {n : Nat} (l : List Nat) (set : BitVec n) {i : Nat} (hi : i < n) :
    (l.foldl (fun set j => withMember set j) set).getLsbD i = (set.getLsbD i || decide (i ∈ l)) := by
  induction l generalizing set with
  | nil => simp
  | cons j rest ih =>
    have hbit : (withMember set j).getLsbD i = (set.getLsbD i || decide (i = j)) := by
      simp only [withMember, BitVec.getLsbD_or, BitVec.getLsbD_shiftLeft, BitVec.getLsbD_one]
      grind
    rw [List.foldl_cons, ih, hbit, Bool.or_assoc]
    simp only [List.mem_cons, Bool.decide_or]

theorem manualInMotion_getLsbD (s : State) (axes : AxisSet) (k : AxisNo) : (manualInMotion s axes).getLsbD k
    = (axes.getLsbD k && decide ((s.axis k).duty = .manual ∧ (s.axis k).profile ≠ none)) := by
  unfold manualInMotion
  rw [foldl_withMember_getLsbD _ _ k.isLt, Bool.eq_iff_iff]
  simp [mem_axisMembers, inMotion_iff, Fin.val_inj, and_assoc]

theorem closeAxis_eq (s : State) (k : AxisNo) : s.closeAxis k =
    let a := s.axis k
    if a.duty = .auto then s
    else if a.valveTestEnd ≠ none then notifying s k { a with valve := false, valveTestEnd := none } .stopped
    else if a.motion = .moving ∨ a.motion = .homing then s.stopSlowly k else s := by
  unfold State.closeAxis
  dsimp only
  cases hduty : (s.axis k).duty with
  | auto => rfl
  | manual =>
    have hmanual : ¬ Duty.manual = Duty.auto := by decide
    rw [if_neg hmanual]
    by_cases htested : (s.axis k).valveTestEnd = none
    · simp only [htested, ne_eq, not_true_eq_false, if_false, Option.isSome_none, Bool.false_eq_true]
      cases (s.axis k).motion <;> rfl
    · rw [if_pos (Option.isSome_iff_ne_none.mpr htested), if_pos htested, endValveTest_eq, notifyRest_eq, if_neg htested]
      simp [hduty]

theorem closeAxis_of_closesAxis (h : closesAxis s k t) : s.closeAxis k = t := by
  rw [closeAxis_eq]
  dsimp only
  obtain ⟨hauto, rfl⟩ | ⟨hmanual, htested, rfl⟩ | ⟨hmanual, huntested, hdriven, -, hneeded, rfl⟩
    | ⟨hmanual, huntested, hdriven, -, hneeded, rfl⟩ | ⟨hmanual, huntested, hidle, rfl⟩ := h
  · exact if_pos hauto
  all_goals rw [if_neg (by simp [hmanual])]
  · exact if_pos htested
  all_goals rw [if_neg huntested]
  · rw [if_pos hdriven, stopSlowly_eq, if_neg (Nat.pos_iff_ne_zero.mp hneeded)]
  · rw [if_pos hdriven, stopSlowly_eq, if_pos hneeded]
  · exact if_neg hidle

theorem exec_fmuGrantCompletion {axes : AxisSet} (h : running s) : exec (.fmuGrantCompletion axes) s
    = .next (withAxes (s.received (.fmuGrantCompletion axes)) (Vector.ofFn fun k =>
      if axes.getLsbD k = true ∧ (s.axis k).duty = .manual then (s.axis k).toAuto else s.axis k)) := by
  refine exec_taken h (execFmuGrantCompletion axes) rfl rfl ?_
  unfold axisMembers
  rw [List.foldl_filter]
  refine foldl_axisNos (g := fun k a => if axes.getLsbD k = true ∧ a.duty = .manual then a.toAuto else a) fun v k => ?_
  rw [show (withAxes (s.received (.fmuGrantCompletion axes)) v).axis k = v[k] from rfl]
  by_cases hk : axes.getLsbD k = true
  · rw [if_pos hk]
    cases hduty : v[k].duty with
    | manual =>
      rw [if_pos ⟨hk, rfl⟩]
      rfl
    | auto =>
      rw [if_neg (by simp), Fin.getElem_fin, Vector.set_getElem_self]
  · rw [if_neg hk, if_neg fun h => hk h.1, Fin.getElem_fin, Vector.set_getElem_self]

theorem theFmuClosesAndReturnsAGrantsAxes : TheFmuClosesAndReturnsAGrantsAxes := by
  refine ⟨fun id axes s h => ⟨_, exec_taken h (execFmuGrantClosingStart id axes) rfl rfl rfl,
    manualInMotion_getLsbD _ axes⟩, fun k s t => closeAxis_of_closesAxis, fun axes s h =>
      ⟨_, exec_fmuGrantCompletion h, fun k => ?_⟩⟩
  rw [Fin.getElem_fin, Vector.getElem_ofFn]
  rfl

/-- Settles O36: a closing starts by a request or by its expiry, and the FMU closes and returns the grant's axes. -/
theorem closingsStartAndReachTheAxes : Obligations.ClosingsStartAndReachTheAxes :=
  ⟨closingsStartByRequestAndExpiry, theFmuClosesAndReturnsAGrantsAxes⟩

end Sys2Proof.Access
end

section
/-! SUPPORT. O39: reports give hits in the order of the watches, and the holders follow them (R129 to R133). -/

namespace Sys2Proof.Access

open Sys2Proof Sys2Proof.Machine Sys2Proof.Safety Sys2Proof.Claims Sys2Proof.Track Sys2Proof.AxisMoves

variable {s : State} {w : WatchNo} {x : Watch} {report : Report} {subject : WatchSubject}

/-! ## What a hit does -/

theorem watchReports_eq (w : WatchNo) (x : Watch) (subject : WatchSubject) : watchReports w x subject
    = (serialNamed subject).toList.map fun n => .watchReport n w (decide (x.action = .sample)) := by
  have hserial : subjectSerial subject = serialNamed subject := by
    cases subject <;> rfl
  unfold watchReports
  rw [hserial]
  cases serialNamed subject <;> rfl

theorem withdrawReports_eq (x : Watch) :
    withdrawReports x = if x.action = .withdraw then [.eventSourceLatch .watchStop] else [] := by
  unfold withdrawReports
  cases x.action <;> rfl

theorem takeHit_eq (s : State) (w : WatchNo) (x : Watch) (subject : WatchSubject) :
    s.takeHit w x subject = hits s w x subject := by
  unfold State.takeHit
  rw [watchReports_eq, withdrawReports_eq]
  rfl

/-! ## Which report hits which watch -/

theorem sameEntry_eq_false {k : AxisNo} {p : FillPhase} {n : Nat} : hitSubject.sameEntry x k p n = false
    ↔ ∀ holds cause, x.subject ≠ some (.axisPhase k (.fill p) (some n) holds cause) := by
  unfold hitSubject.sameEntry
  split
  · rename_i j q m holds cause heq
    simp only [heq, Option.some.injEq, ne_eq, WatchSubject.axisPhase.injEq, ← Bool.not_eq_true, Bool.and_eq_true, beq_iff_eq]
    constructor
    · rintro hnot holds cause ⟨rfl, rfl, rfl, -⟩
      exact hnot ⟨⟨rfl, rfl⟩, rfl⟩
    · rintro hall ⟨⟨rfl, rfl⟩, rfl⟩
      exact hall _ _ ⟨rfl, rfl, rfl, rfl, rfl⟩
  · rename_i hother
    exact iff_of_true rfl fun holds cause heq => hother _ _ _ _ _ heq

theorem hitSubject_of_hitBy (h : hitBy w x report subject) : hitSubject w x report = some subject := by
  obtain ⟨n, hkind, rfl, rfl⟩ | ⟨n, k, hkind, rfl, rfl⟩ | ⟨n, k, hkind, rfl, rfl⟩ | ⟨n, how, reason, hkind, rfl, rfl⟩
    | ⟨k, p, n, holder, hkind, rfl, rfl⟩ | ⟨k, p, n, hkind, rfl, hfresh, rfl⟩ | ⟨k, cause, before, hkind, rfl, rfl⟩
    | ⟨a, p, admits, hkind, rfl, rfl⟩ := h
  case inr.inr.inr.inr.inr.inl =>
    simp [hitSubject, hkind, sameEntry_eq_false.mpr hfresh]
  case inr.inr.inr.inr.inl =>
    simp [hitSubject, hkind, beq_eq_decide]
  all_goals simp [hitSubject, hkind]

theorem hitBy_of_hitSubject (h : hitSubject w x report = some subject) : hitBy w x report subject := by
  unfold hitSubject at h
  split at h
  case h_9 => cases h
  all_goals
    rename_i hkind
    split at h
    case isFalse => cases h
    rename_i hsame
    obtain rfl := Option.some.inj h
  · exact .inl ⟨_, hkind, by rw [hsame], rfl⟩
  · exact .inr (.inl ⟨_, _, hkind, by rw [hsame], rfl⟩)
  · exact .inr (.inr (.inl ⟨_, _, hkind, by rw [hsame.1, hsame.2], rfl⟩))
  · exact .inr (.inr (.inr (.inl ⟨_, _, _, hkind, by rw [hsame], rfl⟩)))
  · exact .inr (.inr (.inr (.inr (.inl ⟨_, _, _, _, hkind, by rw [hsame.1, hsame.2], by rw [beq_eq_decide]⟩))))
  · obtain ⟨rfl, rfl, rfl, hfresh⟩ := hsame
    refine .inr (.inr (.inr (.inr (.inr (.inl ⟨_, _, _, hkind, rfl, ?_, rfl⟩)))))
    exact sameEntry_eq_false.mp (by simpa using hfresh)
  · exact .inr (.inr (.inr (.inr (.inr (.inr (.inl ⟨_, _, _, hkind, by rw [hsame], rfl⟩))))))
  · exact .inr (.inr (.inr (.inr (.inr (.inr (.inr ⟨_, _, _, hkind, by rw [hsame], rfl⟩))))))

/-- No hit is on a watch that counts NG verdicts. -/
theorem kind_of_hitBy (h : hitBy w x report subject) : ∀ k n, x.kind ≠ .cameraNg k n := by
  intro k n hcamera
  obtain ⟨_, hkind, -⟩ | ⟨_, _, hkind, -⟩ | ⟨_, _, hkind, -⟩ | ⟨_, _, _, hkind, -⟩ | ⟨_, _, _, _, hkind, -⟩
    | ⟨_, _, _, hkind, -⟩ | ⟨_, _, _, hkind, -⟩ | ⟨_, _, _, hkind, -⟩ := h
  all_goals cases hcamera.symm.trans hkind

/-! ## A report at one watch -/

theorem atWatch_disabled (h : ∀ x, s.acu.watches[w] = some x → x.enabled = false) : s.atWatch report w = s := by
  unfold State.atWatch
  split
  · rfl
  · rename_i x hx
    rw [h x hx]
    rfl

section

variable (hx : s.acu.watches[w] = some x) (henabled : x.enabled = true)

include hx henabled

theorem atWatch_hit (h : hitBy w x report subject) : s.atWatch report w = hits s w x subject := by
  unfold State.atWatch
  rw [show s.watch w = some x from hx]
  dsimp only
  simp only [henabled, Bool.not_true, Bool.false_eq_true, if_false]
  split
  · rename_i hkind
    exact absurd hkind (kind_of_hitBy h _ _)
  · rw [hitSubject_of_hitBy h]
    exact takeHit_eq _ _ _ _

theorem atWatch_verdict {k j : CameraNo} {n serial : Nat} {v : Verdict} (hkind : x.kind = .cameraNg k n) :
    s.atWatch (.verdict serial j v) w = if k = j then s.countNg w x n serial k v else s := by
  unfold State.atWatch
  rw [show s.watch w = some x from hx]
  dsimp only
  rw [henabled, hkind]
  rfl

theorem atWatch_none (hnone : ¬ ∃ subject, hitBy w x report subject)
    (hcounts : ¬ ∃ k n serial v, x.kind = .cameraNg k n ∧ report = .verdict serial k v) : s.atWatch report w = s := by
  unfold State.atWatch
  rw [show s.watch w = some x from hx]
  dsimp only
  simp only [henabled, Bool.not_true, Bool.false_eq_true, if_false]
  split
  · rename_i hkind
    refine if_neg ?_
    rintro rfl
    exact hcounts ⟨_, _, _, _, hkind, rfl⟩
  · split
    · rename_i subject hsubject
      exact absurd ⟨subject, hitBy_of_hitSubject hsubject⟩ hnone
    · rfl

end

/-- Settles O39: a report is taken at each watch in its order, and then moves the holder of its axis. -/
theorem reportsGiveHitsInWatchOrder : Obligations.ReportsGiveHitsInWatchOrder := by
  refine ⟨fun report s h => exec_taken h (execAcuReport report) rfl rfl rfl, fun report w s => ⟨atWatch_disabled,
    fun x hx henabled => ⟨fun subject h => atWatch_hit hx henabled h, ?_, ?_, atWatch_none hx henabled⟩⟩,
    fun s => ⟨fun k p n w => ⟨rfl, rfl, rfl⟩, fun k w => rfl⟩⟩
  · rintro k n serial hkind rfl
    rw [atWatch_verdict hx henabled hkind, if_pos rfl]
    refine ⟨fun hreached => ?_, fun hbelow => ?_⟩
    · exact (if_pos hreached).trans (takeHit_eq _ _ _ _)
    · exact if_neg (Nat.not_le.mpr hbelow)
  · rintro k n serial v hkind rfl hv
    rw [atWatch_verdict hx henabled hkind, if_pos rfl]
    cases v with
    | ng => exact absurd rfl hv
    | _ => rfl

end Sys2Proof.Access
end

section
/-! SUPPORT. O38: watches are set, cleared and acknowledged, and held axes resumed (R134 to R137). -/

namespace Sys2Proof.Access

open Sys2Proof Sys2Proof.Machine Sys2Proof.Safety Sys2Proof.Claims Sys2Proof.Track Sys2Proof.AxisMoves

/-! ## Operands, actions and scopes (R134) -/

theorem stageOf_eq_some {n : Nat} {stage : Stage} : stageOf n = some stage ↔ stageCode stage = n := by
  constructor
  · intro h
    unfold stageOf at h
    split at h
    case h_4 =>
      split at h
      · rename_i hn
        obtain ⟨i, hi, rfl⟩ := Cabinet.finOf_map_eq_some.mp h
        show 2 + i.val = n
        omega
      · cases h
    all_goals
      cases h
      rfl
  · rintro rfl
    cases stage with
    | camera k => fin_cases k <;> rfl
    | _ => rfl

theorem entryPhaseOf_eq_some {n : Nat} {phase : EntryPhase} : entryPhaseOf n = some phase ↔ entryPhaseCode phase = n := by
  constructor
  · intro h
    unfold entryPhaseOf at h
    split at h
    case h_5 => cases h
    all_goals
      cases h
      rfl
  · rintro rfl
    cases phase with
    | fill p => cases p <;> rfl
    | halted => rfl

theorem watchActionOf_eq_some {n : Nat} {action : WatchAction} :
    watchActionOf n = some action ↔ watchActionCode action = n := by
  constructor
  · intro h
    unfold watchActionOf at h
    split at h
    case h_5 => cases h
    all_goals
      cases h
      rfl
  · rintro rfl
    cases action <;> rfl

theorem scopeOf_eq_some {scope grant : Nat} {x : WatchScope} : scopeOf scope grant = some x ↔ scopeNames scope grant x := by
  unfold scopeOf scopeNames
  split
  · by_cases hgrant : grant = 0 <;> simp [hgrant, eq_comm]
  · by_cases hgrant : grantIdOk grant = true
    · simp [hgrant, grantIdOk_iff.mp hgrant, eq_comm]
    · have hnot : ¬ (1 ≤ grant ∧ grant ≤ 255) := fun h => hgrant (grantIdOk_iff.mpr h)
      simp only [hgrant, Bool.false_eq_true, if_false]
      exact iff_of_false (by simp) (by simp; tauto)
  · rename_i hzero hone
    exact iff_of_false (by simp) (by rintro (⟨h, -⟩ | ⟨h, -⟩) <;> contradiction)

theorem watchKindOf_of_operandsName {operands : WatchOperands} {kind : WatchKind} (h : operandsName operands kind) :
    watchKindOf operands = some kind := by
  obtain ⟨n, stage, hlow, hhigh, rfl, rfl⟩ | ⟨k, phase, rfl, rfl⟩ | ⟨k, n, hlow, hhigh, rfl, rfl⟩ | ⟨a, rfl, rfl⟩ := h
  · refine (if_pos ⟨hlow, hhigh⟩).trans ?_
    rw [stageOf_eq_some.mpr rfl]
    rfl
  · simp only [watchKindOf, Cabinet.finOf_eq_some.mpr rfl, entryPhaseOf_eq_some.mpr rfl, Option.bind_some, Option.map_some]
  · refine (if_pos ⟨hlow, hhigh⟩).trans ?_
    rw [Cabinet.finOf_eq_some.mpr rfl]
    rfl
  · rfl

theorem operandsName_of_watchKindOf {operands : WatchOperands} {kind : WatchKind} (h : watchKindOf operands = some kind) :
    operandsName operands kind := by
  unfold watchKindOf at h
  split at h
  · split at h
    · rename_i hrange
      obtain ⟨stage, hstage, rfl⟩ := Option.map_eq_some_iff.mp h
      exact .inl ⟨_, stage, hrange.1, hrange.2, by rw [stageOf_eq_some.mp hstage], rfl⟩
    · cases h
  · obtain ⟨k, hk, hmap⟩ := Option.bind_eq_some_iff.mp h
    obtain ⟨phase, hphase, rfl⟩ := Option.map_eq_some_iff.mp hmap
    exact .inr (.inl ⟨k, phase, by rw [entryPhaseOf_eq_some.mp hphase, Cabinet.finOf_eq_some.mp hk], rfl⟩)
  · split at h
    · rename_i hrange
      obtain ⟨k, hk, rfl⟩ := Cabinet.finOf_map_eq_some.mp h
      exact .inr (.inr (.inl ⟨k, _, hrange.1, hrange.2, by rw [hk], rfl⟩))
    · cases h
  · cases h
    exact .inr (.inr (.inr ⟨_, rfl, rfl⟩))
  · cases h

theorem actionAllowed_iff {kind : WatchKind} {action : WatchAction} : actionAllowed kind action = true ↔ suits kind action := by
  cases kind with
  | axisPhase k phase => cases phase <;> cases action <;> simp [actionAllowed, suits]
  | _ => cases action <;> simp [actionAllowed, suits]

theorem watchOf_eq_some {operands : WatchOperands} {action scope grant enable : Nat} {x : Watch} :
    watchOf operands action scope grant enable = some x ↔ settingOf operands action scope grant enable x := by
  constructor
  · intro h
    unfold watchOf at h
    split at h
    · rename_i hkind haction hscope henable
      split at h
      · rename_i hallowed
        cases h
        have hflag : enable ≤ 1 := Nat.le_of_lt_succ (Nat.lt_of_not_le fun hlarge => by
          rw [yesNoOf_none hlarge] at henable
          cases henable)
        refine ⟨operandsName_of_watchKindOf hkind, watchActionOf_eq_some.mp haction, actionAllowed_iff.mp hallowed,
          scopeOf_eq_some.mp hscope, hflag, ?_⟩
        rw [Option.some.inj (henable.symm.trans (yesNoOf_some hflag))]
      · cases h
    · cases h
  · rintro ⟨hkind, haction, hsuits, hscope, hflag, hx⟩
    unfold watchOf
    rw [watchKindOf_of_operandsName hkind, watchActionOf_eq_some.mpr haction, scopeOf_eq_some.mpr hscope, yesNoOf_some hflag]
    dsimp only
    rw [if_pos (actionAllowed_iff.mpr hsuits), hx]

/-! ## Who may set and clear a watch (R135) -/

section

variable {s t : State} {w : WatchNo} {x y : Watch} {scope : WatchScope} {member : Option AxisNo} {reason : Option Reason}
  {id : Nat} {old : Watch}

theorem watchAuthority_of_watchCheck (h : watchCheck s scope member reason) : watchAuthority s scope member = reason := by
  obtain ⟨rfl, hlow, rfl⟩ | ⟨rfl, hlevel, rfl⟩ | ⟨id, rfl, hlocal⟩ := h
  · exact if_pos hlow
  · exact if_neg (Nat.not_lt.mpr hlevel)
  · show s.grantCheck id _ = reason
    obtain ⟨hfree, rfl⟩ | ⟨slot, g, hg, ⟨k, rfl, hother, rfl⟩ | ⟨hcovers, hclosing, rfl⟩ | ⟨hcovers, hopen, rfl⟩⟩ := hlocal
    · exact grantCheck_of_freeOf hfree
    · rw [grantCheck_of_holdsGrant hg]
      exact if_neg (by simpa using hother)
    all_goals
      have hall : (member.all fun k => g.axes.getLsbD k) = true := by
        cases member with
        | none => rfl
        | some k => exact hcovers k rfl
      rw [grantCheck_of_holdsGrant hg, if_pos hall]
    · exact if_pos hclosing
    · exact if_neg (by rw [hopen]; decide)

theorem overwriteRefused_iff : overwriteRefused s (.localTo id) (some old) = true ↔ keptFrom s id old := by
  unfold overwriteRefused keptFrom
  dsimp only
  split
  · rename_i hglobal
    simp [hglobal]
  · rename_i other hlocal
    simp only [hlocal, Bool.and_eq_true, bne_iff_ne, grantOf_isSome_iff, reduceCtorEq, false_or]
    exact ⟨fun h => ⟨other, rfl, h⟩, fun ⟨_, heq, h⟩ => by cases heq; exact h⟩

theorem overwriteRefused_of_free (h : ∀ id old, scope = .localTo id → s.acu.watches[w] = some old → ¬ keptFrom s id old) :
    overwriteRefused s scope (s.watch w) = false := by
  cases scope with
  | global => rfl
  | localTo id =>
    cases hold : s.watch w with
    | none => rfl
    | some old => exact Bool.eq_false_iff.mpr fun hrefused => h id old rfl hold (overwriteRefused_iff.mp hrefused)

theorem clearAllowed_iff : clearAllowed s scope y = true
    ↔ y.scope = scope ∨ (scope = .global ∧ ∃ id, y.scope = .localTo id ∧ freeOf s id) := by
  unfold clearAllowed
  have hnone : ∀ id, (s.grantOf id).isNone = true ↔ freeOf s id := fun id => by
    rw [← Bool.not_eq_false, Option.isNone_eq_false_iff, grantOf_isSome_iff, not_not]
  cases scope with
  | global =>
    cases y.scope with
    | global => simp
    | localTo id => simp [hnone]
  | localTo id =>
    cases y.scope with
    | global => simp
    | localTo other =>
      simp only [beq_iff_eq, WatchScope.localTo.injEq, reduceCtorEq, false_and, or_false]
      exact eq_comm

theorem additionReports_eq (w : WatchNo) (x : Watch) : additionReports w x = holding w x := by
  obtain ⟨kind, action, scope, enabled⟩ := x
  cases kind with
  | axisPhase k phase => cases phase <;> cases enabled <;> cases action <;> rfl
  | _ => cases enabled <;> cases action <;> rfl

theorem dropWatch_of_drops (h : drops s w t) : s.dropWatch w = t := by
  unfold State.dropWatch
  obtain ⟨hnone, rfl⟩ | ⟨x, hx, rfl⟩ := h
  · rw [show t.watch w = none from hnone]
  · rw [show s.watch w = some x from hx]
    dsimp only
    rw [removalReports_eq]
    rfl

theorem writeWatch_of_drops (h : drops s w t) :
    s.writeWatch w x = (sending (withWatch t w (some x)) (holding w x)).replyOk [] := by
  unfold State.writeWatch
  rw [dropWatch_of_drops h, additionReports_eq]
  rfl

end

/-! ## The requests -/

section

variable {s t : State} {n action scope grant enable : Nat} {operands : WatchOperands} {w : WatchNo} {x y : Watch}
  {sc : WatchScope}

/-- A clear whose authority was found. -/
def clearAt (sc : WatchScope) (w : WatchNo) (s : State) : State :=
  match s.watch w with
  | none => s.refuse .notFound
  | some x => if clearAllowed s sc x then (s.dropWatch w).replyOk [] else s.refuse .state

theorem clearAt_none (hw : s.acu.watches[w] = none) : clearAt sc w s = s.refuse .notFound := by
  unfold clearAt
  rw [show s.watch w = none from hw]

theorem clearAt_some (hw : s.acu.watches[w] = some y) :
    clearAt sc w s = if clearAllowed s sc y then (s.dropWatch w).replyOk [] else s.refuse .state := by
  unfold clearAt
  rw [show s.watch w = some y from hw]

def acknowledge (w : WatchNo) (s : State) : State :=
  match s.watch w with
  | none => s.refuse .notFound
  | some x => (s.setWatch w (some { x with hitFlag := false })).replyOk []

theorem acknowledge_none (hw : s.acu.watches[w] = none) : acknowledge w s = s.refuse .notFound := by
  unfold acknowledge
  rw [show s.watch w = none from hw]

theorem acknowledge_some (hw : s.acu.watches[w] = some y) :
    acknowledge w s = (withWatch s w (some { y with hitFlag := false })).replyOk [] := by
  unfold acknowledge
  rw [show s.watch w = some y from hw]
  rfl

variable (h : running s)

include h

theorem exec_watchAck_named (hlevel : 1 ≤ s.acu.level) (hw : w.val = n) : exec (.watchAck n) s
    = .next (acknowledge w (s.received (.watchAck n))) := by
  subst hw
  exact exec_taken h (execWatchAck w) rfl rfl ((withLevel_reached (by exact hlevel) _).trans
    (requireSome_met (finOf_some w.isLt) _ _))

theorem exec_watchSet_unfit (hbad : ¬ (n < 4 ∧ ∃ x, settingOf operands action scope grant enable x)) :
    let c := Instr.watchSet n operands action scope grant enable
    exec c s = .next ((s.received c).refuse .badValue) := by
  refine exec_taken h (execWatchSet n operands action scope grant enable) rfl rfl ?_
  by_cases hn : n < 4
  · rw [requireSome_met (finOf_some hn)]
    refine requireSome_failed ?_ _ _
    cases hwatch : watchOf operands action scope grant enable with
    | none => rfl
    | some x => exact absurd ⟨hn, x, watchOf_eq_some.mp hwatch⟩ hbad
  · rw [requireSome_failed (finOf_none (Nat.not_lt.mp hn))]

/-- A setting whose operands fit is refused without authority, and over a watch it may not replace. -/
theorem exec_watchSet_fits (hw : w.val = n) (hx : settingOf operands action scope grant enable x) {reason : Option Reason}
    (hcheck : watchCheck s x.scope (heldAxis x) reason) :
    let c := Instr.watchSet n operands action scope grant enable
    let r := s.received c
    exec c s = .next (reason.elim
      (if overwriteRefused r x.scope (r.watch w) then r.refuse .state else r.writeWatch w x) fun why => r.refuse why) := by
  subst hw
  refine exec_taken h (execWatchSet w operands action scope grant enable) rfl rfl
    ((requireSome_met (finOf_some w.isLt) _ _).trans ((requireSome_met (watchOf_eq_some.mpr hx) _ _).trans ?_))
  rw [show watchAuthority (s.received _) x.scope (watchMember x) = reason from watchAuthority_of_watchCheck hcheck]
  cases reason <;> rfl

theorem exec_watchClear_refused (hscope : scopeNames scope grant sc) {reason : Reason}
    (hcheck : watchCheck s sc none (some reason)) :
    exec (.watchClear n scope grant) s = .next ((s.received (.watchClear n scope grant)).refuse reason) := by
  refine exec_taken h (execWatchClear n scope grant) rfl rfl ((requireSome_met (scopeOf_eq_some.mpr hscope) _ _).trans ?_)
  rw [show watchAuthority (s.received _) sc none = some reason from watchAuthority_of_watchCheck hcheck]

theorem exec_watchClear_checked (hscope : scopeNames scope grant sc) (hcheck : watchCheck s sc none none) :
    exec (.watchClear n scope grant) s
      = .next ((s.received (.watchClear n scope grant)).requireSome (finOf 4 n) .badValue (clearAt sc)) := by
  refine exec_taken h (execWatchClear n scope grant) rfl rfl ((requireSome_met (scopeOf_eq_some.mpr hscope) _ _).trans ?_)
  rw [show watchAuthority (s.received _) sc none = none from watchAuthority_of_watchCheck hcheck]
  rfl

end

/-- Settles O38: settings and clears by their authority over the watch, acknowledgements and resumptions by the state. -/
theorem watchesAreSetClearedAndAcknowledged : Obligations.WatchesAreSetClearedAndAcknowledged := by
  refine ⟨fun n operands action scope grant enable s h => ?_, fun n scope grant s h => ?_, fun n s h => ?_, fun k s => ?_⟩
  · refine ⟨fun hbad => exec_watchSet_unfit h hbad, fun w x hw hx => ⟨fun reason hcheck => ?_,
      fun id old hcheck hscope hold hkept => ?_, fun t hcheck hfree hdrops => ?_⟩⟩
    all_goals rw [exec_watchSet_fits h hw hx hcheck]
    · rfl
    · refine congrArg _ (if_pos ?_)
      rw [hscope, show (s.received _).watch w = some old from hold]
      exact overwriteRefused_iff.mpr hkept
    · refine congrArg _ ((if_neg ?_).trans (writeWatch_of_drops hdrops))
      exact Bool.eq_false_iff.mp (overwriteRefused_of_free (s := s.received _) hfree)
  · dsimp only
    refine ⟨fun hbad => ?_, fun x hscope => ⟨fun reason hcheck => ?_, fun hcheck hn => ?_, fun w hcheck hw => ?_⟩⟩
    · refine exec_taken h (execWatchClear n scope grant) rfl rfl (requireSome_failed ?_ _ _)
      cases hscope : scopeOf scope grant with
      | none => rfl
      | some x => exact absurd ⟨x, scopeOf_eq_some.mp hscope⟩ hbad
    · exact exec_watchClear_refused h hscope hcheck
    all_goals rw [exec_watchClear_checked h hscope hcheck]
    · exact congrArg _ (requireSome_failed (finOf_none hn) _ _)
    · subst hw
      rw [requireSome_met (finOf_some w.isLt)]
      refine ⟨fun hnone => congrArg _ (clearAt_none (s := s.received _) hnone), fun y hy hnot => congrArg _ ?_,
        fun y t hy hallowed hdrops => congrArg _ ?_⟩
      · refine (clearAt_some (s := s.received _) hy).trans (if_neg fun hok => hnot ?_)
        exact clearAllowed_iff.mp hok
      · refine (clearAt_some (s := s.received _) hy).trans ((if_pos (clearAllowed_iff.mpr hallowed)).trans ?_)
        rw [dropWatch_of_drops hdrops]
  · dsimp only
    refine ⟨fun hlow => ?_, fun hlevel hn => ?_, fun w hlevel hw => ⟨fun hnone => ?_, fun x hx => ?_⟩⟩
    · refine exec_taken h (execWatchAck n) rfl rfl (withLevel_below ?_ _)
      exact Nat.lt_one_iff.mpr hlow
    · exact exec_taken h (execWatchAck n) rfl rfl ((withLevel_reached (by exact hlevel) _).trans
        (requireSome_failed (finOf_none hn) _ _))
    · rw [exec_watchAck_named h hlevel hw]
      exact congrArg _ (acknowledge_none (s := s.received _) hnone)
    · rw [exec_watchAck_named h hlevel hw]
      exact congrArg _ (acknowledge_some (s := s.received _) hx)
  · unfold resumeMember
    refine ⟨fun hnone => ?_, fun w hw => ?_⟩
    · rw [show s.holder k = none from hnone]
    · rw [show s.holder k = some w from hw]
      rfl

end Sys2Proof.Access
end

section
/-! SUPPORT. O40: the accounts follow their thresholds (R158 to R160). -/

namespace Sys2Proof.Accounts

open Sys2Proof Sys2Proof.Machine Sys2Proof.Safety Sys2Proof.Claims Sys2Proof.BottleTrack Sys2Proof.Track Sys2Proof.AxisMoves
  Sys2Proof.Access

variable {s t : State} {a : Account} {r : AccountRecord} {cause : AccountCause}

/-! ## The record of an account -/

theorem account_eq (s : State) (a : Account) : s.account a = accountAt s.tmu a := by
  cases a <;> rfl

theorem accounts_accountIx (x : Tmu) (a : Account) : x.accounts[accountIx a] = accountAt x a := by
  cases a <;> rfl

theorem withAccount_eq (x : Tmu) (a : Account) (r : AccountRecord) :
    withAccount x a r = { x with accounts := x.accounts.set (accountIx a) r } := by
  cases a <;> rfl

theorem accountAt_withAccount (x : Tmu) (a : Account) (r : AccountRecord) : accountAt (withAccount x a r) a = r := by
  rw [withAccount_eq, ← accounts_accountIx]
  simp

theorem reachedState_of_wornTo {count warn alarm : Nat} {state : AlarmState} (h : wornTo count warn alarm state) :
    reachedState count warn alarm = state := by
  unfold reachedState
  obtain ⟨hlow, hreached, rfl⟩ | ⟨hnot, hwarn, hreached, rfl⟩ | ⟨hnot, hnotWarn, rfl⟩ := h
  · exact if_pos ⟨hlow, hreached⟩
  · rw [if_neg hnot, if_pos ⟨hwarn, hreached⟩]
  · rw [if_neg hnot, if_neg hnotWarn]

theorem camerasOverdue_eq (x : Tmu) : camerasOverdue x = decide (∃ k : CameraNo, (accountAt x (.camera k)).state = .alarm) := by
  rw [Bool.eq_iff_iff]
  simp only [camerasOverdue, List.any_eq_true, beq_iff_eq, decide_eq_true_eq, accounts_accountIx]
  exact ⟨fun ⟨k, _, h⟩ => ⟨k, h⟩, fun ⟨k, h⟩ => ⟨k, mem_cameraNos k, h⟩⟩

theorem gateOverdue_eq (x : Tmu) : gateOverdue x = decide ((accountAt x .gate).state = .alarm) := by
  rw [← accounts_accountIx]
  exact beq_eq_decide _ _

/-! ## A record is put in place -/

theorem handAccount_eq (s : State) (before : Tmu) (a : Account) : s.handAccount a before (accountAt before a).state
    (accountAt s.tmu a).state = sending s (handing before s.tmu a (accountAt before a).state (accountAt s.tmu a).state) := by
  cases a with
  | axis k =>
    unfold State.handAccount handing
    dsimp only
    split
    · rfl
    · split
      · rfl
      · exact (sendAll_nil s).symm
  | camera k =>
    unfold State.handAccount handing
    dsimp only
    rw [reportSource_eq_sending, camerasOverdue_eq, camerasOverdue_eq]
  | gate =>
    unfold State.handAccount handing
    dsimp only
    rw [reportSource_eq_sending, gateOverdue_eq, gateOverdue_eq]

theorem putAccount_of_accountSet (h : accountSet s a r cause t) : s.putAccount a r cause = t := by
  obtain ⟨state, hworn, hcases⟩ := h
  unfold State.putAccount
  dsimp only
  rw [reachedState_of_wornTo hworn, accounts_accountIx, ← withAccount_eq]
  obtain ⟨hsame, rfl⟩ | ⟨hother, rfl⟩ := hcases
  · exact if_pos hsame
  · rw [if_neg hother]
    have hhand := handAccount_eq ((withTmu s (withAccount s.tmu a { r with state := state })).post
      (.accountState a (accountAt s.tmu a).state state r.count cause)) s.tmu a
    have hnew : (accountAt ((withTmu s (withAccount s.tmu a { r with state := state })).post
      (.accountState a (accountAt s.tmu a).state state r.count cause)).tmu a).state = state :=
      congrArg AccountRecord.state (accountAt_withAccount s.tmu a { r with state := state })
    rw [hnew] at hhand
    exact hhand

theorem markDirty_eq (s : State) : s.markDirty = withSettings s s.cfg := rfl

theorem exec_accountConfig_bad {n warn alarm : Nat} (h : running s) (hlevel : 2 ≤ s.acu.level)
    (hbad : 15 ≤ n ∨ ¬ (warn ≤ 4294967295 ∧ alarm ≤ 4294967295 ∧ (warn ≠ 0 → alarm ≠ 0 → warn ≤ alarm))) :
    exec (.accountConfig n warn alarm) s = .next ((s.received (.accountConfig n warn alarm)).refuse .badValue) := by
  refine exec_taken h (execAccountConfig n warn alarm) rfl rfl ((withLevel_reached (by exact hlevel) _).trans ?_)
  cases ha : accountOf n with
  | none => rw [requireSome_none]
  | some a =>
    have hn : ¬ 15 ≤ n := fun hn => by
      rw [accountOf_none hn] at ha
      cases ha
    rw [requireSome_some]
    exact require_failed (Bool.eq_false_iff.mpr fun hok => hbad.resolve_left hn ((Cabinet.thresholdsOk_iff _ _ _).mp hok)) _ _

/-- Settles O40: every change of an account's record settles its state and hands it on. -/
theorem accountsFollowTheirThresholds : Obligations.AccountsFollowTheirThresholds := by
  refine ⟨fun a s t h => ?_, fun n warn alarm s h hlevel => ⟨exec_accountConfig_bad h hlevel, fun a t ha hfits hset => ?_⟩,
    fun n warn alarm s h hlow => ?_, fun a s t hset => ?_⟩
  · dsimp only
    intro hset
    refine exec_taken h (execAccountCount a) rfl rfl ?_
    rw [← putAccount_of_accountSet hset, ← account_eq]
    rfl
  · subst ha
    refine exec_taken h (execAccountConfig (numberOf a) warn alarm) rfl rfl ((withLevel_reached (by exact hlevel) _).trans
      ((requireSome_met (accountOf_numberOf a) _ _).trans
        ((require_met ((Cabinet.thresholdsOk_iff _ _ _).mpr hfits) _ _).trans ?_)))
    have hput : (s.received (.accountConfig (numberOf a) warn alarm)).putAccount a
        { (s.received (.accountConfig (numberOf a) warn alarm)).account a with warn := warn, alarm := alarm } .config = t := by
      rw [account_eq]
      exact putAccount_of_accountSet hset
    dsimp only
    rw [hput, account_eq]
    rfl
  · exact exec_taken h (execAccountConfig n warn alarm) rfl rfl (withLevel_below (by exact hlow) _)
  · unfold State.resetAccount
    rw [account_eq, putAccount_of_accountSet hset]
    rfl

end Sys2Proof.Accounts
end

section
/-! SUPPORT. O41: the hall clock runs at its rate and follows its marks (R150 to R156). -/

namespace Sys2Proof.Clocks

open Sys2Proof Sys2Proof.Machine Sys2Proof.Safety Sys2Proof.Claims Sys2Proof.BottleTrack Sys2Proof.Track Sys2Proof.AxisMoves
  Sys2Proof.Cabinet

variable {s : State} {hall : Nat} {offset : Option Int}

theorem held_eq (x : Int) : held Config.rateLimit x = heldRate x := rfl

theorem inHoldover_eq (x : Tmu) : inHoldover x = decide (x.clock = .holdover) := beq_eq_decide _ _

theorem reportHoldover_eq (s : State) (before : Tmu) : s.reportHoldover before
    = sending s (change .clockHoldover (decide (before.clock = .holdover)) (decide (s.tmu.clock = .holdover))) := by
  unfold State.reportHoldover
  rw [reportSource_eq_sending, inHoldover_eq, inHoldover_eq]

/-! ## Setting the time -/

theorem setTime_free {old : Nat} (hclock : s.tmu.clock = .free) (hstamp : s.stamp = some old) : s.setTime hall
    = (withTmu s { setTo s.tmu hall with clock := .free, holdoverDeadline := none }).post
      (.clockStep false ((hall : Int) - old)) := by
  unfold State.setTime
  dsimp only
  rw [hclock, hstamp, reportHoldover_eq, hclock]
  exact sendAll_nil _

theorem setTime_other (hclock : s.tmu.clock = .unset ∨ s.tmu.clock = .holdover) : s.setTime hall
    = sending ((withTmu s { setTo s.tmu hall with clock := .free, holdoverDeadline := none }).post
      (.clockState s.tmu.clock .free .timeSet none)) (change .clockHoldover (decide (s.tmu.clock = .holdover)) false) := by
  unfold State.setTime
  dsimp only
  rw [reportHoldover_eq]
  obtain h | h := hclock
  all_goals
    rw [h]
    rfl

theorem exec_timeSet_fits (h : running s) (hlevel : 1 ≤ s.acu.level) (hfits : hall ≤ 18446744073709551615) :
    exec (.timeSet hall) s = .next ((s.received (.timeSet hall)).require ((s.received (.timeSet hall)).tmu.clock != .locked)
      .state fun s => (s.setTime hall).replyOk []) :=
  exec_taken h (execTimeSet hall) rfl rfl ((withLevel_reached (by exact hlevel) _).trans
    (require_met (decide_eq_true hfits) _ _))

/-! ## Marks -/

theorem lockTo_eq (s : State) (hall : Nat) (offset : Option Int) : s.lockTo hall offset
    = sending ((withTmu s { setTo (marked s.tmu offset) hall with clock := .locked }).post
      (.clockState s.tmu.clock .locked .mark offset)) (change .clockHoldover (decide (s.tmu.clock = .holdover)) false) := by
  unfold State.lockTo
  dsimp only
  rw [reportHoldover_eq]
  rfl

theorem takeMark_unlocked (hclock : s.tmu.clock ≠ .locked) (hoffset : offsetIs s hall offset) :
    s.takeMark hall = s.lockTo hall offset := by
  unfold State.takeMark
  obtain ⟨hstamp, rfl⟩ | ⟨h, hstamp, rfl⟩ := hoffset
  · rw [hstamp]
  · rw [hstamp]
    dsimp only
    split
    · contradiction
    · rfl

theorem takeMark_locked {d : Int} (hclock : s.tmu.clock = .locked) (hoffset : offsetIs s hall (some d)) :
    s.takeMark hall = if d < -1000 ∨ 1000 < d then s.stepTo hall d else s.slewBy d := by
  obtain ⟨-, hnone⟩ | ⟨h, hstamp, hd⟩ := hoffset
  · cases hnone
  · obtain rfl := Option.some.inj hd
    unfold State.takeMark
    rw [hstamp]
    dsimp only
    rw [hclock]
    rfl

/-! ## The end of a mark's phase term, and holdover -/

theorem enterHoldover_eq (hclock : s.tmu.clock = .locked) : s.enterHoldover
    = sending ((withTmu s { s.tmu with
        clock := .holdover, phaseTerm := 0, phaseEnd := none, holdoverDeadline := none
        holdovers := min (s.tmu.holdovers + 1) 4294967295 }).post (.clockState .locked .holdover .holdover none))
        [.sourceActivation .clockHoldover] := by
  unfold State.enterHoldover
  dsimp only
  rw [reportHoldover_eq, hclock]
  rfl

theorem exec_phaseTermExpiry_due {t : RunTime} (h : running s) (ht : s.tmu.phaseEnd = some t) (hdue : t ≤ s.tmu.now) :
    exec .phaseTermExpiry s
      = .next (withTmu (s.received .phaseTermExpiry) { s.tmu with phaseTerm := 0, phaseEnd := none }) := by
  refine exec_taken h execPhaseTermExpiry rfl rfl ?_
  rw [show (s.received .phaseTermExpiry).tmu.phaseEnd = some t from ht]
  exact if_pos hdue

theorem exec_phaseTermExpiry_early (h : running s)
    (hnot : s.tmu.phaseEnd = none ∨ ∃ t, s.tmu.phaseEnd = some t ∧ s.tmu.now < t) :
    exec .phaseTermExpiry s = .next (s.received .phaseTermExpiry) := by
  refine exec_taken h execPhaseTermExpiry rfl rfl ?_
  obtain hnone | ⟨t, ht, hearly⟩ := hnot
  · rw [show (s.received .phaseTermExpiry).tmu.phaseEnd = none from hnone]
  · rw [show (s.received .phaseTermExpiry).tmu.phaseEnd = some t from ht]
    exact if_neg (Nat.not_le.mpr hearly)

theorem exec_holdoverExpiry_due {t : RunTime} (h : running s) (hclock : s.tmu.clock = .locked)
    (ht : s.tmu.holdoverDeadline = some t) (hdue : t ≤ s.tmu.now) :
    exec .holdoverExpiry s = .next (s.received .holdoverExpiry).enterHoldover := by
  refine exec_taken h execHoldoverExpiry rfl rfl ?_
  rw [show (s.received .holdoverExpiry).tmu.clock = .locked from hclock,
    show (s.received .holdoverExpiry).tmu.holdoverDeadline = some t from ht]
  exact if_pos hdue

theorem exec_holdoverExpiry_early (h : running s) (hnot : s.tmu.clock ≠ .locked ∨ s.tmu.holdoverDeadline = none
    ∨ ∃ t, s.tmu.holdoverDeadline = some t ∧ s.tmu.now < t) :
    exec .holdoverExpiry s = .next (s.received .holdoverExpiry) := by
  refine exec_taken h execHoldoverExpiry rfl rfl ?_
  split
  · rename_i t hclock hdeadline
    refine if_neg fun hdue => ?_
    obtain hunlocked | hnone | ⟨u, hu, hearly⟩ := hnot
    · exact hunlocked hclock
    · cases hnone.symm.trans hdeadline
    · obtain rfl := Option.some.inj (hu.symm.trans hdeadline)
      exact Nat.not_lt.mpr hdue hearly
  · rfl

theorem theHallClockFollowsItsMarks : TheHallClockFollowsItsMarks := by
  refine ⟨fun hall s h => ⟨fun hlow => ?_, fun hlevel hlarge => ?_, fun hlevel hfits => ⟨fun hlocked => ?_,
      fun old hfree hstamp => ?_, fun hclock => ?_⟩⟩, fun hall offset s h hoffset => ⟨fun hclock => ?_, fun d hclock hd =>
        ⟨fun hfar => ?_, fun hlow hhigh => ?_⟩⟩,
    fun s h => ⟨fun t ht hdue => exec_phaseTermExpiry_due h ht hdue, exec_phaseTermExpiry_early h⟩,
    fun s h => ⟨fun t hclock ht hdue => ?_, exec_holdoverExpiry_early h⟩⟩
  · exact exec_taken h (execTimeSet hall) rfl rfl (withLevel_below (by exact Nat.lt_one_iff.mpr hlow) _)
  · exact exec_taken h (execTimeSet hall) rfl rfl ((withLevel_reached (by exact hlevel) _).trans
      (require_failed (decide_eq_false (Nat.not_le.mpr hlarge)) _ _))
  · rw [exec_timeSet_fits h hlevel hfits]
    exact congrArg _ (require_failed (bne_eq_false_iff_eq.mpr hlocked) _ _)
  · rw [exec_timeSet_fits h hlevel hfits]
    refine congrArg _ ((require_met (bne_iff_ne.mpr ?_) _ _).trans ?_)
    · rw [received_eq, hfree]
      decide
    · rw [setTime_free (s := s.received _) hfree hstamp]
      rfl
  · rw [exec_timeSet_fits h hlevel hfits]
    refine congrArg _ ((require_met (bne_iff_ne.mpr ?_) _ _).trans ?_)
    · rw [received_eq]
      obtain hunset | hholdover := hclock
      · simp [hunset]
      · simp [hholdover]
    · rw [setTime_other (s := s.received _) hclock]
      rfl
  · refine exec_fromSwitch h (execTimeMark hall) rfl rfl ((takeMark_unlocked (s := s.received _) hclock hoffset).trans ?_)
    rw [lockTo_eq]
    rfl
  · subst hd
    refine exec_fromSwitch h (execTimeMark hall) rfl rfl ((takeMark_locked (s := s.received _) hclock hoffset).trans ?_)
    rw [if_pos hfar]
    rfl
  · subst hd
    refine exec_fromSwitch h (execTimeMark hall) rfl rfl ((takeMark_locked (s := s.received _) hclock hoffset).trans ?_)
    rw [if_neg (by omega)]
    rfl
  · rw [exec_holdoverExpiry_due h hclock ht hdue, enterHoldover_eq (s := s.received _) hclock]
    rfl

/-! ## The rate (R150) -/

/-- The hall time never runs backwards: a millisecond with the rate taken off is still positive. -/
theorem hallStep_eq (x : Tmu) (parts : Nat) : (parts : Int) + 1000000000 + heldRate (x.frequency + x.phaseTerm)
    = ((parts + (hallUnit + x.rate).toNat : Nat) : Int) := by
  have hpositive : 0 ≤ (hallUnit : Int) + x.rate := by
    rw [Tmu.rate, held_eq, heldRate, hallUnit]
    omega
  rw [Int.natCast_add, Int.toNat_of_nonneg hpositive, ← Int.add_assoc]
  rfl

theorem advanceHall_unset (hunset : s.tmu.clock = .unset) : s.advanceHall = s := by
  unfold State.advanceHall
  rw [hunset]

theorem advanceHall_runs {parts : Nat} (hset : s.tmu.clock ≠ .unset) (hparts : s.tmu.hallParts = some parts)
    (hfits : (parts + (hallUnit + s.tmu.rate).toNat) / 1000000000 ≤ 18446744073709551615) :
    s.advanceHall = withTmu s { s.tmu with hallParts := some (parts + (hallUnit + s.tmu.rate).toNat) } := by
  unfold State.advanceHall
  split
  · contradiction
  · rename_i hnone _
    cases hnone.symm.trans hparts
  · rename_i hsome _
    obtain rfl := Option.some.inj (hsome.symm.trans hparts)
    exact if_pos hfits

theorem hallTimeRunsAtTheRate : HallTimeRunsAtTheRate := by
  refine fun s => ⟨fun hunset => ?_, fun parts hset hparts => ?_⟩
  · unfold State.advanceTime
    rw [advanceHall_unset hunset]
    rfl
  · dsimp only
    rw [hallStep_eq, Int.toNat_natCast]
    intro hfits
    unfold State.advanceTime
    rw [advanceHall_runs hset hparts hfits]
    rfl

/-- Settles O41, by what a setting, a mark and the two expiries do to the clock, and by the rate of the hall time. -/
theorem theClocksRunAndFollowTheirMarks : Obligations.TheClocksRunAndFollowTheirMarks :=
  ⟨theHallClockFollowsItsMarks, hallTimeRunsAtTheRate⟩

end Sys2Proof.Clocks
end

section
/-! SUPPORT. O42: the fault sources rise and fall by their reports (R161 to R166). -/

namespace Sys2Proof.Permit

open Sys2Proof Sys2Proof.Machine Sys2Proof.Safety Sys2Proof.Claims Sys2Proof.BottleTrack Sys2Proof.Track Sys2Proof.AxisMoves

variable {s t : State} {src : FaultSource} {x y : Source} {cause : PermitCause}

/-! ## What is in effect (R163) -/

theorem inEffectNow_iff (c : SourceSettings) (x : Source) (now : RunTime) : inEffectNow c x now = true
    ↔ c.enable = true ∧ ((c.mode = .latch ∧ x.latched = true)
      ∨ (c.mode = .live ∧ x.active = true ∧ ∃ t, x.since = some t ∧ t + c.extension * 100000 ≤ now)) := by
  unfold inEffectNow
  rw [Bool.and_eq_true]
  refine and_congr_right fun _ => ?_
  cases hmode : c.mode with
  | latch => simp
  | live =>
    cases hsince : x.since with
    | none => simp
    | some since =>
      simp only [Bool.and_eq_true, reduceCtorEq, false_and, true_and, false_or, Option.some.injEq, exists_eq_left']
      exact and_congr_right fun _ => decide_eq_true_iff

theorem eq_of_weighs {c : SourceSettings} {now : RunTime} (h : weighs c now x y) :
    y = { x with inEffect := inEffectNow c x now } := by
  obtain ⟨hfields, heffect⟩ := h
  rw [hfields, Bool.eq_iff_iff.mpr (heffect.trans (inEffectNow_iff c x now).symm)]

theorem inEffectNow_of_weighs {c : SourceSettings} {now : RunTime} {b : Bool} (h : weighs c now x { x with inEffect := b }) :
    inEffectNow c x now = b :=
  (Bool.eq_iff_iff.mpr (h.2.trans (inEffectNow_iff c x now).symm)).symm

theorem source_eq (s : State) (src : FaultSource) : s.source (sourceNo src) = fieldsOf s src := rfl

theorem setSource_eq (s : State) (src : FaultSource) (x : Source) : s.setSource (sourceNo src) x = withSource s src x := rfl

theorem withSource_withSource (s : State) (src : FaultSource) (x y : Source) :
    withSource (withSource s src x) src y = withSource s src y := by
  simp [withSource]

theorem fieldsOf_withSource (s : State) (src : FaultSource) (x : Source) : fieldsOf (withSource s src x) src = x := by
  simp [fieldsOf, withSource]

theorem weigh_eq (s : State) (src : FaultSource) : s.weigh (sourceNo src) = withSource s src { fieldsOf s src with
    inEffect := inEffectNow (configOf s src) (fieldsOf s src) s.tmu.now } := rfl

theorem weigh_setSource (h : weighs (configOf s src) s.tmu.now x y) :
    (s.setSource (sourceNo src) x).weigh (sourceNo src) = withSource s src y := by
  rw [setSource_eq, weigh_eq, withSource_withSource, fieldsOf_withSource, eq_of_weighs h]
  rfl

theorem postFault_withSource (s : State) (src : FaultSource) (y : Source) (how : Raise) : (withSource s src y).postFault src how
    = (withSource s src y).post (.fault src how (configOf s src).enable (configOf s src).mode (configOf s src).extension
      y.inEffect) := by
  unfold State.postFault
  dsimp only
  rw [source_eq, fieldsOf_withSource]
  rfl

/-! ## PERMIT follows the sources (R165) -/

theorem inEffectSet_getLsbD (p : Pml) (n : Fin 16) : (inEffectSet p).getLsbD n = p.sources[n].inEffect := by
  have hall : ∀ n : Fin 16, n ∈ sixteenNos := by decide
  unfold inEffectSet
  rw [Access.foldl_withMember_getLsbD _ _ n.isLt, Bool.eq_iff_iff]
  simp [hall, Fin.val_inj]

theorem settlePermit_of_settles (h : settles s src cause t) : s.settlePermit src cause = t := by
  unfold State.settlePermit
  dsimp only
  obtain ⟨hsettled, rfl⟩ | ⟨hchanged, inEffect, hset, rfl⟩ := h
  · exact if_pos (Bool.eq_iff_iff.mpr ((permitOf_iff _).trans hsettled.symm))
  · have hne : permitOf s.pml ≠ s.pml.permit := fun heq => hchanged (by rw [← heq, permitOf_iff])
    have hlevel : permitOf s.pml = !s.pml.permit := Bool.eq_not.mpr hne
    have hinEffect : inEffectSet s.pml = inEffect := BitVec.eq_of_getLsbD_eq fun i hi =>
      (inEffectSet_getLsbD s.pml ⟨i, hi⟩).trans (hset ⟨i, hi⟩).symm
    rw [if_neg hne, hlevel, hinEffect]
    rfl

/-! ## The reports -/

theorem extensionDue_iff (s : State) (src : FaultSource) : extensionDue s (sourceNo src) = true
    ↔ (configOf s src).enable = true ∧ (configOf s src).mode = .live ∧ (fieldsOf s src).inEffect = false
      ∧ inEffectNow (configOf s src) (fieldsOf s src) s.tmu.now = true := by
  simp only [extensionDue, Bool.and_eq_true, beq_iff_eq, Bool.not_eq_true', and_assoc]
  rfl

theorem activateSource_raises (hevent : ¬ src.isEvent = true) (hactive : (fieldsOf s src).active = false)
    (hy : weighs (configOf s src) s.tmu.now
      { fieldsOf s src with active := true, latched := true, since := some s.tmu.now } y) :
    s.activateSource src = ((withSource s src y).post (.fault src .activation (configOf s src).enable (configOf s src).mode
      (configOf s src).extension y.inEffect)).settlePermit src .activation := by
  unfold State.activateSource
  dsimp only
  rw [if_neg, source_eq]
  · rw [← postFault_withSource, ← weigh_setSource hy]
    rfl
  · rw [source_eq, hactive, Bool.or_false]
    exact hevent

theorem activateSource_same (h : src.isEvent = true ∨ (fieldsOf s src).active = true) : s.activateSource src = s := by
  unfold State.activateSource
  exact if_pos (Bool.or_eq_true _ _ ▸ h)

theorem deactivateSource_lowers (hactive : (fieldsOf s src).active = true)
    (hy : weighs (configOf s src) s.tmu.now { fieldsOf s src with active := false, since := none } y) :
    s.deactivateSource src = (withSource s src y).settlePermit src .deactivation := by
  unfold State.deactivateSource
  dsimp only
  rw [if_pos (by exact hactive), source_eq, ← weigh_setSource hy]

theorem deactivateSource_same (hactive : (fieldsOf s src).active = false) : s.deactivateSource src = s :=
  if_neg (Bool.eq_false_iff.mp hactive)

theorem latchSource_latches (hevent : src.isEvent = true)
    (hy : weighs (configOf s src) s.tmu.now { fieldsOf s src with latched := true } y) :
    s.latchSource src = ((withSource s src y).post (.fault src .latch (configOf s src).enable (configOf s src).mode
      (configOf s src).extension y.inEffect)).settlePermit src .latch := by
  unfold State.latchSource
  dsimp only
  rw [if_pos hevent, ← postFault_withSource, ← weigh_setSource hy]
  rfl

theorem latchSource_same (hevent : ¬ src.isEvent = true) : s.latchSource src = s := if_neg hevent

theorem exec_extensionExpiry_due (h : running s) (hdue : extensionDue s (sourceNo src) = true) :
    exec (.extensionExpiry src) s = .next ((withSource (s.received (.extensionExpiry src)) src
      { fieldsOf s src with inEffect := true }).settlePermit src .expiry) := by
  refine exec_taken h (execExtensionExpiry src) rfl rfl ((if_pos (by exact hdue)).trans ?_)
  obtain ⟨-, -, -, heffect⟩ := (extensionDue_iff s src).mp hdue
  rw [weigh_eq, show inEffectNow (configOf (s.received _) src) (fieldsOf (s.received _) src) (s.received _).tmu.now = true
    from heffect]
  rfl

/-- Settles O42: each report writes the fields of its source, weighs them and settles PERMIT. -/
theorem sourcesRiseAndFallByTheirReports : Obligations.SourcesRiseAndFallByTheirReports := by
  intro src s h
  dsimp only
  refine ⟨fun hraised => ?_, fun y t hevent hactive hy hsettles => ?_, fun hactive => ?_, fun y t hactive hy hsettles => ?_,
    fun hevent => ?_, fun y t hevent hy hsettles => ?_, fun t henable hmode heffect hy hsettles => ?_, fun hnot => ?_⟩
  · exact exec_taken h (execSourceActivation src) rfl rfl (activateSource_same hraised)
  · exact exec_taken h (execSourceActivation src) rfl rfl ((activateSource_raises (s := s.received _) hevent hactive hy).trans
      (settlePermit_of_settles hsettles))
  · exact exec_taken h (execSourceDeactivation src) rfl rfl (deactivateSource_same hactive)
  · exact exec_taken h (execSourceDeactivation src) rfl rfl ((deactivateSource_lowers (s := s.received _) hactive hy).trans
      (settlePermit_of_settles hsettles))
  · exact exec_taken h (execEventSourceLatch src) rfl rfl (latchSource_same hevent)
  · exact exec_taken h (execEventSourceLatch src) rfl rfl ((latchSource_latches (s := s.received _) hevent hy).trans
      (settlePermit_of_settles hsettles))
  · have hdue := (extensionDue_iff s src).mpr ⟨henable, hmode, heffect, inEffectNow_of_weighs hy⟩
    rw [exec_extensionExpiry_due h hdue, settlePermit_of_settles hsettles]
  · refine exec_taken h (execExtensionExpiry src) rfl rfl (if_neg fun hdue => ?_)
    obtain ⟨henable, hmode, heffect, hnow⟩ := (extensionDue_iff s src).mp hdue
    obtain hdisabled | hlatch | hin | hweighs := hnot
    · cases henable.symm.trans hdisabled
    · cases hmode.symm.trans hlatch
    · cases heffect.symm.trans hin
    · cases hnow.symm.trans (inEffectNow_of_weighs hweighs)

end Sys2Proof.Permit
end

section
/-! SUPPORT. O43: acknowledgements and the configuration of a source settle PERMIT (R167, R168). -/

namespace Sys2Proof.Permit

open Sys2Proof Sys2Proof.Machine Sys2Proof.Safety Sys2Proof.Claims Sys2Proof.BottleTrack Sys2Proof.Track Sys2Proof.AxisMoves
  Sys2Proof.Recipes

variable {s t : State} {src : FaultSource} {x y : Source} {sources : List Nat} {members : List (Fin 16)} {n : Fin 16}

theorem sourceOfNo_sourceNo (src : FaultSource) : sourceOfNo (sourceNo src) = src := by
  cases src <;> rfl

/-! ## Acknowledgements -/

theorem ackListOk_iff : ackListOk sources = true
    ↔ sources ≠ [] ∧ sources.length ≤ 16 ∧ (∀ n ∈ sources, n < 16) ∧ sources.Nodup := by
  simp [ackListOk, and_assoc]

theorem ackMembers_eq (hsorted : members.Pairwise fun m n => m < n) (hmembers : ∀ n : Fin 16, n ∈ members ↔ n.val ∈ sources) :
    ackMembers sources = members := by
  have hall : ∀ n : Fin 16, n ∈ sixteenNos := by decide
  have hfilter : (ackMembers sources).Pairwise fun m n => m < n :=
    List.Pairwise.filter _ (by decide : sixteenNos.Pairwise fun m n => m < n)
  have hmem : ∀ n, n ∈ ackMembers sources ↔ n ∈ members := fun n => by
    simp [ackMembers, hall, hmembers]
  exact hfilter.eq_of_mem_iff hsorted hmem

theorem find_of_sorted {p : Fin 16 → Bool} (hsorted : members.Pairwise fun m n => m < n) (hn : n ∈ members) (hp : p n = true)
    (hbefore : ∀ m ∈ members, m < n → p m = false) : members.find? p = some n := by
  cases hfind : members.find? p with
  | none => exact absurd hp (List.find?_eq_none.mp hfind n hn)
  | some m =>
    obtain ⟨hm, before, after, rfl, hnot⟩ := List.find?_eq_some_iff_append.mp hfind
    obtain ⟨-, hafter, -⟩ := List.pairwise_append.mp hsorted
    obtain hn | hn := List.mem_append.mp hn
    · have hfalse := hnot n hn
      rw [hp] at hfalse
      cases hfalse
    · obtain rfl | hn := List.mem_cons.mp hn
      · rfl
      · have hlt := (List.pairwise_cons.mp hafter).1 n hn
        exact absurd hm (by simp [hbefore m (by simp) hlt])

theorem clearable_iff : (!(s.source n).active && (s.source n).latched) = true ↔ clearable s n := by
  rw [Bool.and_eq_true, Bool.not_eq_true']
  rfl

theorem ackChanged_none (h : ∀ n ∈ members, ¬ clearable s n) : ackChanged s members = none := by
  unfold ackChanged
  rw [List.find?_eq_none]
  exact fun n hn hclearable => h n hn (clearable_iff.mp hclearable)

theorem ackChanged_some (hsorted : members.Pairwise fun m n => m < n) (hn : n ∈ members) (hclearable : clearable s n)
    (hbefore : ∀ m ∈ members, m < n → ¬ clearable s m) : ackChanged s members = some n :=
  find_of_sorted hsorted hn (clearable_iff.mpr hclearable)
    fun m hm hlt => Bool.eq_false_iff.mpr fun h => hbefore m hm hlt (clearable_iff.mp h)

theorem ackMember_active (h : (fieldsOf s src).active = true) : ackMember (sourceNo src) s = (s, .refused .state) :=
  if_pos h

theorem ackMember_clear (hactive : (fieldsOf s src).active = false) (hlatched : (fieldsOf s src).latched = false) :
    ackMember (sourceNo src) s = (s, .ok) := by
  unfold ackMember
  dsimp only
  rw [source_eq, hactive, hlatched]
  rfl

theorem ackMember_latched (hactive : (fieldsOf s src).active = false) (hlatched : (fieldsOf s src).latched = true)
    (hy : weighs (configOf s src) s.tmu.now { fieldsOf s src with latched := false } y) :
    ackMember (sourceNo src) s = (withSource s src y, .ok) := by
  unfold ackMember
  dsimp only
  rw [source_eq, if_neg (Bool.eq_false_iff.mp hactive), if_pos hlatched, weigh_setSource hy]

/-- PERMIT is settled by the first source the acknowledgement changed. -/
def answerAck (members : List (Fin 16)) (r : State × List Byte) (s : State) : State :=
  match ackChanged s members with
  | some n => (r.1.settlePermit (sourceOfNo n) .ack).replyOk r.2
  | none => r.1.replyOk r.2

theorem answerAck_none {r : State × List Byte} (h : ackChanged s members = none) : answerAck members r s = r.1.replyOk r.2 := by
  unfold answerAck
  rw [h]

theorem answerAck_some {r : State × List Byte} (h : ackChanged s members = some n) :
    answerAck members r s = (r.1.settlePermit (sourceOfNo n) .ack).replyOk r.2 := by
  unfold answerAck
  rw [h]

theorem exec_faultAck_fits (h : running s) (hlevel : 1 ≤ s.acu.level) (hfits : sources ≠ [] ∧ sources.length ≤ 16
    ∧ (∀ n ∈ sources, n < 16) ∧ sources.Nodup) (hsorted : members.Pairwise fun m n => m < n)
    (hmembers : ∀ n : Fin 16, n ∈ members ↔ n.val ∈ sources) :
    exec (.faultAck sources) s = .next (answerAck members (inTurn (plain ackMember) members (s.received (.faultAck sources)))
      (s.received (.faultAck sources))) := by
  refine exec_taken h (execFaultAck sources) rfl rfl ((withLevel_reached (by exact hlevel) _).trans
    ((require_met (ackListOk_iff.mpr hfits) _ _).trans ?_))
  dsimp only
  rw [ackMembers_eq hsorted hmembers, runMembers_eq]
  rfl

/-! ## The configuration of a source -/

theorem latchModeOf_some {mode : Nat} (h : mode ≤ 1) : latchModeOf mode = some (if mode = 0 then .live else .latch) := by
  obtain rfl | rfl := Nat.le_one_iff_eq_zero_or_eq_one.mp h <;> rfl

theorem latchModeOf_none {mode : Nat} (h : 2 ≤ mode) : latchModeOf mode = none := by
  obtain ⟨m, rfl⟩ := Nat.exists_eq_add_of_le' h
  rfl

theorem isForced_iff : isForced src = true ↔ src = .restarted ∨ src = .rejectFailed ∨ src = .storeFailed := by
  cases src <;> decide

/-- The event sources that may be configured. -/
theorem isEvent_of_not_forced (h : isForced src = false) : src.isEvent = true ↔ src = .watchStop ∨ src = .switchQueue := by
  cases src <;> simp_all [isForced, FaultSource.isEvent]

theorem configureSource_of_settles {config : SourceSettings} (hy : weighs config s.tmu.now (fieldsOf s src) y)
    (hsettles : settles (withSource (withSettings s { s.cfg with sources := s.cfg.sources.set (sourceNo src) config }) src y)
      src .config t) :
    s.configureSource (sourceNo src) config = t ∧ (t.source (sourceNo src)).inEffect = y.inEffect := by
  have hweigh : (s.configure { s.cfg with sources := s.cfg.sources.set (sourceNo src) config }).weigh (sourceNo src)
      = withSource (withSettings s { s.cfg with sources := s.cfg.sources.set (sourceNo src) config }) src y := by
    rw [weigh_eq, configure_eq_withSettings, eq_of_weighs hy]
    simp [configOf, withSettings]
    rfl
  have ht : s.configureSource (sourceNo src) config = t := by
    unfold State.configureSource
    rw [hweigh, sourceOfNo_sourceNo, settlePermit_of_settles hsettles]
  refine ⟨ht, ?_⟩
  rw [← settlePermit_of_settles hsettles, State.source, settlePermit_sources]
  exact congrArg Source.inEffect (fieldsOf_withSource _ src y)

/-- A configuration whose operands fit, of the source it names. -/
def configChecked (src : FaultSource) (config : SourceSettings) (s : State) : State :=
  s.require (!isForced src) .state fun s => s.require (!(src.isEvent && config.mode == .live)) .badValue fun s =>
    (s.configureSource (sourceNo src) config).replyOk
      (yesNo ((s.configureSource (sourceNo src) config).source (sourceNo src)).inEffect)

theorem configChecked_forced {config : SourceSettings} (h : isForced src = true) :
    configChecked src config s = s.refuse .state :=
  require_failed (congrArg Bool.not h) _ _

theorem exec_permitConfig_fits {enable mode extension : Nat} (h : running s) (hlevel : 2 ≤ s.acu.level) (henable : enable ≤ 1)
    (hmode : mode ≤ 1) (hextension : extension ≤ 600) :
    let c := Instr.permitConfig (sourceNo src) enable mode extension
    exec c s = .next (configChecked src ⟨decide (enable = 1), if mode = 0 then .live else .latch, extension⟩
      (s.received c)) := by
  refine exec_taken h (execPermitConfig (sourceNo src) enable mode extension) rfl rfl
    ((withLevel_reached (by exact hlevel) _).trans ((requireSome_met (finOf_some (sourceNo src).isLt) _ _).trans
      ((requireSome_met (Access.yesNoOf_some henable) _ _).trans ((requireSome_met (latchModeOf_some hmode) _ _).trans
        ((require_met (decide_eq_true hextension) _ _).trans ?_)))))
  simp only [Fin.eta, sourceOfNo_sourceNo]
  rfl

theorem exec_permitConfig_unfit {n enable mode extension : Nat} (h : running s) (hlevel : 2 ≤ s.acu.level)
    (hbad : ¬ (n < 16 ∧ enable ≤ 1 ∧ mode ≤ 1 ∧ extension ≤ 600)) :
    let c := Instr.permitConfig n enable mode extension
    exec c s = .next ((s.received c).refuse .badValue) := by
  refine exec_taken h (execPermitConfig n enable mode extension) rfl rfl ((withLevel_reached (by exact hlevel) _).trans ?_)
  by_cases hn : n < 16
  · rw [requireSome_met (finOf_some hn)]
    by_cases henable : enable ≤ 1
    · rw [requireSome_met (Access.yesNoOf_some henable)]
      by_cases hmode : mode ≤ 1
      · rw [requireSome_met (latchModeOf_some hmode)]
        exact require_failed (decide_eq_false fun hextension => hbad ⟨hn, henable, hmode, hextension⟩) _ _
      · rw [requireSome_failed (latchModeOf_none (by omega))]
    · rw [requireSome_failed (yesNoOf_none (by omega))]
  · rw [requireSome_failed (finOf_none (Nat.not_lt.mp hn))]

/-- Settles O43: an acknowledgement clears its members in turn, a configuration weighs its source anew. -/
theorem acknowledgementsAndConfigurationSettlePermit : Obligations.AcknowledgementsAndConfigurationSettlePermit := by
  refine ⟨fun sources s h => ⟨fun hlow => ?_, fun hlevel hbad => ?_, fun members hlevel hfits hsorted hmembers =>
      ⟨fun hnone => ?_, fun n u hn hclearable hbefore hsettles => ?_⟩⟩,
    fun src s => ⟨ackMember_active, ackMember_clear, fun y => ackMember_latched⟩,
    fun n enable mode extension s h => ⟨fun hlow => ?_, fun hlevel hbad => exec_permitConfig_unfit h hlevel hbad,
      fun src hsrc hlevel hfits => ?_⟩⟩
  · exact exec_taken h (execFaultAck sources) rfl rfl (withLevel_below (by exact Nat.lt_one_iff.mpr hlow) _)
  · exact exec_taken h (execFaultAck sources) rfl rfl ((withLevel_reached (by exact hlevel) _).trans
      (require_failed (Bool.eq_false_iff.mpr fun hok => hbad (ackListOk_iff.mp hok)) _ _))
  · rw [exec_faultAck_fits h hlevel hfits hsorted hmembers]
    exact congrArg _ (answerAck_none (ackChanged_none (s := s.received _) hnone))
  · rw [exec_faultAck_fits h hlevel hfits hsorted hmembers]
    refine congrArg _ ((answerAck_some (ackChanged_some (s := s.received _) hsorted hn hclearable hbefore)).trans ?_)
    rw [settlePermit_of_settles hsettles]
  · exact exec_taken h (execPermitConfig n enable mode extension) rfl rfl (withLevel_below (by exact hlow) _)
  · subst hsrc
    obtain ⟨-, henable, hmode, hextension⟩ := hfits
    dsimp only
    rw [exec_permitConfig_fits h hlevel henable hmode hextension]
    refine ⟨fun hforced => congrArg _ (configChecked_forced (isForced_iff.mpr hforced)), fun hevent hzero => congrArg _ ?_,
      fun y t hfree hlatch hy hsettles => congrArg _ ?_⟩
    · have hfree : isForced src = false := by
        obtain rfl | rfl := hevent <;> rfl
      refine (require_met (congrArg Bool.not hfree) _ _).trans (require_failed ?_ _ _)
      rw [(isEvent_of_not_forced hfree).mpr hevent, if_pos hzero]
      rfl
    · have hfree : isForced src = false := Bool.eq_false_iff.mpr fun hforced => hfree (isForced_iff.mp hforced)
      obtain ⟨ht, heffect⟩ := configureSource_of_settles (s := s.received _) hy hsettles
      refine (require_met (congrArg Bool.not hfree) _ _).trans ((require_met ?_ _ _).trans ?_)
      · rw [Bool.not_eq_true', Bool.and_eq_false_iff, ← Bool.not_eq_true, isEvent_of_not_forced hfree,
          or_iff_not_imp_left, not_not]
        intro hevent
        rw [if_neg fun hzero => hlatch ⟨hevent, hzero⟩]
        rfl
      · rw [ht, heffect, Cabinet.yesNo_eq]

end Sys2Proof.Permit
end

section
/-! SUPPORT. What the bytes of a field say: numbers, signed numbers and lists of fields are read back as they were
written, and a read list of fields was written so (R184). -/

namespace Sys2Proof.Wire

open Sys2Proof Sys2Proof.Machine Sys2Proof.Safety Sys2Proof.Claims

variable {w n : Nat} {bytes p : List Byte} {ws values : List Nat} {xs : List Int} {i : Int}

/-! ## A number -/

theorem foldl_eq_ofBe (bytes : List Byte) (a : Nat) :
    bytes.foldl (fun n b => n * 256 + b.toNat) a = a * 256 ^ bytes.length + ofBe bytes := by
  induction bytes generalizing a with
  | nil => simp [ofBe]
  | cons b bytes ih =>
    have htail : ofBe (b :: bytes) = (0 * 256 + b.toNat) * 256 ^ bytes.length + ofBe bytes := ih _
    rw [List.foldl_cons, ih, htail, List.length_cons, Nat.pow_succ]
    ring

theorem ofBe_nil : ofBe [] = 0 := rfl

theorem ofBe_cons (b : Byte) (bytes : List Byte) : ofBe (b :: bytes) = b.toNat * 256 ^ bytes.length + ofBe bytes := by
  calc ofBe (b :: bytes) = bytes.foldl (fun n b => n * 256 + b.toNat) (0 * 256 + b.toNat) := rfl
    _ = b.toNat * 256 ^ bytes.length + ofBe bytes := by rw [foldl_eq_ofBe, Nat.zero_mul, Nat.zero_add]

theorem ofBe_lt (bytes : List Byte) : ofBe bytes < 256 ^ bytes.length := by
  induction bytes with
  | nil => simp [ofBe]
  | cons b bytes ih =>
    have hb : b.toNat + 1 ≤ 256 := b.isLt
    calc ofBe (b :: bytes) = b.toNat * 256 ^ bytes.length + ofBe bytes := ofBe_cons b bytes
      _ < (b.toNat + 1) * 256 ^ bytes.length := by linarith
      _ ≤ 256 * 256 ^ bytes.length := Nat.mul_le_mul_right _ hb
      _ = 256 ^ (b :: bytes).length := by rw [List.length_cons, Nat.pow_succ]; ring

theorem ofBe_be (w n : Nat) : ofBe (be w n) = n % 256 ^ w := by
  induction w with
  | zero => simp [be, ofBe, Nat.mod_one]
  | succ w ih =>
    rw [be, ofBe_cons, ih, be_length, BitVec.toNat_ofNat, show 2 ^ 8 = 256 from rfl,
      Nat.mod_pow_succ (k := w), Nat.mul_comm, Nat.add_comm]

theorem ofBe_be_of_lt (h : n < 256 ^ w) : ofBe (be w n) = n := by
  rw [ofBe_be, Nat.mod_eq_of_lt h]

theorem ofBe_injective {l m : List Byte} (hlen : l.length = m.length) (h : ofBe l = ofBe m) : l = m := by
  induction l generalizing m with
  | nil => exact (List.length_eq_zero_iff.1 hlen.symm).symm
  | cons b l ih =>
    match m, hlen with
    | c :: m, hlen =>
      have hrest : l.length = m.length := Nat.succ.inj hlen
      rw [ofBe_cons, ofBe_cons, hrest] at h
      have hpos : 0 < 256 ^ m.length := Nat.pow_pos (by decide)
      have hparts (d : Byte) (k : Nat) (hk : k < 256 ^ m.length) : (d.toNat * 256 ^ m.length + k) / 256 ^ m.length = d.toNat
          ∧ (d.toNat * 256 ^ m.length + k) % 256 ^ m.length = k :=
        (Nat.div_mod_unique hpos).2 ⟨by ring, hk⟩
      obtain ⟨hdivl, hmodl⟩ := hparts b (ofBe l) (hrest ▸ ofBe_lt l)
      obtain ⟨hdivm, hmodm⟩ := hparts c (ofBe m) (ofBe_lt m)
      have hfirst : b = c := BitVec.eq_of_toNat_eq (by rw [← hdivl, ← hdivm, h])
      rw [hfirst, ih hrest (by rw [← hmodl, ← hmodm, h])]

theorem be_ofBe (bytes : List Byte) : be bytes.length (ofBe bytes) = bytes :=
  ofBe_injective (be_length _ _) (ofBe_be_of_lt (ofBe_lt bytes))

theorem be_ofBe_of_length (h : bytes.length = w) : be w (ofBe bytes) = bytes := h ▸ be_ofBe bytes

/-! ## A signed number -/

theorem ofBeSigned_bounds (bytes : List Byte) :
    -((256 ^ bytes.length : Nat) : Int) ≤ 2 * ofBeSigned bytes ∧ 2 * ofBeSigned bytes < ((256 ^ bytes.length : Nat) : Int) := by
  have hlt := ofBe_lt bytes
  rw [ofBeSigned]
  split <;> omega

theorem ofBeSigned_beSigned (hlow : -((256 ^ w : Nat) : Int) ≤ 2 * i) (hhigh : 2 * i < ((256 ^ w : Nat) : Int)) :
    ofBeSigned (beSigned w i) = i := by
  have hpos : 0 < 256 ^ w := Nat.pow_pos (by decide)
  have hn : ofBe (beSigned w i) = (i % (256 ^ w : Nat)).toNat := by
    refine ofBe_be_of_lt ?_
    have := Int.emod_lt_of_pos i (Int.natCast_pos.2 hpos)
    omega
  rw [ofBeSigned, hn, beSigned_length]
  generalize 256 ^ w = m at hlow hhigh hpos
  rcases Int.lt_or_le i 0 with hneg | hnat
  · have : i % (m : Int) = i + m := by
      rw [← Int.add_emod_right, Int.emod_eq_of_lt (by omega) (by omega)]
    rw [this, if_neg (by omega)]
    omega
  · rw [Int.emod_eq_of_lt hnat (by omega), if_pos (by omega)]
    omega

theorem beSigned_ofBeSigned (bytes : List Byte) : beSigned bytes.length (ofBeSigned bytes) = bytes := by
  have hlt := ofBe_lt bytes
  have hn : (ofBeSigned bytes % (256 ^ bytes.length : Nat)).toNat = ofBe bytes := by
    rw [ofBeSigned]
    generalize 256 ^ bytes.length = m at hlt
    split
    · rw [Int.emod_eq_of_lt (by omega) (by omega)]
      omega
    · rw [← Int.add_emod_right, Int.emod_eq_of_lt (by omega) (by omega)]
      omega
  rw [beSigned, hn, be_ofBe]

/-! ## Fields one after the other -/

theorem fields_cons_append (h : bytes.length = w) :
    fields (w :: ws) (bytes ++ p) = (fields ws p).map (ofBe bytes :: ·) := by
  subst h
  simp [fields]

theorem fieldBytes_cons (f : Nat × Nat) (fs : List (Nat × Nat)) : fieldBytes (f :: fs) = be f.1 f.2 ++ fieldBytes fs := rfl

theorem fields_fieldBytes (hlen : values.length = ws.length) (hfit : ∀ f ∈ ws.zip values, f.2 < 256 ^ f.1) :
    fields ws (fieldBytes (ws.zip values)) = some values := by
  induction ws generalizing values with
  | nil => rw [List.length_eq_zero_iff.1 hlen]; rfl
  | cons w ws ih =>
    match values, hlen with
    | v :: values, hlen =>
      rw [List.zip_cons_cons] at hfit ⊢
      obtain ⟨hv, hrest⟩ := List.forall_mem_cons.1 hfit
      rw [fieldBytes_cons, fields_cons_append (be_length w v), ih (Nat.succ.inj hlen) hrest, ofBe_be_of_lt hv]
      rfl

theorem fields_isSome_iff : (fields ws p).isSome = true ↔ p.length = ws.sum := by
  induction ws generalizing p with
  | nil => cases p <;> simp [fields]
  | cons w ws ih =>
    rw [fields, List.sum_cons]
    split
    next h => rw [Option.isSome_map, ih, List.length_drop]; omega
    next h => simp; omega

theorem fields_eq_none_iff : fields ws p = none ↔ p.length ≠ ws.sum := by
  rw [← Option.not_isSome_iff_eq_none, fields_isSome_iff]

/-- What was read as fields was written so, each value within its width. -/
theorem of_fields (h : fields ws p = some values) : values.length = ws.length
    ∧ (∀ f ∈ ws.zip values, f.2 < 256 ^ f.1) ∧ p = fieldBytes (ws.zip values) := by
  induction ws generalizing p values with
  | nil =>
    cases p with
    | nil => cases h; exact ⟨rfl, by simp, rfl⟩
    | cons b p => exact absurd h (by simp [fields])
  | cons w ws ih =>
    rw [fields] at h
    split at h
    next hw =>
      obtain ⟨rest, hrest, rfl⟩ := Option.map_eq_some_iff.1 h
      obtain ⟨hlen, hfit, hp⟩ := ih hrest
      have htake : (p.take w).length = w := by rw [List.length_take]; omega
      refine ⟨by simp [hlen], ?_, ?_⟩
      · rw [List.zip_cons_cons]
        exact List.forall_mem_cons.2 ⟨by have := ofBe_lt (p.take w); rwa [htake] at this, hfit⟩
      · rw [List.zip_cons_cons, fieldBytes_cons, ← hp, be_ofBe_of_length htake, List.take_append_drop]
    next => exact absurd h (by simp)

/-! ## Signed fields of one width -/

theorem signedFields_succ_append (h : bytes.length = w) :
    signedFields w (n + 1) (bytes ++ p) = (signedFields w n p).map (ofBeSigned bytes :: ·) := by
  subst h
  simp [signedFields]

theorem signedFields_flatMap
    (hfit : ∀ x ∈ xs, -((256 ^ w : Nat) : Int) ≤ 2 * x ∧ 2 * x < ((256 ^ w : Nat) : Int)) :
    signedFields w xs.length (xs.flatMap (beSigned w)) = some xs := by
  induction xs with
  | nil => rfl
  | cons x xs ih =>
    obtain ⟨⟨hlow, hhigh⟩, hrest⟩ := List.forall_mem_cons.1 hfit
    rw [List.flatMap_cons, List.length_cons, signedFields_succ_append (beSigned_length w x), ih hrest,
      ofBeSigned_beSigned hlow hhigh]
    rfl

/-- What was read as signed fields was written so. -/
theorem of_signedFields (h : signedFields w n p = some xs) : xs.length = n
    ∧ (∀ x ∈ xs, -((256 ^ w : Nat) : Int) ≤ 2 * x ∧ 2 * x < ((256 ^ w : Nat) : Int))
    ∧ p = xs.flatMap (beSigned w) := by
  induction n generalizing p xs with
  | zero =>
    cases p with
    | nil => cases h; exact ⟨rfl, by simp, rfl⟩
    | cons b p => exact absurd h (by simp [signedFields])
  | succ n ih =>
    rw [signedFields] at h
    split at h
    next hw =>
      obtain ⟨rest, hrest, rfl⟩ := Option.map_eq_some_iff.1 h
      obtain ⟨hlen, hfit, hp⟩ := ih hrest
      have htake : (p.take w).length = w := by rw [List.length_take]; omega
      have hbounds := ofBeSigned_bounds (p.take w)
      have hfirst := beSigned_ofBeSigned (p.take w)
      rw [htake] at hbounds hfirst
      refine ⟨by simp [hlen], List.forall_mem_cons.2 ⟨hbounds, hfit⟩, ?_⟩
      rw [List.flatMap_cons, ← hp, hfirst, List.take_append_drop]
    next => exact absurd h (by simp)

/-! ## Frames -/

theorem of_frameBytes {cls tag message : Byte} {payload : List Byte} (h : frameBytes cls tag message payload = some bytes) :
    payload.length ≤ 240 ∧ bytes = 0xA5#8 :: (BitVec.ofNat 8 payload.length :: cls :: tag :: message :: payload
      ++ be 2 (crc16 (BitVec.ofNat 8 payload.length :: cls :: tag :: message :: payload)).toNat) := by
  rw [frameBytes] at h
  split at h
  next hlen => exact ⟨hlen, (Option.some.inj h).symm⟩
  next => exact absurd h (by simp)

theorem frameParts_of_sent {cls tag message : Byte} {payload check : List Byte} (hlen : payload.length ≤ 240)
    (hcheck : check.length = 2) :
    frameParts (BitVec.ofNat 8 payload.length :: cls :: tag :: message :: (payload ++ check))
      = some ⟨cls, tag, message, payload, ofBe check
        == (crc16 (BitVec.ofNat 8 payload.length :: cls :: tag :: message :: payload)).toNat⟩ := by
  have hn : (BitVec.ofNat 8 payload.length).toNat = payload.length := by
    rw [BitVec.toNat_ofNat]; omega
  simp [frameParts, hn, hlen, hcheck]

theorem framesSentReadBackWhole : FramesSentReadBackWhole := by
  intro cls tag message payload bytes h
  obtain ⟨hlen, rfl⟩ := of_frameBytes h
  have hread (c : BitVec 16) : ofBe (be 2 c.toNat) = c.toNat := ofBe_be_of_lt c.isLt
  refine ⟨hlen, by simp, rfl, ?_⟩
  refine (frameParts_of_sent hlen (be_length _ _)).trans ?_
  rw [hread, beq_self_eq_true]

theorem reasonByte_eq (r : Option Reason) : [reasonByte r] = byte ((r.map reasonCode).getD 0) := by
  cases r with
  | none => rfl
  | some r => cases r <;> rfl

theorem statusByte_eq (r : Status) : [statusByte r] = byte (statusCode r) := by
  cases r <;> rfl

theorem repliesCarryTheirHead : RepliesCarryTheirHead := by
  intro r
  have hdrops : byte (if r.drops = 0 then 0 else 1) = [if r.drops = 0 then 0x00 else 0x01] := by
    split <;> rfl
  rw [replyFrame, replyPayload, ← reasonByte_eq, ← statusByte_eq, hdrops]
  rfl

end Sys2Proof.Wire
end

section
/-! SUPPORT. O44, O45: frames taken or counted, requests taken one at a time, the reply an outcome makes (R170–R178). -/

namespace Sys2Proof.Wire

open Sys2Proof Sys2Proof.Machine Sys2Proof.Safety Sys2Proof.Claims Sys2Proof.BottleTrack Sys2Proof.Track Sys2Proof.AxisMoves

variable {s t : State} {c : Instr} {bytes : List Byte} {f : FrameParts} {r : InHand}

theorem countLink_eq (s : State) (k : LinkCounter) : s.countLink k = withLnk s (lnkCounted s.lnk (linkCounterIx k)) := rfl

/-! ## Frames -/

theorem exec_syncFound_hunting (h : running s) (hr : s.lnk.receive = .hunting) :
    exec .syncFound s = .next (withLnk (s.received .syncFound) { s.lnk with receive := .inFrame }) := by
  refine exec_taken h execSyncFound rfl rfl ?_
  rw [show (s.received _).lnk.receive = _ from hr]
  rfl

theorem exec_syncFound_inFrame (h : running s) (hr : s.lnk.receive = .inFrame) :
    exec .syncFound s = .next (s.received .syncFound) := by
  refine exec_taken h execSyncFound rfl rfl ?_
  rw [show (s.received _).lnk.receive = _ from hr]

theorem abandonFrame_inFrame (hr : s.lnk.receive = .inFrame) :
    s.abandonFrame = withLnk s { lnkCounted s.lnk 0 with receive := .hunting } := by
  rw [State.abandonFrame, hr]
  rfl

theorem abandonFrame_hunting (hr : s.lnk.receive = .hunting) : s.abandonFrame = s := by
  rw [State.abandonFrame, hr]

theorem exec_requestFrame_hunting (h : running s) (hr : s.lnk.receive = .hunting) :
    exec (.requestFrame bytes) s = .next (s.received (.requestFrame bytes)) := by
  refine exec_taken h (execRequestFrame bytes) rfl rfl ?_
  rw [show (s.received _).lnk.receive = _ from hr]

theorem exec_requestFrame_unread (h : running s) (hf : frameParts bytes = none) :
    exec (.requestFrame bytes) s = .next (s.received (.requestFrame bytes)) := by
  refine exec_taken h (execRequestFrame bytes) rfl rfl ?_
  rw [hf]
  cases (s.received (Instr.requestFrame bytes)).lnk.receive <;> rfl

theorem exec_requestFrame_read (h : running s) (hr : s.lnk.receive = .inFrame) (hf : frameParts bytes = some f)
    (ht : (s.received (.requestFrame bytes)).takeFrame f = t) : exec (.requestFrame bytes) s = .next t.hunt := by
  refine exec_taken h (execRequestFrame bytes) rfl rfl ?_
  rw [show (s.received _).lnk.receive = _ from hr, hf, ← ht]

theorem takeFrame_badCheck (hf : f.checkPasses = false) : s.takeFrame f = withLnk s (lnkCounted s.lnk 1) := by
  rw [State.takeFrame, hf]
  rfl

theorem takeFrame_badClass (hf : f.checkPasses = true) (hcls : f.cls ≠ 0x01#8) :
    s.takeFrame f = withLnk s (lnkCounted s.lnk 2) := by
  rw [State.takeFrame, hf]
  exact if_pos hcls

theorem takeFrame_request (hf : f.checkPasses = true) (hcls : f.cls = 0x01#8) :
    s.takeFrame f = s.offer ⟨f.tag, f.message, f.payload⟩ := by
  rw [State.takeFrame, hf]
  exact if_neg (not_not.2 hcls)

theorem offer_room (q : RequestFrame) (h : s.lnk.queue.length < 4) :
    s.offer q = withLnk s { s.lnk with queue := s.lnk.queue ++ [q] } := if_pos h

theorem offer_full (q : RequestFrame) (h : 4 ≤ s.lnk.queue.length) :
    s.offer q = withLnk s { lnkCounted s.lnk 3 with drops := min (s.lnk.drops + 1) 255 } := if_neg (not_lt.2 h)

theorem framesAreTakenOrCounted : FramesAreTakenOrCounted := by
  intro s h
  refine ⟨exec_syncFound_hunting h, exec_syncFound_inFrame h, fun n hr hn => ?_, fun n hn => ?_, fun hr => ?_,
    fun hr => ⟨?_, fun bytes => exec_requestFrame_hunting h hr⟩,
    fun bytes hr => ⟨exec_requestFrame_unread h, fun f hf => ⟨fun hbad => ?_, fun hok hcls => ?_, fun hok hcls hroom => ?_,
      fun hok hcls hfull => ?_⟩⟩⟩
  · exact exec_taken h (execFrameAbandonedForLength n) rfl rfl
      ((if_pos hn).trans (abandonFrame_inFrame (s := s.received _) hr))
  · refine exec_taken h (execFrameAbandonedForLength n) rfl rfl ?_
    rcases hn with hr | hn
    · rw [abandonFrame_hunting (s := s.received _) hr, ite_self]
    · exact if_neg (by omega)
  · exact exec_taken h execFrameGapTimeout rfl rfl (abandonFrame_inFrame (s := s.received _) hr)
  · exact exec_taken h execFrameGapTimeout rfl rfl (abandonFrame_hunting (s := s.received _) hr)
  · exact exec_requestFrame_read h hr hf (takeFrame_badCheck hbad)
  · exact exec_requestFrame_read h hr hf (takeFrame_badClass hok hcls)
  · exact exec_requestFrame_read h hr hf ((takeFrame_request hok hcls).trans
      (offer_room (s := s.received _) _ hroom))
  · exact exec_requestFrame_read h hr hf ((takeFrame_request hok hcls).trans
      (offer_full (s := s.received _) _ hfull))

/-! ## Replies -/

theorem answer_awaited (h : awaits s r) (a : Answer) : s.answer a = withLnk s { s.lnk with
    outcome := some a, drops := 0, reply := some ⟨decide (r.message = 0xA1#8), r.tag, r.message, a, s.lnk.drops⟩ } := by
  obtain ⟨hhand, hreply⟩ := h
  have hcode : (r.message == fetchNoticesCode) = decide (r.message = 0xA1#8) := rfl
  simp only [State.answer, hhand, hreply, hcode]
  rfl

theorem answer_unawaited (h : ∀ r, ¬ awaits s r) (a : Answer) :
    s.answer a = withLnk s { s.lnk with outcome := some a } := by
  rw [State.answer]
  split
  next r hhand hreply => exact absurd ⟨hhand, hreply⟩ (h r)
  next => rfl

theorem exec_replySent_none (h : running s) (hr : s.lnk.reply = none) :
    exec .replySent s = .next (s.received .replySent) := by
  refine exec_taken h execReplySent rfl rfl ?_
  rw [show (s.received _).lnk.reply = _ from hr]

theorem exec_replySent_sent (h : running s) (hsoft : s.lnk.softReset = false) (hr : s.lnk.reply ≠ none) :
    exec .replySent s
      = .next (withLnk (s.received .replySent) { lnkCounted s.lnk 5 with inHand := none, reply := none }) := by
  obtain ⟨reply, hr⟩ := Option.ne_none_iff_exists'.1 hr
  refine exec_taken h execReplySent rfl rfl ?_
  rw [show (s.received _).lnk.reply = _ from hr, show (s.received _).lnk.softReset = _ from hsoft]
  rfl

theorem outcomesMakeTheReply : OutcomesMakeTheReply :=
  ⟨fun _ _ _ => ⟨fun _ h => ⟨answer_awaited h _, answer_awaited h _, answer_awaited h _⟩,
      fun h => ⟨answer_unawaited h _, answer_unawaited h _, answer_unawaited h _⟩⟩,
    fun _ h hsoft => ⟨exec_replySent_none h, exec_replySent_sent h hsoft⟩⟩

/-! ## Requests taken -/

theorem exec_requestTaken_waits (h : running s) (hwait : s.lnk.inHand ≠ none ∨ s.lnk.queue = []) :
    exec .requestTaken s = .next (s.received .requestTaken) := by
  refine exec_taken h execRequestTaken rfl rfl ?_
  split
  next f rest hhand hqueue =>
    exact absurd hwait (not_or.2 ⟨not_not.2 hhand, fun hnil => List.cons_ne_nil _ _ (hqueue.symm.trans hnil)⟩)
  next => rfl

theorem exec_requestTaken_takes {f : RequestFrame} {rest : List RequestFrame} (h : running s) (hhand : s.lnk.inHand = none)
    (hqueue : s.lnk.queue = f :: rest) :
    exec .requestTaken s = .next (((s.received .requestTaken).takeInHand f rest).handRequest f) := by
  refine exec_taken h execRequestTaken rfl rfl ?_
  rw [show (s.received _).lnk.inHand = _ from hhand, show (s.received _).lnk.queue = _ from hqueue]

theorem handRequest_unknown {q : RequestFrame} (h : parseRequest q.message q.payload = .unknownMessage) :
    s.handRequest q = s.refuse .unknownMessage := by
  rw [State.handRequest, h]

theorem handRequest_badLength {q : RequestFrame} (h : parseRequest q.message q.payload = .badLength) :
    s.handRequest q = s.refuse .badLength := by
  rw [State.handRequest, h]

theorem handRequest_request {q : RequestFrame} (h : parseRequest q.message q.payload = .request c) :
    s.handRequest q = sending s [c] := by
  rw [State.handRequest, h]
  rfl

theorem requestsAreTakenOneAtATime : RequestsAreTakenOneAtATime := by
  intro s h
  refine ⟨exec_requestTaken_waits h, fun f rest hhand hqueue => ⟨fun hp => ?_, fun hp => ?_, fun i hp => ?_⟩⟩
  · exact (exec_requestTaken_takes h hhand hqueue).trans (congrArg _ (handRequest_unknown hp))
  · exact (exec_requestTaken_takes h hhand hqueue).trans (congrArg _ (handRequest_badLength hp))
  · exact (exec_requestTaken_takes h hhand hqueue).trans (congrArg _ (handRequest_request hp))

/-- Settles O45: the outcome of a request makes its reply, and the next request is taken once the reply is sent. -/
theorem requestsAreTakenAndAnswered : Obligations.RequestsAreTakenAndAnswered :=
  ⟨outcomesMakeTheReply, requestsAreTakenOneAtATime⟩

end Sys2Proof.Wire
end

section
/-! SUPPORT. O44: a request of fixed fields is read by its code (R185). -/

namespace Sys2Proof.Wire

open Sys2Proof Sys2Proof.Machine Sys2Proof.Safety Sys2Proof.Claims

variable {code : Byte} {ws values : List Nat} {g : List Nat → Instr} {f : List Nat → Option Instr} {p : List Byte}

/-- The message `code` is read as the fields `ws`, and the command is `g` of their values. -/
def readsBy (x : Byte × List Nat × (List Nat → Instr)) : Prop :=
  (∀ values p, values.length = x.2.1.length → fields x.2.1 p = some values → parseRequest x.1 p = .request (x.2.2 values))
    ∧ ∀ p, fields x.2.1 p = none → parseRequest x.1 p = .badLength

theorem readsBy_of_fixedRequest (hparse : ∀ p, parseRequest code p = fixedRequest ws p f)
    (hf : ∀ values, values.length = ws.length → f values = some (g values)) : readsBy (code, ws, g) := by
  refine ⟨fun values p hlen hread => ?_, fun p hread => ?_⟩
  · rw [hparse, fixedRequest, show fields ws p = some values from hread, Option.bind_some, hf values hlen]
  · rw [hparse, fixedRequest, show fields ws p = none from hread, Option.bind_none]

theorem bare_eq_fixedRequest (p : List Byte) (c : Instr) : bare p c = fixedRequest [] p fun _ => some c := by
  cases p <;> rfl

theorem readsBy_of_bare {c : Instr} (hparse : ∀ p, parseRequest code p = bare p c) : readsBy (code, [], fun _ => c) :=
  readsBy_of_fixedRequest (f := fun _ => some c) (fun p => (hparse p).trans (bare_eq_fixedRequest p c)) fun _ _ => rfl

theorem behindFlag_eq (flag value : Nat) : behindFlag flag value = flagged flag value := by
  match flag with
  | 0 => rfl
  | 1 => rfl
  | n + 2 => rfl

theorem fixedRequests_read : ∀ x ∈ fixedRequests, readsBy x := by
  rw [fixedRequests]
  simp only [List.cons_append, List.nil_append, List.forall_mem_cons]
  refine ⟨
    readsBy_of_bare fun _ => rfl,
    readsBy_of_fixedRequest (fun _ => rfl) fun | [_], _ => rfl,
    readsBy_of_fixedRequest (fun _ => rfl) fun | [_], _ => rfl,
    readsBy_of_bare fun _ => rfl,
    readsBy_of_fixedRequest (fun _ => rfl) fun | [_, _, _, _], _ => rfl,
    readsBy_of_fixedRequest (fun _ => rfl) fun | [_], _ => rfl,
    readsBy_of_fixedRequest (fun _ => rfl) fun | [_], _ => rfl,
    readsBy_of_fixedRequest (fun _ => rfl) fun | [_], _ => rfl,
    readsBy_of_fixedRequest (fun _ => rfl) fun | [_, _, _], _ => rfl,
    readsBy_of_fixedRequest (fun _ => rfl) fun | [_, _, _, _, _, _], _ => rfl,
    readsBy_of_fixedRequest (fun _ => rfl) fun | [_, _, _], _ => rfl,
    readsBy_of_fixedRequest (fun _ => rfl) fun | [_, _, _], _ => rfl,
    readsBy_of_fixedRequest (fun _ => rfl) fun | [_, _, _], _ => rfl,
    readsBy_of_fixedRequest (fun _ => rfl) fun | [_], _ => rfl,
    readsBy_of_fixedRequest (fun _ => rfl) fun | [_, _, _, _, _, _, _, _, _], _ => rfl,
    readsBy_of_fixedRequest (fun _ => rfl) fun | [_], _ => rfl,
    readsBy_of_bare fun _ => rfl,
    readsBy_of_fixedRequest (fun _ => rfl) fun | [_, _, _], _ => by rw [behindFlag_eq]; rfl,
    readsBy_of_bare fun _ => rfl,
    readsBy_of_fixedRequest (fun _ => rfl) fun | [_], _ => rfl,
    readsBy_of_fixedRequest (fun _ => rfl) fun | [_, _, _, _], _ => rfl,
    readsBy_of_fixedRequest (fun _ => rfl) fun | [_], _ => rfl,
    readsBy_of_fixedRequest (fun _ => rfl) fun | [_, _, _], _ => rfl,
    readsBy_of_fixedRequest (fun _ => rfl) fun | [_, _], _ => rfl,
    readsBy_of_bare fun _ => rfl,
    readsBy_of_fixedRequest (fun _ => rfl) fun | [_], _ => rfl,
    readsBy_of_fixedRequest (fun _ => rfl) fun | [_], _ => rfl,
    readsBy_of_fixedRequest (fun _ => rfl) fun | [_], _ => rfl,
    readsBy_of_fixedRequest (fun _ => rfl) fun | [_, _, _, _], _ => rfl,
    readsBy_of_fixedRequest (fun _ => rfl) fun | [_, _, _, _, _], _ => by rw [behindFlag_eq]; rfl,
    readsBy_of_fixedRequest (fun _ => rfl) fun | [_], _ => rfl,
    readsBy_of_fixedRequest (fun _ => rfl) fun | [_], _ => rfl,
    readsBy_of_fixedRequest (fun _ => rfl) fun | [_], _ => rfl,
    readsBy_of_fixedRequest (fun _ => rfl) fun | [_], _ => rfl,
    readsBy_of_bare fun _ => rfl,
    readsBy_of_bare fun _ => rfl,
    readsBy_of_bare fun _ => rfl,
    readsBy_of_fixedRequest (fun _ => rfl) fun | [_, _, _, _, _, _], _ => rfl,
    readsBy_of_fixedRequest (fun _ => rfl) fun | [_, _], _ => rfl,
    readsBy_of_fixedRequest (fun _ => rfl) fun | [_], _ => rfl,
    readsBy_of_fixedRequest (fun _ => rfl) fun | [_, _], _ => rfl,
    readsBy_of_bare fun _ => rfl,
    readsBy_of_fixedRequest (fun _ => rfl) fun | [_, _, _], _ => rfl,
    readsBy_of_fixedRequest (fun _ => rfl) fun | [_], _ => rfl,
    readsBy_of_fixedRequest (fun _ => rfl) fun | [_], _ => rfl,
    readsBy_of_bare fun _ => rfl,
    readsBy_of_fixedRequest (fun _ => rfl) fun | [_], _ => rfl,
    readsBy_of_bare fun _ => rfl,
    readsBy_of_fixedRequest (fun _ => rfl) fun | [_, _, _], _ => rfl,
    readsBy_of_bare fun _ => rfl,
    readsBy_of_fixedRequest (fun _ => rfl) fun | [_, _, _, _], _ => rfl,
    readsBy_of_bare fun _ => rfl,
    readsBy_of_fixedRequest (fun _ => rfl) fun | [_], _ => rfl,
    readsBy_of_bare fun _ => rfl,
    readsBy_of_bare fun _ => rfl,
    fun _ hmem => absurd hmem List.not_mem_nil⟩

/-- The codes of the requests whose length depends on a count or a kind they carry. -/
def countedCodes : List Byte := [0x26, 0x34, 0x36, 0x59, 0x61, 0x63, 0x71, 0x91]

theorem eq_ofNat_of_toNat {n : Nat} (h : code.toNat = n) : code = BitVec.ofNat 8 n := by
  rw [← h, BitVec.ofNat_toNat, BitVec.setWidth_eq]

theorem parseRequest_unknown (h : code ∉ fixedRequests.map (fun x => x.1) ++ countedCodes) :
    parseRequest code p = .unknownMessage := by
  rw [parseRequest]
  split
  case h_64 => rfl
  all_goals
    next hcode =>
      rw [eq_ofNat_of_toNat hcode] at h
      exact absurd (by decide) h

end Sys2Proof.Wire
end

section
/-! SUPPORT. O44: requests whose length depends on what they carry, and the messages of the switch link (R185, R186). -/

namespace Sys2Proof.Wire

open Sys2Proof Sys2Proof.Machine Sys2Proof.Safety Sys2Proof.Claims

variable {code kind : Byte} {ws values : List Nat} {p rest operands : List Byte} {c : Instr} {x : WatchOperands}

theorem toNat_ofNat_of_lt {n : Nat} (h : n < 256) : (BitVec.ofNat 8 n).toNat = n := Nat.mod_eq_of_lt h

theorem ofNat_length_eq {n : Byte} (h : rest.length = n.toNat) : BitVec.ofNat 8 rest.length = n := by
  rw [h, BitVec.ofNat_toNat, BitVec.setWidth_eq]

theorem ofNat_eq_zero_iff {α : Type} {l : List α} (h : l.length < 256) : BitVec.ofNat 8 l.length = 0 ↔ l = [] := by
  rw [← BitVec.toNat_inj, toNat_ofNat_of_lt h]
  exact List.length_eq_zero_iff

theorem exists_fields_of_length (h : p.length = ws.sum) : ∃ values, fields ws p = some values :=
  Option.isSome_iff_exists.1 (fields_isSome_iff.2 h)

theorem bounds_of_four {i : Int} :
    (-((256 ^ 4 : Nat) : Int) ≤ 2 * i ∧ 2 * i < ((256 ^ 4 : Nat) : Int)) ↔ -(2 ^ 31 : Int) ≤ i ∧ i < (2 ^ 31 : Int) := by
  omega

theorem bounds_of_two {i : Int} :
    (-((256 ^ 2 : Nat) : Int) ≤ 2 * i ∧ 2 * i < ((256 ^ 2 : Nat) : Int)) ↔ -(2 ^ 15 : Int) ≤ i ∧ i < (2 ^ 15 : Int) := by
  omega

/-! ## Moves, trims and the product temperature -/

theorem parseAxisMove_counted {axes : AxisSet} {grant : Byte} {targets : List Int}
    (hlen : targets.length = (axisMembers axes).length)
    (hfit : ∀ x ∈ targets, -(2 ^ 31 : Int) ≤ x ∧ x < (2 ^ 31 : Int)) :
    parseAxisMove ([axes, grant] ++ targets.flatMap (beSigned 4)) = .request (.axisMove axes grant.toNat targets) := by
  have hread := signedFields_flatMap fun x hx => bounds_of_four.2 (hfit x hx)
  rw [hlen] at hread
  simp only [parseAxisMove, List.cons_append, List.nil_append, hread]

theorem parseAxisMove_badLength (h : ∀ c, ¬ countedRequest 0x26 p c) : parseAxisMove p = .badLength := by
  unfold parseAxisMove
  split
  next axes grant rest =>
    split
    next targets hread =>
      obtain ⟨hlen, hfit, rfl⟩ := of_signedFields hread
      exact absurd (Or.inl ⟨axes, grant, targets, rfl, hlen, fun x hx => bounds_of_four.1 (hfit x hx), rfl, rfl⟩) (h _)
    next => rfl
  next => rfl

theorem parseTrimWrite_counted {first : Byte} {trims : List Int} (hlen : trims.length < 256)
    (hfit : ∀ x ∈ trims, -(2 ^ 15 : Int) ≤ x ∧ x < (2 ^ 15 : Int)) :
    parseTrimWrite ([first, BitVec.ofNat 8 trims.length] ++ trims.flatMap (beSigned 2))
      = .request (.trimWrite first.toNat trims) := by
  have hread := signedFields_flatMap fun x hx => bounds_of_two.2 (hfit x hx)
  simp only [parseTrimWrite, List.cons_append, List.nil_append, toNat_ofNat_of_lt hlen, hread]

theorem parseTrimWrite_badLength (h : ∀ c, ¬ countedRequest 0x34 p c) : parseTrimWrite p = .badLength := by
  unfold parseTrimWrite
  split
  next first n rest =>
    split
    next trims hread =>
      obtain ⟨hlen, hfit, rfl⟩ := of_signedFields hread
      have hn : n = BitVec.ofNat 8 trims.length := eq_ofNat_of_toNat hlen.symm
      exact absurd (Or.inr (Or.inl ⟨first, trims, rfl, hlen ▸ n.isLt, fun x hx => bounds_of_two.1 (hfit x hx),
        by rw [hn]; rfl, rfl⟩)) (h _)
    next => rfl
  next => rfl

theorem parseProductTemp_counted {i : Int} (hlow : -(2 ^ 15 : Int) ≤ i) (hhigh : i < (2 ^ 15 : Int)) :
    parseProductTemp (beSigned 2 i) = .request (.productTemp i) := by
  have hread := signedFields_flatMap (w := 2) (xs := [i]) (by simpa using bounds_of_two.2 ⟨hlow, hhigh⟩)
  rw [List.flatMap_singleton] at hread
  rw [parseProductTemp, show signedFields 2 1 (beSigned 2 i) = some [i] from hread]

theorem parseProductTemp_badLength (h : ∀ c, ¬ countedRequest 0x36 p c) : parseProductTemp p = .badLength := by
  rw [parseProductTemp]
  split
  next i hread =>
    obtain ⟨-, hfit, rfl⟩ := of_signedFields hread
    obtain ⟨hlow, hhigh⟩ := bounds_of_two.1 (hfit i (List.mem_singleton_self i))
    rw [List.flatMap_singleton] at h
    exact absurd (Or.inr (Or.inr (Or.inl ⟨i, rfl, hlow, hhigh, rfl, rfl⟩))) (h _)
  next => rfl

/-! ## Passcodes and acknowledged sources -/

theorem parseUnlock_counted {level : Byte} (hlen : rest.length < 256) :
    parseUnlock ([level, BitVec.ofNat 8 rest.length] ++ rest) = .request (.unlock level.toNat rest) := by
  simp only [parseUnlock, List.cons_append, List.nil_append, toNat_ofNat_of_lt hlen, if_true]

theorem parseUnlock_badLength (h : ∀ c, ¬ countedRequest 0x61 p c) : parseUnlock p = .badLength := by
  unfold parseUnlock
  split
  next level n rest =>
    refine if_neg fun hlen => h (.unlock level.toNat rest) ?_
    exact Or.inr (Or.inr (Or.inr (Or.inr (Or.inl ⟨level, rest, rfl, hlen ▸ n.isLt, by rw [ofNat_length_eq hlen]; rfl, rfl⟩))))
  next => rfl

theorem parsePasscodeSet_counted {level : Byte} (hlen : rest.length < 256) :
    parsePasscodeSet ([level, BitVec.ofNat 8 rest.length] ++ rest)
      = .request (.passcodeSet level.toNat (if rest = [] then none else some rest)) := by
  simp only [parsePasscodeSet, List.cons_append, List.nil_append, toNat_ofNat_of_lt hlen, if_true, ofNat_eq_zero_iff hlen]

theorem parsePasscodeSet_badLength (h : ∀ c, ¬ countedRequest 0x63 p c) : parsePasscodeSet p = .badLength := by
  unfold parsePasscodeSet
  split
  next level n rest =>
    refine if_neg fun hlen => h (.passcodeSet level.toNat (if rest = [] then none else some rest)) ?_
    exact Or.inr (Or.inr (Or.inr (Or.inr (Or.inr (Or.inl
      ⟨level, rest, rfl, hlen ▸ n.isLt, by rw [ofNat_length_eq hlen]; rfl, rfl⟩)))))
  next => rfl

theorem parseFaultAck_counted (hlen : rest.length < 256) :
    parseFaultAck (BitVec.ofNat 8 rest.length :: rest) = .request (.faultAck (rest.map fun b => b.toNat)) := by
  simp only [parseFaultAck, toNat_ofNat_of_lt hlen, if_true]

theorem parseFaultAck_badLength (h : ∀ c, ¬ countedRequest 0x91 p c) : parseFaultAck p = .badLength := by
  unfold parseFaultAck
  split
  next n rest =>
    refine if_neg fun hlen => h (.faultAck (rest.map fun b => b.toNat)) ?_
    exact Or.inr (Or.inr (Or.inr (Or.inr (Or.inr (Or.inr (Or.inr
      ⟨rest, rfl, hlen ▸ n.isLt, by rw [ofNat_length_eq hlen], rfl⟩))))))
  next => rfl

/-! ## Flushes -/

theorem address_toNat_ofNat (a : Address) : BitVec.ofNat 48 a.toNat = a := by
  rw [BitVec.ofNat_toNat, BitVec.setWidth_eq]

theorem fields_address (a : Address) : fields [6] (be 6 a.toNat) = some [a.toNat] :=
  fields_fieldBytes (ws := [6]) (values := [a.toNat]) rfl (by simpa using a.isLt) ▸ by simp [fieldBytes]

theorem fields_byte (n : Byte) : fields [1] [n] = some [n.toNat] := by
  simp [fields, ofBe]

theorem parseStationFlush_coded {scope : FlushScope} (h : scopeCoded p scope) :
    parseStationFlush p = .request (.stationFlush scope) := by
  rcases h with ⟨a, rfl, rfl⟩ | ⟨n, rfl, rfl⟩ | ⟨rfl, rfl⟩ | ⟨code, hcode, rfl, rfl⟩
  · simp [parseStationFlush, fixedRequest, fields_address]
  · simp [parseStationFlush, fixedRequest, fields_byte]
  · rfl
  · obtain ⟨n, hn⟩ := Nat.exists_eq_add_of_le' hcode
    simp [parseStationFlush, fixedRequest, fields, hn]

theorem eq_be_of_length_six (h : p.length = 6) : ∃ a : Address, p = be 6 a.toNat := by
  refine ⟨BitVec.ofNat 48 (ofBe p), ?_⟩
  have hlt := ofBe_lt p
  rw [h] at hlt
  rw [BitVec.toNat_ofNat, Nat.mod_eq_of_lt (by simpa using hlt), be_ofBe_of_length h]

theorem fixedRequest_badLength {f : List Nat → Option Instr} (h : p.length ≠ ws.sum) : fixedRequest ws p f = .badLength := by
  rw [fixedRequest, fields_eq_none_iff.2 h, Option.bind_none]

theorem countedRequest_stationFlush {scope : FlushScope} (h : scopeCoded p scope) :
    countedRequest 0x59 p (.stationFlush scope) :=
  Or.inr (Or.inr (Or.inr (Or.inl ⟨scope, rfl, h, rfl⟩)))

theorem parseStationFlush_badLength (h : ∀ c, ¬ countedRequest 0x59 p c) : parseStationFlush p = .badLength := by
  have hcoded (x : FlushScope) : ¬ scopeCoded p x := fun hx => h _ (countedRequest_stationFlush hx)
  unfold parseStationFlush
  split
  next scope rest =>
    split
    next hscope =>
      refine fixedRequest_badLength fun hlen => ?_
      obtain ⟨a, rfl⟩ := eq_be_of_length_six hlen
      exact hcoded _ (Or.inl ⟨a, by rw [eq_ofNat_of_toNat hscope]; rfl, rfl⟩)
    next hscope =>
      refine fixedRequest_badLength fun hlen => ?_
      obtain ⟨n, rfl⟩ := List.length_eq_one_iff.1 hlen
      exact hcoded _ (Or.inr (Or.inl ⟨n, by rw [eq_ofNat_of_toNat hscope]; rfl, rfl⟩))
    next hscope =>
      refine fixedRequest_badLength fun hlen => ?_
      rw [List.length_eq_zero_iff.1 hlen] at hcoded
      exact hcoded _ (Or.inr (Or.inr (Or.inl ⟨by rw [eq_ofNat_of_toNat hscope]; rfl, rfl⟩)))
    next h0 h1 h2 =>
      refine fixedRequest_badLength fun hlen => ?_
      rw [List.length_eq_zero_iff.1 hlen] at hcoded
      exact hcoded _ (Or.inr (Or.inr (Or.inr ⟨scope, by simp only [imp_false] at h0 h1 h2; omega, rfl, rfl⟩)))
  next => rfl

/-! ## Watches -/

theorem fields_append {vs : List Nat} (h : fields ws operands = some values) :
    fields (ws ++ vs) (operands ++ rest) = (fields vs rest).map (values ++ ·) := by
  obtain ⟨hlen, hfit, rfl⟩ := of_fields h
  clear h
  induction ws generalizing values with
  | nil =>
    rw [List.length_eq_zero_iff.1 hlen]
    simp [fieldBytes]
  | cons w ws ih =>
    match values, hlen with
    | v :: values, hlen =>
      rw [List.zip_cons_cons] at hfit ⊢
      obtain ⟨hv, hrest⟩ := List.forall_mem_cons.1 hfit
      rw [fieldBytes_cons, List.append_assoc, List.cons_append, fields_cons_append (be_length w v),
        ih (Nat.succ.inj hlen) hrest, ofBe_be_of_lt hv, Option.map_map]
      rfl

theorem forall_zip_pair {a b v w : Nat} :
    (∀ f ∈ [a, b].zip [v, w], f.2 < 256 ^ f.1) ↔ v < 256 ^ a ∧ w < 256 ^ b := by
  rw [List.zip_cons_cons, List.zip_cons_cons, List.forall_mem_cons, List.forall_mem_cons]
  exact ⟨fun ⟨hv, hw, _⟩ => ⟨hv, hw⟩, fun ⟨hv, hw⟩ => ⟨hv, hw, fun _ hmem => absurd hmem List.not_mem_nil⟩⟩

theorem kind_cases (kind : Byte) : kind = 0 ∨ kind = 1 ∨ kind = 2 ∨ kind = 3 ∨ 4 ≤ kind.toNat := by
  bv_omega

/-- The operands of a watch kind as its fields: what they are written as, and what they name. -/
theorem operandsCoded_iff : operandsCoded kind operands x
    ↔ ∃ values, fields (watchOperandWidths kind.toNat) operands = some values ∧ x = watchOperands kind.toNat values := by
  constructor
  · rintro (⟨serial, stage, rfl, hserial, hstage, rfl, rfl⟩ | ⟨k, phase, rfl, hk, hphase, rfl, rfl⟩
      | ⟨k, n, rfl, hk, hn, rfl, rfl⟩ | ⟨a, rfl, rfl, rfl⟩ | ⟨hkind, rfl, rfl⟩)
    · exact ⟨[serial, stage], fields_fieldBytes (ws := [4, 1]) (values := [serial, stage]) rfl
        (forall_zip_pair.2 ⟨hserial, hstage⟩), rfl⟩
    · exact ⟨[k, phase], fields_fieldBytes (ws := [1, 1]) (values := [k, phase]) rfl (forall_zip_pair.2 ⟨hk, hphase⟩), rfl⟩
    · exact ⟨[k, n], fields_fieldBytes (ws := [1, 1]) (values := [k, n]) rfl (forall_zip_pair.2 ⟨hk, hn⟩), rfl⟩
    · exact ⟨[a.toNat], fields_address a, congrArg _ (address_toNat_ofNat a).symm⟩
    · obtain ⟨n, hn⟩ := Nat.exists_eq_add_of_le' hkind
      exact ⟨[], by rw [hn]; rfl, by rw [hn]; rfl⟩
  · rintro ⟨values, hread, rfl⟩
    obtain ⟨hlen, hfit, hwritten⟩ := of_fields hread
    rcases kind_cases kind with rfl | rfl | rfl | rfl | hkind
    · obtain ⟨serial, stage, rfl⟩ := List.length_eq_two.1 hlen
      obtain ⟨hserial, hstage⟩ := forall_zip_pair.1 hfit
      exact Or.inl ⟨serial, stage, rfl, hserial, hstage, hwritten, rfl⟩
    · obtain ⟨k, phase, rfl⟩ := List.length_eq_two.1 hlen
      obtain ⟨hk, hphase⟩ := forall_zip_pair.1 hfit
      exact Or.inr (Or.inl ⟨k, phase, rfl, hk, hphase, hwritten, rfl⟩)
    · obtain ⟨k, n, rfl⟩ := List.length_eq_two.1 hlen
      obtain ⟨hk, hn⟩ := forall_zip_pair.1 hfit
      exact Or.inr (Or.inr (Or.inl ⟨k, n, rfl, hk, hn, hwritten, rfl⟩))
    · obtain ⟨a, rfl⟩ := eq_be_of_length_six (fields_isSome_iff.1 (Option.isSome_of_eq_some hread))
      rw [show watchOperandWidths (3 : Byte).toNat = [6] from rfl, fields_address] at hread
      obtain rfl := Option.some.inj hread
      exact Or.inr (Or.inr (Or.inr (Or.inl ⟨a, rfl, rfl, congrArg _ (address_toNat_ofNat a)⟩)))
    · obtain ⟨n, hn⟩ := Nat.exists_eq_add_of_le' hkind
      rw [hn] at hlen hwritten
      obtain rfl := List.length_eq_zero_iff.1 hlen
      exact Or.inr (Or.inr (Or.inr (Or.inr ⟨hkind, hwritten, by rw [hn]; rfl⟩)))

theorem parseWatchSet_coded {w action scope grant enable : Byte} (h : operandsCoded kind operands x) :
    parseWatchSet ([w, kind] ++ operands ++ [action, scope, grant, enable])
      = .request (.watchSet w.toNat x action.toNat scope.toNat grant.toNat enable.toNat) := by
  obtain ⟨values, hread, rfl⟩ := operandsCoded_iff.1 h
  obtain ⟨hlen, -, -⟩ := of_fields hread
  have hlast : fields [1, 1, 1, 1] [action, scope, grant, enable]
      = some [action.toNat, scope.toNat, grant.toNat, enable.toNat] := by
    simp [fields, ofBe]
  have hall := fields_append (vs := [1, 1, 1, 1]) (rest := [action, scope, grant, enable]) hread
  simp [parseWatchSet, hall, hlast, ← hlen]

theorem parseWatchSet_badLength (h : ∀ c, ¬ countedRequest 0x71 p c) : parseWatchSet p = .badLength := by
  unfold parseWatchSet
  split
  next w kind rest =>
    suffices hnone : fields (watchOperandWidths kind.toNat ++ [1, 1, 1, 1]) rest = none by simp only [hnone]
    refine fields_eq_none_iff.2 fun hlen => ?_
    rw [List.sum_append] at hlen
    obtain ⟨values, hread⟩ := exists_fields_of_length (ws := watchOperandWidths kind.toNat)
      (p := rest.take (watchOperandWidths kind.toNat).sum) (by rw [List.length_take]; omega)
    have hlast : (rest.drop (watchOperandWidths kind.toNat).sum).length = 4 := by
      rw [List.length_drop, hlen]
      simp
    match hdrop : rest.drop (watchOperandWidths kind.toNat).sum, hlast with
    | [action, scope, grant, enable], _ =>
      have hrest := List.take_append_drop (watchOperandWidths kind.toNat).sum rest
      refine h _ (Or.inr (Or.inr (Or.inr (Or.inr (Or.inr (Or.inr (Or.inl ⟨w, kind, action, scope, grant, enable, _, _, rfl,
        operandsCoded_iff.2 ⟨values, hread, rfl⟩, ?_, rfl⟩)))))))
      rw [← hdrop, List.append_assoc, hrest]
      rfl
  next => rfl

end Sys2Proof.Wire
end

section
/-! SUPPORT. O44: the requests and the messages of the switch link put together (R185, R186). -/

namespace Sys2Proof.Wire

open Sys2Proof Sys2Proof.Machine Sys2Proof.Safety Sys2Proof.Claims Sys2Proof.Cabinet

variable {code : Byte} {p : List Byte} {c : Instr} {n : Nat} {f : FrameParts} {tag : Byte}

theorem parseRequest_counted (h : countedRequest code p c) : parseRequest code p = .request c := by
  rcases h with ⟨axes, grant, targets, rfl, hlen, hfit, rfl, rfl⟩ | ⟨first, trims, rfl, hlen, hfit, rfl, rfl⟩
    | ⟨i, rfl, hlow, hhigh, rfl, rfl⟩ | ⟨scope, rfl, hscope, rfl⟩ | ⟨level, passcode, rfl, hlen, rfl, rfl⟩
    | ⟨level, passcode, rfl, hlen, rfl, rfl⟩ | ⟨w, kind, action, scope, grant, enable, operands, x, rfl, hx, rfl, rfl⟩
    | ⟨sources, rfl, hlen, rfl, rfl⟩
  · exact parseAxisMove_counted hlen hfit
  · exact parseTrimWrite_counted hlen hfit
  · exact parseProductTemp_counted hlow hhigh
  · exact parseStationFlush_coded hscope
  · exact parseUnlock_counted hlen
  · exact parsePasscodeSet_counted hlen
  · exact parseWatchSet_coded hx
  · exact parseFaultAck_counted hlen

theorem parseRequest_counted_badLength (hcode : code ∈ countedCodes) (h : ∀ c, ¬ countedRequest code p c) :
    parseRequest code p = .badLength := by
  simp only [countedCodes, List.mem_cons, List.not_mem_nil, or_false] at hcode
  rcases hcode with rfl | rfl | rfl | rfl | rfl | rfl | rfl | rfl
  · exact parseAxisMove_badLength h
  · exact parseTrimWrite_badLength h
  · exact parseProductTemp_badLength h
  · exact parseStationFlush_badLength h
  · exact parseUnlock_badLength h
  · exact parsePasscodeSet_badLength h
  · exact parseWatchSet_badLength h
  · exact parseFaultAck_badLength h

theorem requestsAreReadByTheirCodes : RequestsAreReadByTheirCodes := by
  refine ⟨fun x hx => ⟨fun values hlen hfit => ?_, fun p hlen => ?_⟩, fun code p c => parseRequest_counted,
    fun code p => parseRequest_counted_badLength, fun code p hfixed hcounted => ?_⟩
  · exact (fixedRequests_read x hx).1 values _ hlen (fields_fieldBytes hlen hfit)
  · exact (fixedRequests_read x hx).2 p (fields_eq_none_iff.2 hlen)
  · exact parseRequest_unknown fun hmem => (List.mem_append.1 hmem).elim hfixed hcounted

/-! ## The switch link -/

theorem be_one (n : Nat) : be 1 n = [BitVec.ofNat 8 n] := by
  simp [be]

theorem portOf_number (q : PortIx) : (portOf (q.val + 1)).isSome = true := by
  rw [portOf_some ⟨by omega, q.isLt⟩, Option.isSome_some]

theorem eq_number_of_portOf (h : (portOf n).isSome = true) : ∃ q : PortIx, n = q.val + 1 := by
  by_cases hn : 1 ≤ n ∧ n ≤ 8
  · exact ⟨⟨n - 1, by omega⟩, by simp only; omega⟩
  · rw [portOf_none hn] at h
    exact absurd h (by decide)

theorem fields_number (q : PortIx) : fields [1] [BitVec.ofNat 8 (q.val + 1)] = some [q.val + 1] := by
  rw [fields_byte, toNat_ofNat_of_lt (by omega)]

theorem fields_one {w : Nat} (h : n < 256 ^ w) : fields [w] (be w n) = some [n] := by
  simpa [fieldBytes] using fields_fieldBytes (ws := [w]) (values := [n]) rfl (by simpa using h)

theorem eq_address_of_lt {a : Nat} (h : a < 256 ^ 6) : (BitVec.ofNat 48 a).toNat = a := by
  rw [BitVec.toNat_ofNat, Nat.mod_eq_of_lt (by simpa using h)]

theorem of_fields_one {w : Nat} (h : fields [w] p = some [n]) : n < 256 ^ w ∧ p = be w n := by
  obtain ⟨-, hfit, hwritten⟩ := of_fields h
  rw [List.zip_cons_cons, fieldBytes_cons] at hwritten
  exact ⟨hfit (w, n) (by simp), hwritten.trans (List.append_nil _)⟩

theorem of_fields_pair {v w m : Nat} (h : fields [v, w] p = some [m, n]) :
    m < 256 ^ v ∧ n < 256 ^ w ∧ p = be v m ++ be w n := by
  obtain ⟨-, hfit, hwritten⟩ := of_fields h
  obtain ⟨hm, hn⟩ := forall_zip_pair.1 hfit
  rw [List.zip_cons_cons, fieldBytes_cons, List.zip_cons_cons, fieldBytes_cons] at hwritten
  exact ⟨hm, hn, hwritten.trans (congrArg _ (List.append_nil _))⟩

theorem upDownOf_eq_some {link : UpDown} (h : upDownOf n = some link) : n = upDownCode link := by
  match n, h with
  | 0, h => cases h; rfl
  | 1, h => cases h; rfl

theorem switchCommand_of_message {passes : Bool} (h : switchMessage tag code p c) :
    switchCommand ⟨0x04, tag, code, p, passes⟩ = some c := by
  rcases h with ⟨a, q, rfl, rfl, rfl⟩ | ⟨q, link, rfl, rfl, rfl⟩ | ⟨q, count, rfl, hcount, rfl, rfl⟩ | ⟨a, rfl, rfl, rfl⟩
    | ⟨hall, rfl, hhall, rfl, rfl⟩
  · have hread : fields [6, 1] (be 6 a.toNat ++ [BitVec.ofNat 8 (q.val + 1)]) = some [a.toNat, q.val + 1] := by
      exact (fields_append (vs := [1]) (fields_address a)).trans (by rw [fields_number]; rfl)
    simp only [switchCommand, classSwitch]
    simp [hread, portOf_number]
  · have hread : fields [1, 1] [BitVec.ofNat 8 (q.val + 1), if link = .up then 0 else 1]
        = some [q.val + 1, if link = .up then 0 else 1] := by
      refine (fields_append (vs := [1]) (fields_number q)).trans ?_
      cases link <;> rfl
    cases link <;> simp_all [switchCommand, classSwitch, portOf_number, upDownOf]
  · have hread : fields [1, 4] (BitVec.ofNat 8 (q.val + 1) :: be 4 count) = some [q.val + 1, count] := by
      have hcounted : fields [4] (be 4 count) = some [count] := fields_one hcount
      exact (fields_append (vs := [4]) (rest := be 4 count) (fields_number q)).trans (by rw [hcounted]; rfl)
    simp [switchCommand, classSwitch, hread, portOf_number]
  · simp [switchCommand, classSwitch, fields_address]
  · have hread : fields [8] (be 8 hall) = some [hall] := fields_one hhall
    simp [switchCommand, classSwitch, hread]

theorem switchCommand_eq_none (h : f.cls ≠ 0x04 ∨ ∀ c, ¬ switchMessage f.tag f.message f.payload c) :
    switchCommand f = none := by
  unfold switchCommand
  split
  next => rfl
  next hcls =>
    replace h := h.resolve_left (not_not.2 (not_not.1 hcls))
    split
    next hcode =>
      rw [eq_ofNat_of_toNat hcode] at h
      split
      next a n hread =>
        refine if_neg fun hport => ?_
        obtain ⟨q, rfl⟩ := eq_number_of_portOf hport
        obtain ⟨ha, -, hwritten⟩ := of_fields_pair hread
        refine h _ (Or.inl ⟨BitVec.ofNat 48 a, q, rfl, ?_, rfl⟩)
        rw [hwritten, eq_address_of_lt ha, be_one]
      next => rfl
    next hcode =>
      rw [eq_ofNat_of_toNat hcode] at h
      split
      next n l hread =>
        split
        next hport =>
          obtain ⟨q, rfl⟩ := eq_number_of_portOf hport
          obtain ⟨-, -, hwritten⟩ := of_fields_pair hread
          refine Option.map_eq_none_iff.2 (Option.eq_none_iff_forall_not_mem.2 fun link hlink => ?_)
          refine h _ (Or.inr (Or.inl ⟨q, link, rfl, ?_, rfl⟩))
          rw [hwritten, upDownOf_eq_some hlink, be_one, be_one]
          cases link <;> rfl
        next => rfl
      next => rfl
    next hcode =>
      rw [eq_ofNat_of_toNat hcode] at h
      split
      next n count hread =>
        refine if_neg fun hport => ?_
        obtain ⟨q, rfl⟩ := eq_number_of_portOf hport
        obtain ⟨-, hcount, hwritten⟩ := of_fields_pair hread
        refine h _ (Or.inr (Or.inr (Or.inl ⟨q, count, rfl, hcount, ?_, rfl⟩)))
        rw [hwritten, be_one]
        rfl
      next => rfl
    next hcode =>
      rw [eq_ofNat_of_toNat hcode] at h
      split
      next a hread =>
        obtain ⟨ha, hwritten⟩ := of_fields_one hread
        refine absurd (Or.inr (Or.inr (Or.inr (Or.inl ⟨BitVec.ofNat 48 a, rfl, ?_, rfl⟩)))) (h _)
        rw [hwritten, eq_address_of_lt ha]
      next => rfl
    next hcode =>
      rw [eq_ofNat_of_toNat hcode] at h
      split
      next hall hread =>
        obtain ⟨hhall, hwritten⟩ := of_fields_one hread
        exact absurd (Or.inr (Or.inr (Or.inr (Or.inr ⟨hall, rfl, hhall, hwritten, rfl⟩)))) (h _)
      next => rfl
    next => rfl

theorem switchMessagesByTheirCodes : SwitchMessagesByTheirCodes := by
  refine ⟨fun tag message p passes c => switchCommand_of_message, fun f => switchCommand_eq_none, fun tag => ⟨fun a q admits =>
    ⟨?_, rfl, rfl, rfl⟩, rfl⟩⟩
  cases admits <;> rfl

/-- Settles O44: frames are taken or counted, a sent frame reads back whole, and requests and switch messages are read by
their codes. -/
theorem framesAreTakenCountedAndReadBack : Obligations.FramesAreTakenCountedAndReadBack :=
  ⟨framesAreTakenOrCounted, framesSentReadBackWhole, repliesCarryTheirHead, requestsAreReadByTheirCodes,
    switchMessagesByTheirCodes⟩

end Sys2Proof.Wire
end

section
/-! SUPPORT. O46: notices join the queue, leave it when fetched, and take 29 bytes (R179–R183). -/

namespace Sys2Proof.Wire

open Sys2Proof Sys2Proof.Machine Sys2Proof.Safety Sys2Proof.Claims Sys2Proof.BottleTrack Sys2Proof.Track Sys2Proof.AxisMoves
  Sys2Proof.Access Sys2Proof.Cabinet

variable {s : State} {n : Notice} {p : PostedNotice} {queue fetched left : List PostedNotice} {largest : Nat}

/-! ## The queue -/

/-- The notice as it is posted in `s`. -/
def posted (s : State) (n : Notice) : PostedNotice := ⟨n, s.tmu.now, s.stamp⟩

/-- The state after a notice was posted: the counters of `x`, the new queue, and ATTN while it runs. -/
def raised (s : State) (x : Lnk) (queue : List PostedNotice) : State :=
  withLnk s { x with notices := queue, attn := decide (s.phase = .running) }

theorem attn_raised (s : State) (hqueue : queue ≠ []) :
    ((s.phase == .running) && !queue.isEmpty) = decide (s.phase = .running) := by
  rw [show queue.isEmpty = false from by simpa using hqueue, Bool.not_false, Bool.and_true, beq_eq_decide]

theorem post_of_joined (hqueue : queue ≠ []) (h : placeNotice s.lnk.notices (posted s n) = (queue, true, false)) :
    s.post n = raised s (lnkCounted s.lnk 6) queue := by
  have hplaced : placeNotice s.lnk.notices ⟨n, s.now, s.stamp⟩ = (queue, true, false) := h
  simp only [State.post, Lnk.post, hplaced, attn_raised s hqueue]
  rfl

theorem post_of_counted (hqueue : queue ≠ []) (h : placeNotice s.lnk.notices (posted s n) = (queue, false, true)) :
    s.post n = raised s (lnkCounted s.lnk 7) queue := by
  have hplaced : placeNotice s.lnk.notices ⟨n, s.now, s.stamp⟩ = (queue, false, true) := h
  simp only [State.post, Lnk.post, hplaced, attn_raised s hqueue]
  rfl

theorem post_of_overflowed (hqueue : queue ≠ []) (h : placeNotice s.lnk.notices (posted s n) = (queue, true, true)) :
    s.post n = raised s (lnkCounted (lnkCounted s.lnk 6) 7) queue := by
  have hplaced : placeNotice s.lnk.notices ⟨n, s.now, s.stamp⟩ = (queue, true, true) := h
  simp only [State.post, Lnk.post, hplaced, attn_raised s hqueue]
  rfl

theorem placeNotice_room (h : queue.length ≤ 30) : placeNotice queue p = (queue ++ [p], true, false) := if_pos h

theorem placeNotice_counted {older : List PostedNotice} {count kind last run : Nat} {hall : Option Nat}
    (hlen : 31 ≤ (older ++ [(⟨.overflow count kind last, run, hall⟩ : PostedNotice)]).length) :
    placeNotice (older ++ [⟨.overflow count kind last, run, hall⟩]) p
      = (older ++ [⟨.overflow (min (count + 1) 65535) kind p.runStamp, run, hall⟩], false, true) := by
  rw [placeNotice, if_neg (by simp only [Config.noticeRoom]; omega), List.getLast?_concat, List.dropLast_concat]

theorem placeNotice_overflowed {older : List PostedNotice} {newest : PostedNotice}
    (hlen : (older ++ [newest]).length = 31) (hnewest : ∀ count kind last, newest.notice ≠ .overflow count kind last) :
    placeNotice (older ++ [newest]) p
      = (older ++ [newest] ++ [⟨.overflow 1 (noticeKindCode p.notice) p.runStamp, p.runStamp, p.hallStamp⟩], true, true) := by
  rw [placeNotice, if_neg (by simp only [Config.noticeRoom]; omega), List.getLast?_concat]
  split
  next count kind last run hall hlast =>
    exact absurd (congrArg PostedNotice.notice (Option.some.inj hlast)) (hnewest count kind last)
  next => exact if_pos hlen

/-! ## Fetching -/

theorem fetch_eq (hqueue : s.lnk.notices = fetched ++ left) (hlen : fetched.length ≤ largest)
    (hall : fetched.length = largest ∨ left = []) :
    s.fetch largest = (withLnk s { s.lnk with notices := left, attn := decide (left ≠ []) }).replyOk
      ([BitVec.ofNat 8 fetched.length, BitVec.ofNat 8 left.length] ++ fetched.flatMap noticeBytes) := by
  have htake : (fetched ++ left).take largest = fetched := by
    rcases hall with rfl | rfl
    · exact List.take_left
    · rw [List.append_nil, List.take_of_length_le hlen]
  have hdrop : (fetched ++ left).drop largest = left := by
    rcases hall with rfl | rfl
    · exact List.drop_left
    · rw [List.append_nil, List.drop_of_length_le hlen]
  have hattn : (!left.isEmpty) = decide (left ≠ []) := by
    cases left <;> rfl
  simp only [State.fetch, hqueue, htake, hdrop, hattn]
  rfl

theorem exec_fetchNotices (h : running s) : exec (.fetchNotices largest) s = .next
    ((s.received (.fetchNotices largest)).require (1 ≤ largest && largest ≤ 8) .badValue fun s => s.fetch largest) :=
  exec_taken h (execFetchNotices largest) rfl rfl rfl

theorem noticesJoinTheQueueAndLeaveIt : NoticesJoinTheQueueAndLeaveIt := by
  refine ⟨fun n s => ⟨fun hlen => ?_, fun older count kind last run hall hlen hqueue => ?_,
      fun older newest hlen hqueue hnewest => ?_⟩,
    fun largest s h => ⟨fun hbad => ?_, fun fetched left hlow hhigh hqueue hlen hall => ?_⟩⟩
  · exact post_of_joined (by simp) (placeNotice_room hlen)
  · refine post_of_counted (by simp) ?_
    rw [hqueue] at hlen ⊢
    exact placeNotice_counted hlen
  · rw [hqueue] at hlen
    refine post_of_overflowed (by simp) ?_
    rw [hqueue]
    exact placeNotice_overflowed hlen hnewest
  · refine (exec_fetchNotices h).trans (congrArg _ (require_failed ?_ _ _))
    simp only [Bool.and_eq_false_iff, decide_eq_false_iff_not]
    omega
  · refine (exec_fetchNotices h).trans (congrArg _ ((require_met ?_ _ _).trans ?_))
    · simp only [Bool.and_eq_true, decide_eq_true_eq]
      exact ⟨hlow, hhigh⟩
    · exact fetch_eq (s := s.received _) hqueue hlen hall

/-! ## The bytes of a notice -/

theorem watchSubjectBytes_eq (x : WatchSubject) : watchSubjectBytes x = hitSubjectBytes x := by
  cases x with
  | serial n stage departure =>
    match departure with
    | none => rfl
    | some (how, none) => rfl
    | some (how, some reason) => rfl
  | axisPhase k phase n holds cause => cases cause <;> rfl
  | cameraNg k n serial => rfl
  | station a q admits => rfl

theorem offsetBytes_of_fits {i : Int} (hlow : -(2 ^ 63 : Int) ≤ i) (hhigh : i < (2 ^ 63 : Int)) :
    offsetBytes i = beSigned 8 i := if_pos ⟨hlow, hhigh⟩

@[simp] theorem offsetBytes_length (i : Int) : (offsetBytes i).length = 8 := by
  rw [offsetBytes]
  split
  · exact beSigned_length 8 i
  · exact be_length 8 _

theorem hitSubjectBytes_length (x : WatchSubject) : (hitSubjectBytes x).length ≤ 7 := by
  rw [← watchSubjectBytes_eq]
  cases x <;> simp [watchSubjectBytes]

theorem raiseCode_bit (how : Raise) : byte (raiseCode how) = [if how = .activation then 0 else 1] := by
  cases how <;> rfl

theorem latchModeCode_bit (mode : LatchMode) : byte (latchModeCode mode) = [if mode = .live then 0 else 1] := by
  cases mode <;> rfl

theorem endCauseCode_bit (cause : EndCause) : byte (endCauseCode cause) = [if cause = .complete then 0 else 1] := by
  cases cause <;> rfl

theorem saveKindCode_bit (kind : SaveKind) : byte (saveKindCode kind) = [if kind = .save then 0 else 1] := by
  cases kind <;> rfl

theorem stored_bit (ok : Bool) : byte (if ok then 0 else 1) = [if ok then 0 else 1] := by
  cases ok <;> rfl

theorem flags_eq (x y z : Bool) : byte (flagBit 0 x + flagBit 1 y + flagBit 2 z) = [flagsByte x y z] := rfl

theorem noticeSubject_eq (n : Notice) : noticeSubject n = (noticeIs n).2.1 := by
  cases n with
  | permitChanged high src cause set => rw [noticeSubject, yesNo_eq]; rfl
  | fault src how enable mode extension inEffect =>
    rw [noticeSubject, yesNo_eq, yesNo_eq, raiseCode_bit, latchModeCode_bit]; rfl
  | axisAtRest k motion cause position => rw [noticeSubject, endCauseCode_bit]; rfl
  | strayVerdict k tag ng => rw [noticeSubject, yesNo_eq]; rfl
  | testVerdict k tag ng triggered => rw [noticeSubject, yesNo_eq]; rfl
  | watchHit w kind action count subject => rw [noticeSubject, watchSubjectBytes_eq, Nat.mul_comm]; rfl
  | storeDone kind ok dirty bank sequence =>
    rw [noticeSubject, saveKindCode_bit, stored_bit, yesNo_eq]
    match bank with
    | none => rfl
    | some .a => rfl
    | some .b => rfl
  | clockStep byMark offset => cases byMark <;> rfl
  | grantClosed id level cause result expired openedAt => rw [noticeSubject, flags_eq]; rfl
  | accountState account old new count cause => cases account <;> rfl
  | _ => rfl

theorem noticeKindCode_eq (n : Notice) : byte (noticeKindCode n) = [(noticeIs n).1] := by
  cases n <;> rfl

theorem optionalPresent_eq (n : Notice) : optionalPresent n = (noticeIs n).2.2 := by
  cases n with
  | watchHit w kind action count subject => cases subject <;> rfl
  | _ => rfl

theorem noticeSubject_length (n : Notice) : (noticeSubject n).length ≤ 11 := by
  cases n with
  | watchHit w kind action count subject =>
    have hsubject := hitSubjectBytes_length subject
    rw [noticeSubject, watchSubjectBytes_eq]
    simp only [List.length_append, byte_length, be_length]
    omega
  | _ => simp [noticeSubject, grantByte]

theorem take_padded {l : List Byte} {m : Nat} (h : l.length ≤ m) :
    (l ++ List.replicate m 0#8).take m = l ++ List.replicate (m - l.length) 0#8 := by
  rw [List.take_append, List.take_of_length_le h, List.take_replicate, Nat.min_eq_left (Nat.sub_le _ _)]

theorem noticeBytes_eq (p : PostedNotice) : noticeBytes p
    = [(noticeIs p.notice).1, flagsByte p.hallStamp.isSome (noticeIs p.notice).2.2 false] ++ be 8 p.runStamp
      ++ be 8 (p.hallStamp.getD 0) ++ (noticeIs p.notice).2.1
      ++ List.replicate (11 - (noticeIs p.notice).2.1.length) 0 := by
  rw [noticeBytes, take_padded (noticeSubject_length _), noticeSubject_eq, noticeKindCode_eq, optionalPresent_eq,
    ← List.append_assoc]
  rfl

theorem noticesTakeTwentyNineBytes : NoticesTakeTwentyNineBytes :=
  ⟨fun p => ⟨noticeSubject_eq p.notice ▸ noticeSubject_length p.notice, noticeBytes_eq p⟩, fun _ => offsetBytes_of_fits⟩

/-- Settles O46: notices join the queue or are counted, leave it when fetched, and take 29 bytes each. -/
theorem noticesJoinAndAreFetched : Obligations.NoticesJoinAndAreFetched :=
  ⟨noticesJoinTheQueueAndLeaveIt, noticesTakeTwentyNineBytes⟩

end Sys2Proof.Wire
end

section
/-! SUPPORT. O47: a save writes the bank not in use, and the account save repeats each hour (R160–R166). -/

namespace Sys2Proof.Saves

open Sys2Proof Sys2Proof.Machine Sys2Proof.Safety Sys2Proof.Claims Sys2Proof.BottleTrack Sys2Proof.Track Sys2Proof.AxisMoves
  Sys2Proof.Cabinet

variable {s t u : State} {x : Sst} {held : Option (BitVec 32 × Image)} {image : Image} {kind : SaveKind} {whole : Bool}
  {bank : BankName} {n : BitVec 32}

/-! ## The banks -/

theorem imageInUse_of_imageIs (h : imageIs x held) : x.imageInUse = held := by
  rcases h with ⟨huse, rfl⟩ | ⟨format, n, image, huse, hbank, rfl⟩ | ⟨format, n, image, huse, hbank, rfl⟩
  · simp only [Sst.imageInUse, huse]
  · simp only [Sst.imageInUse, huse, Sst.bank, hbank]
  · simp only [Sst.imageInUse, huse, Sst.bank, hbank]

theorem target_eq (x : Sst) : x.target = otherBank x.inUse := by
  rw [Sst.target]
  match x.inUse with
  | none => rfl
  | some .a => rfl
  | some .b => rfl

theorem setBank_eq (x : Sst) (bank : BankName) (b : Bank) : x.setBank bank b = withBank x bank b := by
  cases bank <;> rfl

theorem beginWrite_eq (h : imageIs x held) (kind : SaveKind) (image : Image) :
    x.beginWrite kind image = writes x held kind image := by
  have hnext : x.nextSequence = nextNumber held := by
    rw [Sst.nextSequence, imageInUse_of_imageIs h]
    rfl
  rw [Sst.beginWrite, target_eq, setBank_eq, hnext]
  rfl

/-- The entry a save stores for what stands in a way. -/
def pinnedEntry (x : Sws) (n : Fin 16) (w : Fin 4) : Option PinnedStation :=
  (x.table[n].ways[w]).bind fun e =>
    if e.kind = .pinned then some ⟨e.address, w, e.port, e.role, decide (e.state = .admitted)⟩ else none

theorem pinnedOf_eq_filterMap (x : Sws) : pinnedOf x = allWays.filterMap fun p => pinnedEntry x p.1 p.2 := by
  refine congrArg (List.filterMap · allWays) (funext fun p => ?_)
  rw [pinnedEntry]
  match x.table[p.1].ways[p.2] with
  | none => rfl
  | some e =>
    rw [Option.bind_some]
    dsimp only
    match hkind : e.kind with
    | .pinned => rfl
    | .learned => rfl

theorem pinnedOf_eq (s : State) : pinnedOf s.sws = pinnedEntries s :=
  (pinnedOf_eq_filterMap s.sws).trans (allWays_filterMap (pinnedEntry s.sws))

/-! ## What a save ends with -/

theorem postStoreDone_eq (h : storeDone s kind whole t) : s.postStoreDone kind whole = t := by
  rcases h with ⟨n, image, hheld, rfl⟩ | ⟨hheld, rfl⟩
  · rw [State.postStoreDone, imageInUse_of_imageIs hheld]
    rfl
  · rw [State.postStoreDone, imageInUse_of_imageIs hheld]
    rfl

theorem inUse_of_imageIs_none (h : imageIs x none) : x.inUse = none := by
  rcases h with ⟨huse, -⟩ | ⟨format, n, image, -, -, hheld⟩ | ⟨format, n, image, -, -, hheld⟩
  · exact huse
  · exact absurd hheld (Option.some_ne_none _).symm
  · exact absurd hheld (Option.some_ne_none _).symm

theorem beginAccountSave_eq (h : savesAccounts s t) : s.beginAccountSave = t := by
  rcases h with ⟨n, image, hheld, rfl⟩ | ⟨hheld, rfl⟩
  · rw [State.beginAccountSave, imageInUse_of_imageIs hheld, ← beginWrite_eq hheld]
    rfl
  · rw [State.beginAccountSave, imageInUse_of_imageIs hheld]
    exact (postStoreDone_eq (Or.inr ⟨hheld, rfl⟩)).trans (by rw [inUse_of_imageIs_none hheld])

/-- The store once a write ended: the bank holds `b`, and nothing is written. -/
def writeEnded (x : Sst) (bank : BankName) (b : Bank) : Sst :=
  { withBank x bank b with saving := none, writing := none }

theorem keepWrite_eq (x : Sst) (bank : BankName) (n : BitVec 32) (image : Image) :
    x.keepWrite bank n image = { writeEnded x bank (.whole 1 n image) with inUse := some bank } := by
  rw [Sst.keepWrite, setBank_eq]
  rfl

theorem failWrite_eq (x : Sst) (bank : BankName) : x.failWrite bank = writeEnded x bank .broken := by
  rw [Sst.failWrite, setBank_eq]
  rfl

/-- The state a save of `kind` leaves before STORE DONE is posted. -/
def saved (r : State) (kind : SaveKind) (bank : BankName) (n : BitVec 32) (image : Image) (whole : Bool) : State :=
  let dirty (b : Bool) : Bool := if kind = .save then b else r.sst.dirty
  if whole = true then
    withSst r { writeEnded r.sst bank (.whole 1 n image) with inUse := some bank, dirty := dirty r.sst.changed }
  else sending (withSst r { writeEnded r.sst bank .broken with dirty := dirty true }) [.eventSourceLatch .storeFailed]

theorem completeSave_eq (h : storeDone (saved s .save bank n image whole) .save whole t) :
    s.completeSave bank n image whole = t := by
  rw [State.completeSave, keepWrite_eq, failWrite_eq, ← postStoreDone_eq h]
  cases whole <;> rfl

theorem completeAccountSave_eq (h : storeDone (saved s .accountSave bank n image whole) .accountSave whole t) :
    s.completeAccountSave bank n image whole = t := by
  rw [State.completeAccountSave, keepWrite_eq, failWrite_eq, ← postStoreDone_eq h]
  cases bank <;> cases whole <;> rfl

theorem tmu_of_storeDone (h : storeDone s kind whole t) : t.tmu = s.tmu := by
  rcases h with ⟨n, image, -, rfl⟩ | ⟨-, rfl⟩ <;> rfl

theorem saved_tmu : (saved s kind bank n image whole).tmu = s.tmu := by
  cases whole <;> rfl

/-! ## The commands -/

theorem exec_save (h : running s) (hlevel : 2 ≤ s.acu.level) : exec .save s = .next
    ((s.received .save).require s.sst.saving.isNone .busy fun s =>
      (s.setSst { s.sst.beginWrite .save (workingImage s) with changed := false }).replyAccepted
        (yesNo s.sst.dirty ++ byte (bankCode s.sst.target))) :=
  exec_taken h execSave rfl rfl (withLevel_reached (s := s.received _) hlevel _)

/-- The command that ends a save of `kind`. -/
def completion (kind : SaveKind) (whole : Bool) : Instr :=
  match kind with
  | .save => .saveComplete whole
  | .accountSave => .accountSaveComplete whole

theorem exec_completion_other (h : running s) (hkind : s.sst.saving ≠ some kind) :
    exec (completion kind whole) s = .next (s.received (completion kind whole)) := by
  cases kind with
  | save =>
    refine exec_taken h (execSaveComplete whole) rfl rfl ?_
    split
    next hsaving _ => exact absurd hsaving hkind
    next => rfl
  | accountSave =>
    refine exec_taken h (execAccountSaveComplete whole) rfl rfl ?_
    split
    next hsaving _ => exact absurd hsaving hkind
    next => rfl

theorem exec_saveComplete (h : running s) (hkind : s.sst.saving = some .save)
    (hwriting : s.sst.writing = some (bank, n, image))
    (hdone : storeDone (saved (s.received (.saveComplete whole)) .save bank n image whole) .save whole t) :
    exec (.saveComplete whole) s = .next t.takeDeferred := by
  refine exec_taken h (execSaveComplete whole) rfl rfl ?_
  rw [show (s.received _).sst.saving = _ from hkind, show (s.received _).sst.writing = _ from hwriting]
  exact congrArg State.takeDeferred (completeSave_eq hdone)

theorem exec_accountSaveComplete (h : running s) (hkind : s.sst.saving = some .accountSave)
    (hwriting : s.sst.writing = some (bank, n, image))
    (hdone : storeDone (saved (s.received (.accountSaveComplete whole)) .accountSave bank n image whole) .accountSave whole t) :
    exec (.accountSaveComplete whole) s = .next t := by
  refine exec_taken h (execAccountSaveComplete whole) rfl rfl ?_
  rw [show (s.received _).sst.saving = _ from hkind, show (s.received _).sst.writing = _ from hwriting]
  exact completeAccountSave_eq hdone

theorem exec_accountSaveExpiry_due (h : running s) (hdue : s.tmu.saveDeadline ≤ s.tmu.now) :
    exec .accountSaveExpiry s = .next (State.accountSaveDue { s.received .accountSaveExpiry with
      tmu := { s.tmu with saveDeadline := s.tmu.saveDeadline + 3600000000 } }) :=
  exec_taken h execAccountSaveExpiry rfl rfl (if_pos hdue)

theorem accountSaveDue_saving (h : s.sst.saving = some .save) :
    s.accountSaveDue = { s with tmu := { s.tmu with saveDeferred := true } } := by
  rw [State.accountSaveDue, h]
  rfl

theorem accountSaveDue_accountSaving (h : s.sst.saving = some .accountSave) : s.accountSaveDue = s := by
  rw [State.accountSaveDue, h]

theorem accountSaveDue_free (h : s.sst.saving = none) : s.accountSaveDue = s.beginAccountSave := by
  rw [State.accountSaveDue, h]

theorem takeDeferred_none (h : s.tmu.saveDeferred = false) : s.takeDeferred = s := by
  rw [State.takeDeferred, h]
  rfl

theorem takeDeferred_deferred (h : s.tmu.saveDeferred = true)
    (hsaves : savesAccounts { s with tmu := { s.tmu with saveDeferred := false } } u) : s.takeDeferred = u := by
  rw [State.takeDeferred, h]
  exact beginAccountSave_eq hsaves

/-- Settles O47: a save writes the other bank, its completion keeps or breaks it, and the account save repeats. -/
theorem savesWriteTheOtherBank : Obligations.SavesWriteTheOtherBank := by
  refine ⟨fun s h => ⟨fun hlevel => ?_, fun hlevel hbusy => ?_, fun held hlevel hfree hheld => ?_⟩,
    fun kind whole s h => ⟨fun hkind => ?_, fun bank n image hkind hwriting t hdone =>
      ⟨fun hnone => ?_, fun u hsave hdef hu => ?_⟩⟩,
    fun s h => ⟨fun hearly => ?_, fun hdue => ⟨fun hsave => ?_, fun haccount => ?_, fun t hfree ht => ?_⟩⟩⟩
  · exact exec_taken h execSave rfl rfl (withLevel_below (s := s.received _) hlevel _)
  · refine (exec_save h hlevel).trans (congrArg _ (require_failed ?_ _ _))
    rwa [Option.isNone_eq_false_iff, Option.isSome_iff_ne_none]
  · refine (exec_save h hlevel).trans (congrArg _ ((require_met (by rw [hfree]; rfl) _ _).trans ?_))
    rw [beginWrite_eq (x := (s.received _).sst) hheld, target_eq, workingImage, pinnedOf_eq, yesNo_eq]
    rfl
  · exact exec_completion_other h hkind
  · cases kind with
    | save =>
      refine (exec_saveComplete h hkind hwriting hdone).trans (congrArg _ (takeDeferred_none ?_))
      rw [tmu_of_storeDone hdone]
      exact (congrArg Tmu.saveDeferred saved_tmu).trans (hnone.resolve_left SaveKind.noConfusion)
    | accountSave => exact exec_accountSaveComplete h hkind hwriting hdone
  · subst hsave
    refine (exec_saveComplete h hkind hwriting hdone).trans (congrArg _ (takeDeferred_deferred ?_ ?_))
    · rw [tmu_of_storeDone hdone]
      exact (congrArg Tmu.saveDeferred saved_tmu).trans hdef
    · rw [(tmu_of_storeDone hdone).trans saved_tmu]
      exact hu
  · exact exec_taken h execAccountSaveExpiry rfl rfl (if_neg (not_le.2 hearly))
  · exact (exec_accountSaveExpiry_due h hdue).trans (congrArg _ (accountSaveDue_saving (by exact hsave)))
  · exact (exec_accountSaveExpiry_due h hdue).trans (congrArg _ (accountSaveDue_accountSaving (by exact haccount)))
  · exact (exec_accountSaveExpiry_due h hdue).trans 
      (congrArg _ ((accountSaveDue_free (by exact hfree)).trans (beginAccountSave_eq ht)))

end Sys2Proof.Saves
end

section
/-! SUPPORT. O48: what a reset takes from the store and what it starts with (R165–R169, R190). -/

namespace Sys2Proof.Resets

open Sys2Proof Sys2Proof.Machine Sys2Proof.Safety Sys2Proof.Claims Sys2Proof.BottleTrack Sys2Proof.Track Sys2Proof.AxisMoves
  Sys2Proof.Invariants Sys2Proof.Permit Sys2Proof.Saves Sys2Proof.Wire

variable {s t : State} {c : Instr} {x : Sst} {clock : Tmu} {phase : Phase} {r : InHand}

/-! ## The bank that loads -/

theorem sub_one_eq_succ_iff {m n : BitVec 32} : m = n + 1 ↔ n = m - 1 := by
  bv_omega

theorem loads_bankToLoad (x : Sst) : loads x ((bankToLoad x).map fun b => b.1) (imageLoaded x) := by
  rw [imageLoaded]
  match ha : validBank x.bankA, hb : validBank x.bankB with
  | none, none =>
    have hload : bankToLoad x = none := by rw [bankToLoad, ha, hb]
    rw [hload]
    exact Or.inl ⟨ha, hb, rfl, rfl⟩
  | some (m, image), none =>
    have hload : bankToLoad x = some (.a, image) := by rw [bankToLoad, ha, hb]
    rw [hload]
    exact Or.inr (Or.inl ⟨m, ha, hb, rfl⟩)
  | none, some (n, image) =>
    have hload : bankToLoad x = some (.b, image) := by rw [bankToLoad, ha, hb]
    rw [hload]
    exact Or.inr (Or.inr (Or.inl ⟨n, ha, hb, rfl⟩))
  | some (m, a), some (n, b) =>
    by_cases hnext : n = m + 1
    · have hload : bankToLoad x = some (.b, b) := by
        simp only [bankToLoad, ha, hb, if_pos hnext]
      rw [hload]
      exact Or.inr (Or.inr (Or.inr (Or.inr (Or.inl ⟨m, a, ha, hnext ▸ hb, rfl⟩))))
    · by_cases hprev : m = n + 1
      · have hload : bankToLoad x = some (.a, a) := by
          simp only [bankToLoad, ha, hb, if_neg hnext, if_pos hprev]
        rw [hload]
        have hn := sub_one_eq_succ_iff.1 hprev
        exact Or.inr (Or.inr (Or.inr (Or.inl ⟨m, b, ha, hn ▸ hb, hn ▸ hnext, rfl⟩)))
      · refine Or.inr (Or.inr (Or.inr (Or.inr (Or.inr ⟨m, n, a, b, ha, hb, hnext, hprev, ?_⟩))))
        match hpick : Config.bankWhenNeitherFollows m n with
        | .a =>
          have hload : bankToLoad x = some (.a, a) := by
            simp only [bankToLoad, ha, hb, if_neg hnext, if_neg hprev, hpick]
          rw [hload]
          exact Or.inl ⟨rfl, rfl⟩
        | .b =>
          have hload : bankToLoad x = some (.b, b) := by
            simp only [bankToLoad, ha, hb, if_neg hnext, if_neg hprev, hpick]
          rw [hload]
          exact Or.inr ⟨rfl, rfl⟩

/-! ## The state a reset leaves -/

theorem reload_eq (x : Sst) : x.reload = ⟨x.bankA, x.bankB, (bankToLoad x).map fun b => b.1,
    decide ((bankToLoad x).map (fun b => b.1) = none), none, false, none,
    decide ((bankToLoad x).map (fun b => b.1) = none)⟩ := by
  rw [Sst.reload]
  cases bankToLoad x <;> rfl

theorem isForced_sourceOfNo_iff : ∀ n : Fin 16, isForced (sourceOfNo n) = true ↔ n = 0 ∨ n = 1 ∨ n = 14 := by
  decide

theorem forceSources_source (c : Settings) (n : Fin 16) :
    (forceSources c).sources[n] = if n = 0 ∨ n = 1 ∨ n = 14 then ⟨true, .latch, 0⟩ else c.sources[n] := by
  simp only [forceSources, Fin.getElem_fin, Vector.getElem_ofFn, ← isForced_sourceOfNo_iff]
  rfl

theorem wornTo_reachedState (count warn alarm : Nat) : wornTo count warn alarm (reachedState count warn alarm) := by
  unfold reachedState
  split
  next h => exact Or.inl ⟨h.1, h.2, rfl⟩
  next hnot =>
    split
    next h => exact Or.inr (Or.inl ⟨hnot, h.1, h.2, rfl⟩)
    next hnotWarn => exact Or.inr (Or.inr ⟨hnot, hnotWarn, rfl⟩)

theorem settledAccounts_account (accounts : Vector AccountRecord 15) (k : Fin 15) : (settledAccounts accounts)[k]
    = { accounts[k] with state := reachedState accounts[k].count accounts[k].warn accounts[k].alarm } := by
  simp [settledAccounts]

theorem tableOf_ways (pinned : List PinnedStation) (n : Fin 16) (w : Fin 4) : (tableOf pinned)[n].ways[w]
    = (pinned.find? fun e => decide (setFor e.address = n ∧ e.way = w)).map fun e =>
      ⟨e.address, e.port, .pinned, e.role, if e.admitted then .admitted else .quarantined, none, none, none⟩ := by
  have hhere : (fun e : PinnedStation => setOf e.address == n && e.way == w)
      = fun e => decide (setFor e.address = n ∧ e.way = w) := by
    funext e
    rw [setOf_eq_setFor, Bool.decide_and, beq_eq_decide, beq_eq_decide]
  simp only [tableOf, Fin.getElem_fin, Vector.getElem_ofFn, hhere]
  rfl

theorem tableOf_victim (pinned : List PinnedStation) (n : Fin 16) : (tableOf pinned)[n].victim = 0 := by
  simp [tableOf]

theorem rebooted_reboot (s : State) (clock : Tmu) (phase : Phase) : rebooted s (s.reboot clock phase) := by
  refine ⟨_, imageLoaded s.sst, loads_bankToLoad s.sst, reload_eq s.sst, forceSources_source _, rfl, rfl, rfl, rfl, rfl, rfl,
    rfl, fun k => Vector.getElem_ofFn .., fun k => ⟨_, wornTo_reachedState _ _ _, settledAccounts_account _ k⟩, tableOf_ways _,
    tableOf_victim _, rfl, rfl, rfl, rfl, rfl⟩

theorem rebooted_beginStartUp (s : State) (clock : Tmu) : rebooted s (s.beginStartUp clock) :=
  rebooted_reboot s clock .starting

theorem startsUp_beginStartUp (s : State) (clock : Tmu) : startsUp (s.beginStartUp clock) := ⟨rfl, rfl⟩

theorem softly_of_softReset (h : exec c s = .next (s.received c).softResetNow) : softly c s :=
  ⟨_, h, rebooted_beginStartUp _ _, startsUp_beginStartUp _ _, rfl⟩

/-! ## The soft reset -/

theorem exec_softReset (h : running s) (hlevel : 2 ≤ s.acu.level) : exec .softReset s = .next
    ((s.received .softReset).require s.sst.saving.isNone .busy fun s =>
      if s.lnk.inHand.isSome then
        let s1 := s.replyOk []
        s1.setLnk { s1.lnk with softReset := true }
      else s.softResetNow) :=
  exec_taken h execSoftReset rfl rfl (withLevel_reached (s := s.received _) hlevel _)

theorem softReset_answers (h : awaits s r) : ((s.replyOk []).setLnk { (s.replyOk []).lnk with softReset := true })
    = withLnk s { (s.replyOk []).lnk with softReset := true } := by
  rw [State.replyOk, answer_awaited h]
  rfl

theorem exec_replySent_softReset (h : running s) (hreply : s.lnk.reply ≠ none) (hsoft : s.lnk.softReset = true) :
    exec .replySent s = .next (s.received .replySent).softResetNow := by
  obtain ⟨reply, hreply⟩ := Option.ne_none_iff_exists'.1 hreply
  refine exec_taken h execReplySent rfl rfl ?_
  rw [show (s.received _).lnk.reply = _ from hreply, show (s.received _).lnk.softReset = _ from hsoft]
  rfl

/-- Settles O48: the resets take the image that loads and the reset values, and a soft reset keeps the hall time. -/
theorem resetsTakeTheResetValues : Obligations.ResetsTakeTheResetValues := by
  refine ⟨fun s => ⟨_, rfl, rebooted_reboot s _ _, rfl, rfl, rfl⟩, fun s hheld => ⟨s.beginStartUp clockAfterPin, if_pos hheld,
      rebooted_beginStartUp s _, startsUp_beginStartUp s _, rfl⟩, fun s hheld => if_neg hheld,
    fun s h => ⟨fun hlevel => ?_, fun hlevel hbusy => ?_, fun r hlevel hfree hwaits => ?_, fun hlevel hfree hhand => ?_⟩,
    fun s h hreply hsoft => softly_of_softReset (exec_replySent_softReset h hreply hsoft)⟩
  · exact exec_taken h execSoftReset rfl rfl (withLevel_below (s := s.received _) hlevel _)
  · refine (exec_softReset h hlevel).trans (congrArg _ (require_failed ?_ _ _))
    rwa [Option.isNone_eq_false_iff, Option.isSome_iff_ne_none]
  · refine (exec_softReset h hlevel).trans (congrArg _ ((require_met (by rw [hfree]; rfl) _ _).trans ?_))
    exact (if_pos (Option.isSome_of_eq_some hwaits.1)).trans (softReset_answers (s := s.received _) hwaits)
  · refine softly_of_softReset ((exec_softReset h hlevel).trans (congrArg _ ((require_met (by rw [hfree]; rfl) _ _).trans ?_)))
    exact if_neg (by rw [show (s.received _).lnk.inHand = _ from hhand]; decide)

end Sys2Proof.Resets
end

section
/-! SUPPORT. O49: start-up completes with RESTARTED latched, and raises what is present (R203). -/

namespace Sys2Proof.StartUp

open Sys2Proof Sys2Proof.Machine Sys2Proof.Safety Sys2Proof.Claims Sys2Proof.FillSegments Sys2Proof.Invariants Sys2Proof.Permit
  Sys2Proof.Accounts Sys2Proof.CameraWork

variable {s t : State} {src : FaultSource} {y : Source} {how : Raise} {cause : PermitCause} {act lat : FaultSource → Prop}

/-! ## Raising one source -/

/-- A source is written as `y`, reported, and PERMIT settled. -/
def raisedAs (s : State) (src : FaultSource) (y : Source) (how : Raise) (cause : PermitCause) : State :=
  ((withSource s src y).post (.fault src how (configOf s src).enable (configOf s src).mode (configOf s src).extension
    y.inEffect)).settlePermit src cause

theorem weighs_inEffectNow (c : SourceSettings) (x : Source) (now : RunTime) :
    weighs c now x { x with inEffect := inEffectNow c x now } := ⟨rfl, inEffectNow_iff c x now⟩

theorem latchSource_eq (hevent : src.isEvent = true) : s.latchSource src = raisedAs s src { fieldsOf s src with
    latched := true
    inEffect := inEffectNow (configOf s src) { fieldsOf s src with latched := true } s.tmu.now } .latch .latch :=
  latchSource_latches hevent (weighs_inEffectNow _ _ _)

theorem activateSource_eq (hevent : ¬ src.isEvent = true) (hactive : (fieldsOf s src).active = false) :
    s.activateSource src = raisedAs s src { fieldsOf s src with
      active := true, latched := true, since := some s.tmu.now
      inEffect := inEffectNow (configOf s src)
        { fieldsOf s src with active := true, latched := true, since := some s.tmu.now } s.tmu.now } .activation .activation :=
  activateSource_raises hevent hactive (weighs_inEffectNow _ _ _)

theorem onlyChanged_settlePermit (s : State) (src : FaultSource) (cause : PermitCause) :
    onlyChanged [.pml, .notices] s (s.settlePermit src cause) := by
  unfold State.settlePermit
  dsimp only
  split
  · exact onlyChanged_refl _ _
  · refine onlyChanged_trans (t := s.setPml { s.pml with permit := permitOf s.pml }) (fun p hp => ?_)
      (onlyChanged_mono (onlyChanged_post _ _) (by decide))
    cases p <;> simp_all [same]

theorem onlyChanged_raisedAs (s : State) (src : FaultSource) (y : Source) (how : Raise) (cause : PermitCause) :
    onlyChanged [.pml, .notices] s (raisedAs s src y how cause) := by
  refine onlyChanged_trans (t := withSource s src y) (fun p hp => ?_)
    (onlyChanged_trans (onlyChanged_mono (onlyChanged_post _ _) (by decide)) (onlyChanged_settlePermit _ _ _))
  cases p <;> simp_all [same, withSource]

theorem fieldsOf_raisedAs (other : FaultSource) :
    fieldsOf (raisedAs s src y how cause) other = if other = src then y else fieldsOf s other := by
  have hsources : (raisedAs s src y how cause).pml.sources = s.pml.sources.set (sourceNo src) y :=
    settlePermit_sources _ _ _
  rw [fieldsOf, hsources]
  split
  next h => rw [h]; exact Vector.getElem_set_self _
  next h =>
    refine Vector.getElem_set_ne _ _ fun heq => h ?_
    rw [← sourceOfNo_sourceNo other, ← sourceOfNo_sourceNo src, Fin.ext heq]

theorem attn_post (hrunning : running s) (n : Notice) : (s.post n).lnk.attn = true := by
  rw [post_lnk, post_attn_eq, show s.phase = .running from hrunning]
  simpa using placeNotice_ne_nil _ _

theorem attn_settlePermit (hrunning : running s) (hattn : s.lnk.attn = true) : (s.settlePermit src cause).lnk.attn = true := by
  unfold State.settlePermit
  dsimp only
  split
  · exact hattn
  · exact attn_post (s := s.setPml _) hrunning _

theorem attn_raisedAs (hrunning : running s) : (raisedAs s src y how cause).lnk.attn = true :=
  attn_settlePermit (s := (withSource s src y).post _) hrunning (attn_post (s := withSource s src y) hrunning _)

theorem permit_raisedAs (h : (fieldsOf (raisedAs s src y how cause) .restarted).inEffect = true) :
    (raisedAs s src y how cause).pml.permit = false := by
  have hpermit : (raisedAs s src y how cause).pml.permit = permitOf (withSource s src y).pml := settlePermit_permit _ _ _
  have hsources : (raisedAs s src y how cause).pml.sources = (withSource s src y).pml.sources := settlePermit_sources _ _ _
  rw [hpermit, Bool.eq_false_iff]
  intro hhigh
  rw [fieldsOf, hsources, (permitOf_iff _).1 hhigh] at h
  exact Bool.false_ne_true h

/-! ## Raising what is present -/

/-- From `s` some sources were raised: `act` are active, `lat` latched, and RESTARTED holds PERMIT low. -/
structure Raised (act lat : FaultSource → Prop) (s t : State) : Prop where
  only : onlyChanged [.pml, .notices] s t
  active : ∀ src, (fieldsOf t src).active = true ↔ act src
  latched : ∀ src, (fieldsOf t src).latched = true ↔ lat src
  restarted : (fieldsOf t .restarted).inEffect = true
  permit : t.pml.permit = false
  attn : t.lnk.attn = true

theorem Raised.congr {act' lat' : FaultSource → Prop} (h : Raised act lat s t) (hact : ∀ src, act src ↔ act' src)
    (hlat : ∀ src, lat src ↔ lat' src) : Raised act' lat' s t :=
  { h with active := fun src => (h.active src).trans (hact src), latched := fun src => (h.latched src).trans (hlat src) }

theorem Raised.phase (h : Raised act lat s t) (hrunning : running s) : running t :=
  (show t.phase = s.phase from h.only .phase (by decide)).trans hrunning

theorem Raised.raisedAs (h : Raised act lat s t) (hrunning : running s) (hsrc : src ≠ .restarted)
    (hlatched : y.latched = true) : Raised (fun x => if x = src then y.active = true else act x) (fun x => x = src ∨ lat x) s
      (raisedAs t src y how cause) where
  only := onlyChanged_trans h.only (onlyChanged_raisedAs t src y how cause)
  active x := by
    rw [fieldsOf_raisedAs]
    split
    · rfl
    · exact h.active x
  latched x := by
    rw [fieldsOf_raisedAs]
    split
    next hx => simp [hx, hlatched]
    next hx => simp [hx, h.latched x]
  restarted := by
    rw [fieldsOf_raisedAs, if_neg hsrc.symm]
    exact h.restarted
  permit := permit_raisedAs (by rw [fieldsOf_raisedAs, if_neg hsrc.symm]; exact h.restarted)
  attn := attn_raisedAs (h.phase hrunning)

theorem Raised.activateSource (h : Raised act lat s t) (hrunning : running s) (hevent : ¬ src.isEvent = true)
    (hactive : ¬ act src) : Raised (fun x => x = src ∨ act x) (fun x => x = src ∨ lat x) s (t.activateSource src) := by
  have hinactive : (fieldsOf t src).active = false := Bool.eq_false_iff.2 fun h' => hactive ((h.active src).1 h')
  have hsrc : src ≠ .restarted := fun heq => hevent (heq ▸ rfl)
  rw [activateSource_eq hevent hinactive]
  refine (h.raisedAs hrunning hsrc rfl).congr (fun x => ?_) fun x => Iff.rfl
  split
  next hx => simp [hx]
  next hx => simp [hx]

theorem Raised.latchSource (h : Raised act lat s t) (hrunning : running s) (hevent : src.isEvent = true)
    (hsrc : src ≠ .restarted) : Raised act (fun x => x = src ∨ lat x) s (t.latchSource src) := by
  rw [latchSource_eq hevent]
  refine (h.raisedAs hrunning hsrc rfl).congr (fun x => ?_) fun x => Iff.rfl
  split
  next hx => rw [hx]; exact h.active src
  next hx => rfl

theorem Raised.raiseIf {present : Bool} (h : Raised act lat s t) (hrunning : running s) (hevent : ¬ src.isEvent = true)
    (hactive : ¬ act src) : Raised (fun x => (x = src ∧ present = true) ∨ act x) (fun x => (x = src ∧ present = true) ∨ lat x) s
      (t.raiseIf present src) := by
  cases present with
  | true => exact (h.activateSource hrunning hevent hactive).congr (by simp) (by simp)
  | false => exact h.congr (by simp) (by simp)

theorem Raised.latchFailedLoad (h : Raised act lat s t) (hrunning : running s) :
    Raised act (fun x => (x = .storeFailed ∧ s.sst.loadFailed = true) ∨ lat x) s t.latchFailedLoad := by
  have hsst : t.sst = s.sst := h.only .sst (by decide)
  rw [State.latchFailedLoad, hsst]
  split
  next hfailed => exact (h.latchSource hrunning rfl (by decide)).congr (by simp) (by simp [hfailed])
  next hloaded => exact h.congr (by simp) (by simp [hloaded])

theorem raised_restarted (hrunning : running s) (hpml : s.pml = {}) (hforced : forcedSourcesForced s) :
    Raised (fun _ => False) (fun x => x = .restarted) s (s.latchSource .restarted) := by
  have hfields (src : FaultSource) : fieldsOf s src = {} := by
    rw [fieldsOf, hpml]
    exact Vector.getElem_replicate _
  have hconfig : configOf s .restarted = .forced := hforced 0 rfl
  have heffect : (fieldsOf (s.latchSource .restarted) .restarted).inEffect = true := by
    rw [latchSource_eq rfl, fieldsOf_raisedAs, if_pos rfl, hconfig]
    rfl
  rw [latchSource_eq rfl] at heffect ⊢
  refine ⟨onlyChanged_raisedAs _ _ _ _ _, fun x => ?_, fun x => ?_, heffect, permit_raisedAs heffect, attn_raisedAs hrunning⟩
  · rw [fieldsOf_raisedAs]
    split <;> simp [hfields]
  · rw [fieldsOf_raisedAs]
    split
    next hx => simp [hx]
    next hx => simp [hfields, hx]

theorem raised_atStart (hrunning : running s) (hpml : s.pml = {}) (hforced : forcedSourcesForced s) :
    Raised (fun x => (x = .cameraOffline ∧ someOffline s.ctu = true) ∨ (x = .cameraOverdue ∧ camerasOverdue s.tmu = true)
        ∨ (x = .gateOverdue ∧ gateOverdue s.tmu = true))
      (fun x => x = .restarted ∨ (x = .storeFailed ∧ s.sst.loadFailed = true) ∨ (x = .cameraOffline ∧ someOffline s.ctu = true)
        ∨ (x = .cameraOverdue ∧ camerasOverdue s.tmu = true) ∨ (x = .gateOverdue ∧ gateOverdue s.tmu = true))
      s s.raiseAtStart := by
  have hlatched := (raised_restarted hrunning hpml hforced).latchFailedLoad hrunning
  have hoffline := hlatched.raiseIf (present := someOffline s.ctu) (src := .cameraOffline) hrunning (by decide) (by simp)
  have hoverdue := hoffline.raiseIf (present := camerasOverdue s.tmu) (src := .cameraOverdue) hrunning (by decide) (by simp)
  have hgate := hoverdue.raiseIf (present := gateOverdue s.tmu) (src := .gateOverdue) hrunning (by decide) (by simp)
  refine hgate.congr (fun x => ?_) fun x => ?_
  · tauto
  · tauto

theorem exec_startUpComplete (a b : Bool) (h : s.phase = .starting) :
    exec (.startUpComplete a b) s = .next (Invariants.begun a b s).raiseAtStart := if_pos h

theorem onlyChanged_begun (a b : Bool) (s : State) :
    onlyChanged [.phase, .ltr, .fmu, .acu, .tmu, .sws, .pml, .notices] s (Invariants.begun a b s) := by
  intro p hp
  cases p <;> simp_all [same, Invariants.begun, State.startDeadlines]

/-- Settles O49: start-up completes with RESTARTED latched, with what is present raised and the deadlines running. -/
theorem startUpCompletesWithRestartedLatched : Obligations.StartUpCompletesWithRestartedLatched := by
  refine ⟨fun a b s h => if_neg h, fun a b s h hpml hforced => ⟨_, exec_startUpComplete a b h, ?_⟩⟩
  have hraised := raised_atStart (s := Invariants.begun a b s) rfl hpml hforced
  have hsame {p : Part} (hp : p ∉ [Part.pml, .notices]) :
      same (Invariants.begun a b s) (Invariants.begun a b s).raiseAtStart p := hraised.only p hp
  refine ⟨hraised.phase rfl, hsame (p := .ltr) (by decide), hsame (p := .fmu) (by decide), hsame (p := .acu) (by decide),
    hsame (p := .tmu) (by decide), hsame (p := .sws) (by decide), hraised.permit, hraised.attn, fun src => ?_, fun src => ?_,
    onlyChanged_trans (onlyChanged_begun a b s) (onlyChanged_mono hraised.only (by decide))⟩
  · rw [hraised.active, someOffline_eq, camerasOverdue_eq, gateOverdue_eq, anyOffline]
    simp only [decide_eq_true_eq]
    rfl
  · rw [hraised.latched, hraised.active]
    rfl

end Sys2Proof.StartUp
end

section
/-! SUPPORT. O50: the geometry, the track and the settings of a unit change when they are free (R5, R14, R36, R75). -/

namespace Sys2Proof.UnitSettings

open Sys2Proof Sys2Proof.Machine Sys2Proof.Safety Sys2Proof.Claims Sys2Proof.BottleTrack Sys2Proof.Track Sys2Proof.AxisMoves
  Sys2Proof.Recipes Sys2Proof.Cabinet

variable {s : State} {l n t d : Nat} {g : Geometry}

/-! ## The geometry -/

theorem countDirectionOf_of_le (h : d ≤ 1) : countDirectionOf d = some (if d = 0 then .aLeads else .bLeads) := by
  match d, h with
  | 0, _ => rfl
  | 1, _ => rfl

theorem countDirectionOf_of_not_le (h : ¬ d ≤ 1) : countDirectionOf d = none := by
  match d, h with
  | 0, h => exact absurd (by decide) h
  | 1, h => exact absurd (by decide) h
  | d + 2, _ => rfl

theorem offsetsFit_iff (c : Settings) (l : Nat) : offsetsFit c l = true ↔ (∀ k : AxisNo, c.axes[k].startOffset < l)
    ∧ ∀ k : CameraNo, c.cameras[k].pitchOffset + c.cameras[k].window < l := by
  simp [offsetsFit, axisNos_eq, cameraNos_eq]

theorem geometryFits_iff : geometryFits s l n t d
    ↔ d ≤ 1 ∧ (geometryInRange l n t && offsetsFit s.cfg l) = true := by
  rw [Bool.and_eq_true, offsetsFit_iff]
  simp only [geometryFits, geometryInRange, Bool.and_eq_true, decide_eq_true_eq]
  tauto

theorem lineIdle_iff (s : State) : (s.ltr.track.isEmpty && s.ltr.verify.isNone) = true
    ↔ s.ltr.track = [] ∧ s.ltr.verify = none := by
  rw [Bool.and_eq_true, List.isEmpty_iff, Option.isNone_iff_eq_none]

theorem sending_nil (s : State) : sending s [] = s := by
  rw [sending, List.append_nil]

theorem applyGeometry_eq (s : State) (g : Geometry) : s.applyGeometry g
    = withDebt (sending (withLtr (withSettings s { s.cfg with geometry := g })
        { s.ltr with step := if g.stepsPerPitch ≠ s.cfg.geometry.stepsPerPitch then 0 else s.ltr.step })
      (if g.stepsPerPitch ≠ s.cfg.geometry.stepsPerPitch ∧ s.ltr.step ≠ 0 then [.lineTrigger 0] else [])) s.ltr.debt := by
  unfold State.applyGeometry
  by_cases hsame : g.stepsPerPitch = s.cfg.geometry.stepsPerPitch
  · simp only [hsame, true_or, if_true, ne_eq, not_true_eq_false, if_false, false_and, sending_nil]
    exact settleReverse_eq_withDebt (s.configure { s.cfg with geometry := g }) s.ltr.debt
  · by_cases hstep : s.ltr.step = 0
    · simp only [hsame, hstep, or_true, if_true, ne_eq, not_false_eq_true, not_true_eq_false, and_false, if_false, sending_nil]
      exact (settleReverse_eq_withDebt (s.configure { s.cfg with geometry := g }) s.ltr.debt).trans (by rw [← hstep]; rfl)
    · simp only [hsame, hstep, or_self, if_false, ne_eq, not_false_eq_true, and_self, if_true]
      exact settleReverse_eq_withDebt ((s.configure { s.cfg with geometry := g }).setStep 0) s.ltr.debt

/-- The checks of a line geometry, and what it does when they are met. -/
def geometryChecked (s : State) (l n t d : Nat) : State :=
  s.requireSome (countDirectionOf d) .badValue fun d s =>
    s.require (geometryInRange l n t && offsetsFit s.cfg l) .badValue fun s =>
      s.require (s.ltr.track.isEmpty && s.ltr.verify.isNone) .busy fun s => (s.applyGeometry ⟨l, n, t, d⟩).replyOk []

theorem exec_lineGeometry (h : running s) (hlevel : 2 ≤ s.acu.level) : exec (.lineGeometry l n t d) s
    = .next (geometryChecked (s.received (.lineGeometry l n t d)) l n t d) :=
  exec_taken h (execLineGeometry l n t d) rfl rfl (withLevel_reached (s := s.received _) hlevel _)

theorem geometryChecked_unfit (h : ¬ geometryFits s l n t d) : geometryChecked s l n t d = s.refuse .badValue := by
  rw [geometryFits_iff, not_and] at h
  by_cases hd : d ≤ 1
  · rw [geometryChecked, requireSome_met (countDirectionOf_of_le hd)]
    exact require_failed (Bool.eq_false_iff.2 (h hd)) _ _
  · exact requireSome_failed (countDirectionOf_of_not_le hd) _ _

theorem geometryChecked_fits (h : geometryFits s l n t d) : geometryChecked s l n t d
    = s.require (s.ltr.track.isEmpty && s.ltr.verify.isNone) .busy fun s =>
      (s.applyGeometry ⟨l, n, t, if d = 0 then .aLeads else .bLeads⟩).replyOk [] := by
  obtain ⟨hd, hrange⟩ := geometryFits_iff.1 h
  rw [geometryChecked, requireSome_met (countDirectionOf_of_le hd)]
  exact require_met hrange _ _

theorem lineGeometryReplacesTheGeometry : LineGeometryReplacesTheGeometry := by
  refine fun l n t d s h hlevel => ⟨fun hfits => ?_, fun hfits hbusy => ?_, fun hfits hidle => ?_⟩
  · exact (exec_lineGeometry h hlevel).trans (congrArg _ (geometryChecked_unfit (s := s.received _) hfits))
  · refine (exec_lineGeometry h hlevel).trans (congrArg _ ((geometryChecked_fits (s := s.received _) hfits).trans ?_))
    exact require_failed (Bool.eq_false_iff.2 fun hidle => hbusy ((lineIdle_iff s).1 hidle)) _ _
  · refine (exec_lineGeometry h hlevel).trans (congrArg _ ((geometryChecked_fits (s := s.received _) hfits).trans ?_))
    refine (require_met ((lineIdle_iff s).2 hidle) _ _).trans ?_
    rw [applyGeometry_eq]
    rfl

/-! ## The track -/

/-- An axis holds a bottle under the valve. -/
def isFilling (s : State) : Prop :=
  ∃ k : AxisNo, (s.axis k).assignments ≠ [] ∧
    ((s.axis k).motion = .lowering ∨ (s.axis k).motion = .filling ∨ (s.axis k).motion = .raising)

theorem isFilling_iff (s : State) : (axisNos.any fun k => (s.axis k).isFillingAssigned) = true ↔ isFilling s := by
  simp [axisNos_eq, Axis.isFillingAssigned, isFilling, or_assoc]

theorem exec_lineClear (h : running s) (hlevel : 1 ≤ s.acu.level) : exec .lineClear s
    = .next ((s.received .lineClear).require (!axisNos.any fun k => (s.axis k).isFillingAssigned) .busy fun s =>
      s.clearTrack.replyOk (byte s.ltr.track.length)) :=
  exec_taken h execLineClear rfl rfl (withLevel_reached (s := s.received _) hlevel _)

theorem clearTrack_eq (h : s.ltr.counters[6] + s.ltr.track.length ≤ 18446744073709551615) : s.clearTrack
    = sending (withLtr s { s.ltr with
      track := [], counters := s.ltr.counters.set 6 (s.ltr.counters[6] + s.ltr.track.length) })
      [.fmuLineClear, .ctuLineClear] := by
  have hcount : s.ltr.counters[lineCounterIx .cleared] + s.ltr.track.length ≤ Config.top64 := h
  rw [State.clearTrack, countLine_below hcount]
  rfl

theorem lineClearEmptiesTheTrack : LineClearEmptiesTheTrack := by
  refine fun s h hlevel => ⟨fun hfilling => ?_, fun hfree hroom => ?_⟩
  · refine (exec_lineClear h hlevel).trans (congrArg _ (require_failed ?_ _ _))
    rw [(isFilling_iff s).2 hfilling]
    rfl
  · refine (exec_lineClear h hlevel).trans (congrArg _ ((require_met ?_ _ _).trans ?_))
    · rw [Bool.eq_false_iff.2 fun hfilling => hfree ((isFilling_iff s).1 hfilling)]
      rfl
    · rw [clearTrack_eq (s := s.received _) hroom]
      rfl

/-! ## Axes and cameras -/

theorem profileInRange_iff (p : Profile) : profileInRange p = true ↔ profileFits p := by
  simp [profileInRange, profileFits, and_assoc]

theorem isOccupied_iff (a : Axis) : a.isOccupied = true ↔ a.assignments ≠ [] ∨ a.profile ≠ none ∨ a.valveTestEnd ≠ none := by
  simp [Axis.isOccupied, Axis.inMotion, or_assoc, Option.isSome_iff_ne_none]

theorem axisSettingsInRange_iff (c : AxisSettings) (gateOffset : Nat) : axisSettingsInRange c gateOffset = true
    ↔ 1 ≤ c.startOffset ∧ c.startOffset < gateOffset ∧ profileFits c.manual ∧ 1 ≤ c.homingLimit
      ∧ c.homingLimit ≤ 8388607 := by
  simp [axisSettingsInRange, profileInRange_iff, and_assoc]

theorem cameraSettingsInRange_iff (c : CameraSettings) (g : Geometry) : cameraSettingsInRange c g = true
    ↔ 1 ≤ c.pitchOffset ∧ c.pitchOffset < g.gateOffset ∧ c.stepOffset < g.stepsPerPitch ∧ 1 ≤ c.window ∧ c.window ≤ 16
      ∧ c.pitchOffset + c.window < g.gateOffset := by
  simp [cameraSettingsInRange, and_assoc]

theorem cameraOccupied_iff (s : State) (k : CameraNo) : s.cameraOccupied k = true
    ↔ (∃ b ∈ s.ltr.track, ∃ v ∈ b.verdicts, v.1 = k) ∨ (s.camera k).pending ≠ [] := by
  simp [State.cameraOccupied]

/-- The checks of an axis configuration, and what it does when they are met. -/
def axisConfigured (s : State) (n : Nat) (c : AxisSettings) : State :=
  s.requireSome (finOf 8 n) .badValue fun k s =>
    s.require (axisSettingsInRange c s.cfg.geometry.gateOffset) .badValue fun s =>
      s.require (!(s.axis k).isOccupied) .busy fun s =>
        (s.configure { s.cfg with axes := s.cfg.axes.set k c }).replyOk []

theorem exec_axisConfig {offset startSpeed topSpeed acceleration limit : Nat} (h : running s) (hlevel : 2 ≤ s.acu.level) :
    exec (.axisConfig n offset startSpeed topSpeed acceleration limit) s
      = .next (axisConfigured (s.received (.axisConfig n offset startSpeed topSpeed acceleration limit)) n
        ⟨offset, ⟨startSpeed, topSpeed, acceleration⟩, limit⟩) :=
  exec_taken h (execAxisConfig n offset startSpeed topSpeed acceleration limit) rfl rfl
    (withLevel_reached (s := s.received _) hlevel _)

theorem axisConfigured_unfit {c : AxisSettings} (h : 8 ≤ n ∨ ¬ axisSettingsInRange c s.cfg.geometry.gateOffset = true) :
    axisConfigured s n c = s.refuse .badValue := by
  by_cases hn : n < 8
  · rw [axisConfigured, requireSome_met (finOf_some hn)]
    exact require_failed (Bool.eq_false_iff.2 (h.resolve_left (not_le.2 hn))) _ _
  · exact requireSome_failed (finOf_none (not_lt.1 hn)) _ _

theorem axisConfigured_fits {c : AxisSettings} {k : AxisNo} (hk : k.val = n)
    (hfits : axisSettingsInRange c s.cfg.geometry.gateOffset = true) : axisConfigured s n c
      = s.require (!(s.axis k).isOccupied) .busy fun s =>
        (s.configure { s.cfg with axes := s.cfg.axes.set k c }).replyOk [] := by
  subst hk
  rw [axisConfigured, requireSome_met (finOf_some k.isLt)]
  exact require_met hfits _ _

/-- The checks of a camera configuration, and what it does when they are met. -/
def cameraConfigured (s : State) (n : Nat) (c : CameraSettings) : State :=
  s.requireSome (finOf 6 n) .badValue fun k s =>
    s.require (cameraSettingsInRange c s.cfg.geometry) .badValue fun s =>
      s.require (!s.cameraOccupied k) .busy fun s =>
        (s.configure { s.cfg with cameras := s.cfg.cameras.set k c }).replyOk []

theorem exec_cameraConfig {offset step window : Nat} (h : running s) (hlevel : 2 ≤ s.acu.level) :
    exec (.cameraConfig n offset step window) s
      = .next (cameraConfigured (s.received (.cameraConfig n offset step window)) n ⟨offset, step, window⟩) :=
  exec_taken h (execCameraConfig n offset step window) rfl rfl (withLevel_reached (s := s.received _) hlevel _)

theorem cameraConfigured_unfit {c : CameraSettings} (h : 6 ≤ n ∨ ¬ cameraSettingsInRange c s.cfg.geometry = true) :
    cameraConfigured s n c = s.refuse .badValue := by
  by_cases hn : n < 6
  · rw [cameraConfigured, requireSome_met (finOf_some hn)]
    exact require_failed (Bool.eq_false_iff.2 (h.resolve_left (not_le.2 hn))) _ _
  · exact requireSome_failed (finOf_none (not_lt.1 hn)) _ _

theorem cameraConfigured_fits {c : CameraSettings} {k : CameraNo} (hk : k.val = n)
    (hfits : cameraSettingsInRange c s.cfg.geometry = true) : cameraConfigured s n c
      = s.require (!s.cameraOccupied k) .busy fun s =>
        (s.configure { s.cfg with cameras := s.cfg.cameras.set k c }).replyOk [] := by
  subst hk
  rw [cameraConfigured, requireSome_met (finOf_some k.isLt)]
  exact require_met hfits _ _

theorem unitsAreConfiguredWhenFree : UnitsAreConfiguredWhenFree := by
  refine ⟨fun n offset startSpeed topSpeed acceleration limit s h => ?_, fun n offset step window s h => ?_⟩
  · have hrange := axisSettingsInRange_iff ⟨offset, ⟨startSpeed, topSpeed, acceleration⟩, limit⟩ s.cfg.geometry.gateOffset
    refine ⟨fun hlevel => ?_, fun hlevel hbad => ?_, fun k hlevel hk hfits => ?_⟩
    · exact exec_taken h (execAxisConfig n offset startSpeed topSpeed acceleration limit) rfl rfl
        (withLevel_below (s := s.received _) hlevel _)
    · exact (exec_axisConfig h hlevel).trans (congrArg _
        (axisConfigured_unfit (s := s.received _) (hbad.imp_right fun hunfit hin => hunfit (hrange.1 hin))))
    · have hchecked := (exec_axisConfig h hlevel).trans (congrArg _
        (axisConfigured_fits (s := s.received _) hk (hrange.2 hfits)))
      refine ⟨fun hbusy => hchecked.trans (congrArg _ (require_failed ?_ _ _)),
        fun hfree => hchecked.trans (congrArg _ ((require_met ?_ _ _).trans rfl))⟩
      · exact congrArg Bool.not ((isOccupied_iff _).2 hbusy)
      · exact congrArg Bool.not (Bool.eq_false_iff.2 fun hin => hfree ((isOccupied_iff _).1 hin))
  · have hrange := cameraSettingsInRange_iff ⟨offset, step, window⟩ s.cfg.geometry
    refine ⟨fun hlevel => ?_, fun hlevel hbad => ?_, fun k hlevel hk hfits => ?_⟩
    · exact exec_taken h (execCameraConfig n offset step window) rfl rfl (withLevel_below (s := s.received _) hlevel _)
    · exact (exec_cameraConfig h hlevel).trans (congrArg _
        (cameraConfigured_unfit (s := s.received _) (hbad.imp_right fun hunfit hin => hunfit (hrange.1 hin))))
    · have hchecked := (exec_cameraConfig h hlevel).trans (congrArg _
        (cameraConfigured_fits (s := s.received _) hk (hrange.2 hfits)))
      refine ⟨fun hbusy => hchecked.trans (congrArg _ (require_failed ?_ _ _)),
        fun hfree => hchecked.trans (congrArg _ ((require_met ?_ _ _).trans rfl))⟩
      · exact congrArg Bool.not ((cameraOccupied_iff _ _).2 hbusy)
      · exact congrArg Bool.not (Bool.eq_false_iff.2 fun hin => hfree ((cameraOccupied_iff _ _).1 hin))

/-- Settles O50: the geometry, the track and the settings of a unit change when nothing uses them. -/
theorem lineAndUnitsAreConfiguredWhenFree : Obligations.LineAndUnitsAreConfiguredWhenFree :=
  ⟨lineGeometryReplacesTheGeometry, lineClearEmptiesTheTrack, unitsAreConfiguredWhenFree⟩

end Sys2Proof.UnitSettings
end

section
/-! SUPPORT. O51: records and table entries are read in their layouts (R19, R22, R120 to R124). -/

namespace Sys2Proof.Tables

open Sys2Proof Sys2Proof.Machine Sys2Proof.Safety Sys2Proof.Claims Sys2Proof.BottleTrack Sys2Proof.Track Sys2Proof.AxisMoves
  Sys2Proof.Cabinet Sys2Proof.Wire

variable {s : State} {a : Address} {b : Bottle} {e : Station} {n serial : Nat} {older read newer : List Bottle}

/-! ## The layout of a record -/

/-- The six bytes of a record's verdicts: its entries, and 0xFF after them. -/
def verdictBytes (b : Bottle) : List Byte :=
  ((b.verdicts.map fun v => BitVec.ofNat 8 (v.1.val * 16 + verdictCode v.2)) ++ List.replicate 6 0xFF#8).take 6

/-- The byte at place `i` of the verdicts. -/
def verdictByte (b : Bottle) (i : Nat) : Byte :=
  match b.verdicts[i]? with
  | some v => BitVec.ofNat 8 (16 * v.1.val + verdictCode v.2)
  | none => 0xFF

theorem verdictBytes_getElem? {i : Nat} (h : i < 6) : (verdictBytes b)[i]? = some (verdictByte b i) := by
  rw [verdictBytes, List.getElem?_take_of_lt h, verdictByte]
  by_cases hi : i < b.verdicts.length
  · rw [List.getElem?_append_left (by simpa using hi), List.getElem?_map, List.getElem?_eq_getElem hi, Option.map_some,
      Nat.mul_comm]
  · rw [List.getElem?_append_right (by simpa using hi), List.getElem?_eq_none (not_lt.1 hi), List.length_map,
      List.getElem?_replicate, if_pos (by omega)]
    rfl

theorem verdictBytes_eq (b : Bottle) : verdictBytes b
    = [verdictByte b 0, verdictByte b 1, verdictByte b 2, verdictByte b 3, verdictByte b 4, verdictByte b 5] := by
  have hlen : (verdictBytes b).length = 6 := by simp [verdictBytes]
  refine List.ext_getElem? fun i => ?_
  by_cases hi : i < 6
  · rw [verdictBytes_getElem? hi]
    interval_cases i <;> rfl
  · rw [List.getElem?_eq_none (by omega), List.getElem?_eq_none (by simpa using hi)]

theorem bottleBytes_eq (b : Bottle) (position : Nat) : bottleBytes b position
    = be 4 b.serial ++ be 4 b.infeedPitch.toNat ++ be 8 (b.stamp.getD 0)
      ++ [flagsByte b.stamp.isSome b.fillAxis.isSome b.sample.isSome, BitVec.ofNat 8 b.recipe,
        BitVec.ofNat 8 ((b.fillAxis.map fun k => k.val).getD 0), BitVec.ofNat 8 (fillResultCode b.fill),
        BitVec.ofNat 8 b.verdicts.length]
      ++ [verdictByte b 0, verdictByte b 1, verdictByte b 2, verdictByte b 3, verdictByte b 4, verdictByte b 5]
      ++ [BitVec.ofNat 8 ((b.sample.map fun w => w.val).getD 0), BitVec.ofNat 8 b.hits.toNat] ++ be 4 position := by
  rw [← verdictBytes_eq]
  simp only [bottleBytes, verdictBytes, List.append_assoc]
  rfl

theorem recordLayout_bottleBytes (b : Bottle) (position : Nat) : recordLayout b position (bottleBytes b position) := by
  rw [bottleBytes_eq]
  refine ⟨rfl, rfl, rfl, rfl, rfl, rfl, fun k hk => ?_, fun hk => ?_, rfl, rfl, fun i => ?_, fun w hw => ?_, fun hw => ?_,
    rfl, rfl⟩
  · rw [hk]; rfl
  · rw [hk]; rfl
  · fin_cases i <;> rfl
  · rw [hw]; rfl
  · rw [hw]; rfl

/-! ## The track -/

theorem recordsFrom_eq (holder : ∀ b ∈ older, b.serial < serial) (hread : ∀ b ∈ (read ++ newer).head?, serial ≤ b.serial)
    (hlen : read.length = 6 ∨ (read.length < 6 ∧ newer = [])) : recordsFrom (older ++ read ++ newer) serial = read := by
  have hdrop : (older ++ (read ++ newer)).dropWhile (fun b => decide (b.serial < serial)) = read ++ newer := by
    rw [List.dropWhile_append_of_pos fun b hb => decide_eq_true (holder b hb)]
    match hrest : read ++ newer with
    | [] => rfl
    | b :: rest =>
      rw [hrest] at hread
      rw [List.dropWhile_cons_of_neg (by simpa using hread b rfl)]
  rw [recordsFrom, List.append_assoc, hdrop]
  rcases hlen with hlen | ⟨hlen, rfl⟩
  · rw [← hlen, List.take_left]
  · rw [List.append_nil, List.take_of_length_le (by omega)]

theorem exec_trackRead (h : running s) : exec (.trackRead serial) s = .next ((s.received (.trackRead serial)).require
    (1 ≤ serial && serial ≤ Config.lastSerial) .badValue fun s =>
      s.replyOk (listBytes (fun b => bottleBytes b (position s.ltr.pitch b)) (recordsFrom s.ltr.track serial))) :=
  exec_taken h (execTrackRead serial) rfl rfl rfl

theorem trackReadReturnsRecordsInTheirLayout : TrackReadReturnsRecordsInTheirLayout := by
  refine ⟨recordLayout_bottleBytes, fun serial s h => ⟨fun hbad => ?_,
    fun older read newer hlow hhigh htrack holder hread hlen => ?_⟩⟩
  · refine (exec_trackRead h).trans (congrArg _ (require_failed ?_ _ _))
    simp only [Bool.and_eq_false_iff, decide_eq_false_iff_not, not_le, Nat.lt_one_iff]
    exact hbad
  · refine (exec_trackRead h).trans (congrArg _ ((require_met ?_ _ _).trans ?_))
    · simp only [Bool.and_eq_true, decide_eq_true_eq]
      exact ⟨hlow, hhigh⟩
    · rw [show (s.received _).ltr.track = _ from htrack, recordsFrom_eq holder hread hlen]
      rfl

/-! ## The layout of a station -/

theorem stationLayout_stationBytes (e : Station) : stationLayout e (stationBytes e) := by
  obtain ⟨address, port, kind, role, state, grant, firstSeen, lastSeen⟩ := e
  cases role with
  | _ => exact ⟨rfl, rfl, rfl, by rw [Nat.mul_comm]; rfl, rfl, rfl, rfl, rfl, rfl, rfl⟩

/-! ## The readers of the tables -/

theorem wayBytes_none : wayBytes none = List.replicate 28 0 := rfl

theorem forgetBytes_ne_nil (f : Forget) : forgetBytes f ≠ [] := List.cons_ne_nil _ _

theorem toList_eq_finRange {α : Type} (v : Vector α 4) : v.toList = (List.finRange 4).map fun w => v[w] := by
  refine List.ext_getElem (by simp) fun i hi _ => ?_
  simp

theorem stationRead_body (s : State) (n : Fin 16) : byte n ++ byte (s.stationSet n).victim
      ++ (s.stationSet n).ways.toList.flatMap wayBytes
    = [BitVec.ofNat 8 n, BitVec.ofNat 8 s.sws.table[n].victim] ++ (List.finRange 4).flatMap fun (w : Fin 4) =>
      wayBytes s.sws.table[n].ways[w] := by
  rw [toList_eq_finRange, List.flatMap_map]
  rfl

theorem exec_stationRead_entries (h : running s) (n : Fin 16) {entries : Fin 4 → List Byte}
    (hentries : ∀ w : Fin 4, wayBytes s.sws.table[n].ways[w] = entries w) : exec (.stationRead n) s
    = .next ((s.received (.stationRead n)).replyOk ([BitVec.ofNat 8 n, BitVec.ofNat 8 s.sws.table[n].victim]
      ++ (List.finRange 4).flatMap entries)) := by
  refine exec_taken h (execStationRead n) rfl rfl ((requireSome_met (finOf_some n.isLt) _ _).trans ?_)
  rw [← funext hentries, ← stationRead_body]
  rfl

theorem exec_stationRead_none (h : running s) (hn : 16 ≤ n) :
    exec (.stationRead n) s = .next ((s.received (.stationRead n)).refuse .badValue) :=
  exec_taken h (execStationRead n) rfl rfl (requireSome_failed (finOf_none hn) _ _)

/-- What a lookup answers: the entry and the forget it found, if any. -/
def lookupReply (a : Address) (hit : Option (Fin 4 × Station)) (forget : Option Forget) : List Byte :=
  [flagsByte hit.isSome forget.isSome false, BitVec.ofNat 8 (a.toNat % 16), BitVec.ofNat 8 ((hit.map fun h => h.1.val).getD 0)]
    ++ wayBytes (hit.map fun h => h.2) ++ (forget.map forgetBytes).getD []

theorem lookupBody_eq (s : State) (a : Address) :
    lookupBody s a = lookupReply a (s.lookup a) (s.sws.forgets.find? fun x => decide (x.address = a)) := by
  have hset : (setOf a).val = a.toNat % 16 := congrArg Fin.val (Invariants.setOf_eq_setFor a)
  have hfind : (s.sws.forgets.find? fun x => decide (x.address = a)) = s.sws.forgets.find? fun f => f.address == a := rfl
  unfold lookupBody lookupReply
  rw [hfind, hset]
  cases s.sws.forgets.find? fun f => f.address == a <;> rfl

theorem tableReadersReturnTheirEntries : TableReadersReturnTheirEntries := by
  refine ⟨stationLayout_stationBytes, fun s h => ⟨fun n hn => exec_stationRead_none h hn, fun n => ?_,
    fun a hit w entry forget hentry hforget => ?_, fun n hn => ?_, fun n hn => ?_, fun n hn => ?_, fun n hn => ?_⟩⟩
  · refine exec_stationRead_entries h n fun w => ?_
    cases s.sws.table[n].ways[w] <;> rfl
  · refine exec_taken h (execStationLookup a) rfl rfl (congrArg _ ((lookupBody_eq _ a).trans ?_))
    have hforgets : lookupReply a (s.lookup a) (s.sws.forgets.find? fun x => decide (x.address = a))
        = [flagsByte (s.lookup a).isSome (decide (forget ≠ [])) false, BitVec.ofNat 8 (a.toNat % 16),
          BitVec.ofNat 8 (((s.lookup a).map fun h => h.1.val).getD 0)]
          ++ wayBytes ((s.lookup a).map fun h => h.2) ++ forget := by
      rcases hforget with ⟨f, hfound, rfl⟩ | ⟨hnone, rfl⟩
      · rw [hfound, decide_eq_true (forgetBytes_ne_nil f)]
        rfl
      · rw [show (s.sws.forgets.find? fun x => decide (x.address = a)) = none from find_forget_none hnone]
        rfl
    refine hforgets.trans ?_
    rcases hentry with ⟨v, e, hstands, rfl, rfl, rfl⟩ | ⟨hmisses, rfl, rfl, rfl⟩
    · rw [lookup_of_standsIn hstands]
      rfl
    · rw [lookup_of_misses hmisses]
      rfl
  · refine exec_taken h (execForgetRead n) rfl rfl (require_failed ?_ _ _)
    exact decide_eq_false (by omega)
  · exact exec_taken h (execForgetRead n) rfl rfl (require_met (decide_eq_true hn) _ _)
  · refine exec_taken h (execRejectLogRead n) rfl rfl (require_failed ?_ _ _)
    exact decide_eq_false (by omega)
  · exact exec_taken h (execRejectLogRead n) rfl rfl (require_met (decide_eq_true hn) _ _)

/-- Settles O51: records and table entries are read in their layouts. -/
theorem tablesAreReadInTheirLayouts : Obligations.TablesAreReadInTheirLayouts :=
  ⟨trackReadReturnsRecordsInTheirLayout, tableReadersReturnTheirEntries⟩

end Sys2Proof.Tables
end

section
/-! SUPPORT. O52: what the readers of the line, the units, the tables and the state answer (R20, R37, R76, R126, R184). -/

namespace Sys2Proof.Readers

open Sys2Proof Sys2Proof.Machine Sys2Proof.Safety Sys2Proof.Claims Sys2Proof.BottleTrack Sys2Proof.Track Sys2Proof.AxisMoves
  Sys2Proof.Recipes Sys2Proof.CameraWork Sys2Proof.Cabinet Sys2Proof.Accounts Sys2Proof.Clocks Sys2Proof.FillSegments

variable {s : State} {c : Instr} {i n : Nat}

/-- A reader answers the body of the state it receives. -/
theorem reads_of_taken {body : State → List Byte} {answer : List Byte} (h : running s) (x : State → Result)
    (hexec : exec c s = x s) (hx : x s = taken c s fun s => s.replyOk (body s)) (hbody : body (s.received c) = answer) :
    reads s c answer :=
  exec_taken h x hexec hx (congrArg _ hbody)

/-! ## The line and the units -/

theorem verifyBytes_eq (v : Option VerifyReject) : lineStatusBody.verifyBytes v
    = (v.map fun v => 1 :: optional 4 v.serial).getD [0, 0, 0, 0, 0, 0] := by
  cases v <;> rfl

theorem trimModeCode_bit (mode : TrimMode) : byte (trimModeCode mode) = [if mode = .auto then 0 else 1] := by
  cases mode <;> rfl

theorem countDirectionCode_bit (d : CountDirection) : byte (countDirectionCode d) = [if d = .aLeads then 0 else 1] := by
  cases d <;> rfl

theorem reads_trims (h : running s) (hi : indexInUse s.cfg s.fmu.temperature i) :
    reads s .trimRead (s.cfg.trims.toList.flatMap (beSigned 2)
      ++ [if s.cfg.trimMode = .auto then 0 else 1, BitVec.ofNat 8 s.cfg.pinnedIndex, BitVec.ofNat 8 i]) := by
  refine reads_of_taken h execTrimRead rfl rfl ?_
  rw [trimModeCode_bit, show trimIndexInUse (s.received _).cfg (s.received _).fmu.temperature = i from trimIndexInUse_eq hi]
  simp only [byte, List.append_assoc, List.cons_append, List.nil_append]
  rfl

theorem reads_fillStatus (h : running s) (hi : indexInUse s.cfg s.fmu.temperature i) :
    reads s .fillStatus ([BitVec.ofNat 8 s.fmu.active, BitVec.ofNat 8 s.fmu.pointer,
        if s.cfg.trimMode = .auto then 0 else 1, BitVec.ofNat 8 s.cfg.pinnedIndex, BitVec.ofNat 8 i]
      ++ optionalSigned 2 s.fmu.temperature ++ yesNo s.fmu.tempStale ++ be 8 (left s s.fmu.temperatureDeadline)
      ++ [(0 : AxisNo), 1, 2, 3, 4, 5, 6, 7].flatMap fun k => fillAxisBytes s k) := by
  refine reads_of_taken h execFillStatus rfl rfl ?_
  rw [trimModeCode_bit, show trimIndexInUse (s.received _).cfg (s.received _).fmu.temperature = i from trimIndexInUse_eq hi]
  rfl

theorem exec_recipeRead_none (h : running s) (hn : 16 ≤ n) :
    exec (.recipeRead n) s = .next ((s.received (.recipeRead n)).refuse .badValue) :=
  exec_taken h (execRecipeRead n) rfl rfl (requireSome_failed (finOf_none hn) _ _)

theorem reads_recipe (h : running s) (n : RecipeNo) : reads s (.recipeRead n) (recipeBytes s.cfg.recipes[n]
    ++ [if n = s.fmu.active then 1 else 0, BitVec.ofNat 8 (s.ltr.track.filter fun b => decide (b.recipe = n)).length]) := by
  refine exec_taken h (execRecipeRead n) rfl rfl ((requireSome_met (finOf_some n.isLt) _ _).trans (congrArg _ ?_))
  have hactive : yesNo (n == s.fmu.active) = [if n = s.fmu.active then 1 else 0] := by
    rw [yesNo_eq, beq_eq_decide]
    simp only [decide_eq_true_eq]
  exact (List.append_assoc _ _ _).trans (congrArg (_ ++ ·) (congrArg (· ++ _) hactive))

theorem reads_lineStatus_eq (h : running s) : reads s .lineStatus (lineStatusBody s) :=
  reads_of_taken h execLineStatus rfl rfl rfl

theorem lineAndUnitReadersAnswer : LineAndUnitReadersAnswer := by
  refine ⟨fun s h => ?_, fun i s h hi => ⟨reads_trims h hi, reads_fillStatus h hi⟩, fun n s h hn => exec_recipeRead_none h hn,
    fun n s h => reads_recipe h n, fun axes s h => ⟨fun hzero => ?_, fun hsome => ?_⟩,
    fun cameras s h => ⟨fun hbad => ?_, fun hgood => ?_⟩⟩
  · refine reads_of_taken h execLineStatus rfl rfl ?_
    simp only [lineStatusBody, countDirectionCode_bit, verifyBytes_eq]
    cases hverify : s.ltr.verify with
    | none =>
      rw [show (s.received _).ltr.verify = none from hverify]
      simp only [byte, List.append_assoc, List.cons_append, List.nil_append]
      rfl
    | some v =>
      rw [show (s.received _).ltr.verify = some v from hverify]
      simp only [byte, List.append_assoc, List.cons_append, List.nil_append]
      rfl
  · exact exec_taken h (execAxisStatus axes) rfl rfl (require_failed (by simp [hzero]) _ _)
  · exact exec_taken h (execAxisStatus axes) rfl rfl (require_met (by simpa using hsome) _ _)
  · exact exec_taken h (execCameraStatus cameras) rfl rfl (require_failed (cameraSetOk_false hbad) _ _)
  · exact exec_taken h (execCameraStatus cameras) rfl rfl (require_met (cameraSetOk_true hgood) _ _)

/-! ## The tables and the state -/

theorem upDownCode_bit (b : UpDown) : byte (upDownCode b) = [if b = .up then 0 else 1] := by
  cases b <;> rfl

theorem stations_eq (x : Sws) :
    x.stations = (List.finRange 16).flatMap fun n => (List.finRange 4).filterMap fun w => x.table[n].ways[w] :=
  allWays_filterMap fun n w => x.table[n].ways[w]

theorem kinds_length (stations : List Station) (k : StationKind) :
    ((stations.map fun e => e.kind).filter (· == k)).length = (stations.filter fun e => decide (e.kind = k)).length := by
  rw [List.filter_map, List.length_map]
  rfl

theorem bindings_eq (drives cameras : List UpDown) : (drives ++ cameras).flatMap (fun b => byte (upDownCode b))
    = drives.map (fun b => if b = .up then 0 else 1) ++ cameras.map fun b => if b = .up then 0 else 1 := by
  rw [List.flatMap_append, funext upDownCode_bit, List.map_eq_flatMap, List.map_eq_flatMap]

theorem sixteenNos_eq : sixteenNos = List.finRange 16 := by decide

theorem camerasOverdue_eq_someWorn (s : State) : camerasOverdue s.tmu
    = someWorn s [.camera 0, .camera 1, .camera 2, .camera 3, .camera 4, .camera 5] := by
  rw [camerasOverdue_eq, someWorn]
  refine decide_eq_decide.2 ?_
  simp [Fin.exists_fin_succ]

theorem gateOverdue_eq_someWorn (s : State) : gateOverdue s.tmu = someWorn s [.gate] := by
  rw [gateOverdue_eq, someWorn]
  simp

theorem tableAndStateReadersAnswer : TableAndStateReadersAnswer := by
  refine fun s h => ⟨?_, ?_, ?_, ?_, ?_, ?_, ?_, ?_⟩
  · refine reads_of_taken h execSwitchStatus rfl rfl ?_
    dsimp only
    rw [someBlocked_eq, someAlarm_eq, kinds_length, kinds_length, stations_eq, bindings_eq]
    simp only [byte, List.append_assoc, List.cons_append, List.nil_append]
    rfl
  · exact reads_of_taken h execAccessStatus rfl rfl rfl
  · exact reads_of_taken h execGrantRead rfl rfl rfl
  · exact reads_of_taken h execWatchRead rfl rfl rfl
  · refine reads_of_taken h execClockStatus rfl rfl ?_
    rw [inHoldover_eq]
    rfl
  · refine reads_of_taken h execAccountRead rfl rfl ?_
    rw [camerasOverdue_eq_someWorn, gateOverdue_eq_someWorn]
    rfl
  · refine reads_of_taken h execPermitStatus rfl rfl ?_
    rw [sixteenNos_eq]
    rfl
  · exact reads_of_taken h execIdentity rfl rfl rfl

/-! ## The last subject of a watch -/

theorem optional_one (n : Nat) : optional 1 (some n) = [1, BitVec.ofNat 8 n] :=
  congrArg (1#8 :: ·) (Wire.be_one n)

theorem subjectFields_length {kind : WatchKind} {subject : WatchSubject} (h : subjectSuits kind subject) :
    (subjectFields subject).length = subjectWidth kind := by
  match kind, subject, h with
  | .serial .., .serial .., _ => simp [subjectFields, subjectWidth]
  | .axisPhase .., .axisPhase .., _ => simp [subjectFields, subjectWidth]
  | .cameraNg .., .cameraNg .., _ => simp [subjectFields, subjectWidth]
  | .station .., .station .., _ => simp [subjectFields, subjectWidth]

theorem lastSubjectsTakeTheirBytes : LastSubjectsTakeTheirBytes := by
  refine ⟨fun kind => ⟨subjectWidth kind, rfl, fun subject hsuits =>
    congrArg (· + 1) (subjectFields_length hsuits)⟩, fun kind serial stage departure => ?_,
    fun kind k phase serial holds cause => ?_, fun kind k n serial => rfl, fun kind a p admits => ?_⟩
  · match departure with
    | none => rfl
    | some (how, none) =>
      rw [lastSubjectBytes, subjectFields, Option.map_some, optional_one]
      simp only [byte, List.append_assoc]
      rfl
    | some (how, some reason) =>
      rw [lastSubjectBytes, subjectFields, Option.map_some, Option.bind_some, Option.map_some, optional_one, optional_one]
      simp only [byte, List.append_assoc]
      rfl
  · rw [lastSubjectBytes, subjectFields, yesNo_eq]
    cases cause with
    | none => rfl
    | some cause =>
      rw [Option.map_some, optional_one]
      rfl
  · cases admits <;> rfl

/-- Settles O52: the readers answer what their part holds, and change nothing. -/
theorem readersAnswerAndChangeNothing : Obligations.ReadersAnswerAndChangeNothing :=
  ⟨lineAndUnitReadersAnswer, tableAndStateReadersAnswer, lastSubjectsTakeTheirBytes⟩

end Sys2Proof.Readers
end

section
/-! SUPPORT. O54: what an idle part takes when it is due, and what a microsecond changes (R191 to R194). -/

namespace Sys2Proof.Idle

open Sys2Proof Sys2Proof.Machine Sys2Proof.Safety Sys2Proof.Claims Sys2Proof.Invariants Sys2Proof.Permit Sys2Proof.Cabinet

variable {s : State} {c d : Instr} {k : AxisNo} {a b : Axis}

/-! ## What is due -/

theorem mem_dueIf {due : Bool} : c ∈ dueIf due d ↔ c = d ∧ due = true := by
  cases due <;> simp [dueIf]

theorem reached_iff (deadline : Option RunTime) (s : State) : reached deadline s.now = true ↔ come deadline s := by
  cases deadline with
  | none => simp [reached, come]
  | some t =>
    simp only [reached, come, Option.any_some, Option.some.injEq, exists_eq_left']
    exact decide_eq_true_iff

theorem inMotion_eq_true_iff (a : Axis) : a.inMotion = true ↔ a.profile ≠ none := by
  rw [Axis.inMotion, Option.isSome_iff_ne_none]

theorem goesOn_iff (a : Axis) (P : Prop) :
    ((a.inMotion = false ∨ (a.remaining == some 0) = false) ∧ a.profile ≠ none ∧ P)
      ↔ a.profile ≠ none ∧ a.remaining ≠ some 0 ∧ P := by
  rw [← inMotion_eq_true_iff, beq_eq_false_iff_ne]
  cases a.inMotion <;> simp

theorem mem_axisDue : c ∈ axisDue s k ↔ axisEventDue s k c := by
  simp only [axisDue, axisEventDue, List.mem_append, mem_dueIf, reached_iff, Bool.and_eq_true, inMotion_eq_true_iff,
    Axis.pulseDue, beq_iff_eq, bne_iff_ne, State.limitActive, State.homeActive, Bool.not_eq_true', decide_eq_true_eq, or_assoc,
    and_assoc, Bool.and_eq_false_iff, goesOn_iff]

theorem mem_grantDue {slot : Fin 4} : c ∈ grantDue s slot
    ↔ ∃ g, c = .grantExpiry slot ∧ s.acu.grants[slot] = some g ∧ g.state = .opened ∧ g.expiresAt ≤ s.tmu.now := by
  rw [grantDue, mem_dueIf, Option.any_eq_true, ← exists_and_left]
  refine exists_congr fun g => and_congr_right fun _ => and_congr Iff.rfl ?_
  rw [Bool.and_eq_true, beq_iff_eq]
  exact and_congr_right fun _ => decide_eq_true_iff

theorem extensionDue_iff_run (s : State) (src : FaultSource) : extensionDue s (sourceNo src) = true ↔ extensionRun s src := by
  rw [extensionDue_iff, inEffectNow_iff, extensionRun]
  refine and_congr_right fun henable => and_congr_right fun hmode => and_congr_right fun _ => ?_
  simp [henable, hmode]

theorem mem_sourcesDue : c ∈ sixteenNos.flatMap (sourceDue s) ↔ ∃ src, c = .extensionExpiry src ∧ extensionRun s src := by
  have hall : ∀ n : Fin 16, n ∈ sixteenNos := by decide
  have hnumber : ∀ n : Fin 16, sourceNo (sourceOfNo n) = n := by decide
  rw [List.mem_flatMap]
  constructor
  · rintro ⟨n, -, hn⟩
    obtain ⟨rfl, hdue⟩ := mem_dueIf.1 hn
    exact ⟨sourceOfNo n, rfl, (extensionDue_iff_run s _).1 (by rwa [hnumber])⟩
  · rintro ⟨src, rfl, hrun⟩
    exact ⟨sourceNo src, hall _, mem_dueIf.2 ⟨by rw [sourceOfNo_sourceNo], (extensionDue_iff_run s src).2 hrun⟩⟩

theorem mem_forgetDue : c ∈ forgetDue s
    ↔ ∃ f rest, c = .forgetExpiry f.address ∧ s.sws.forgets = f :: rest ∧ f.sentAt + 2000000 ≤ s.tmu.now := by
  unfold forgetDue
  split
  next f rest hforgets =>
    rw [mem_dueIf, hforgets]
    constructor
    · rintro ⟨rfl, hdue⟩
      exact ⟨f, rest, rfl, rfl, of_decide_eq_true hdue⟩
    · rintro ⟨g, others, rfl, hcons, hdue⟩
      obtain ⟨rfl, -⟩ := List.cons.inj hcons
      exact ⟨rfl, decide_eq_true hdue⟩
  next hforgets =>
    simp [hforgets]

/-- Each axis in turn, each camera in turn, each grant in turn. -/
theorem mem_flatMap_of_all {α : Type} {l : List α} (hall : ∀ x, x ∈ l) (f : α → List Instr) :
    c ∈ l.flatMap f ↔ ∃ x, c ∈ f x := by
  simp [List.mem_flatMap, hall]

theorem requestDue_iff (s : State) : requestDue s = true ↔ s.lnk.inHand = none ∧ s.lnk.queue ≠ [] := by
  simp [requestDue]

theorem mem_dueCommands : c ∈ dueCommands s ↔ isDue s c := by
  have haxes : ∀ k, k ∈ axisNos := by decide
  have hcameras : ∀ k, k ∈ cameraNos := by decide
  have hgrants : ∀ k, k ∈ fourNos := by decide
  rw [isDue]
  simp only [dueCommands, List.mem_append, mem_dueIf, reached_iff, mem_forgetDue, mem_sourcesDue, mem_flatMap_of_all haxes,
    mem_flatMap_of_all hcameras, mem_flatMap_of_all hgrants, mem_axisDue, mem_grantDue, cameraDue, Bool.and_eq_true,
    firstSettingDue_iff, requestDue_iff, beq_iff_eq, or_assoc,
    decide_eq_true_eq, Bool.not_eq_true', List.isEmpty_eq_false_iff]
  rfl

/-! ## The first of what is due -/

theorem dueEventsByTheirDeadlines : DueEventsByTheirDeadlines := by
  refine fun s => ⟨fun c hc => mem_dueCommands.1 (List.mem_of_head? hc), ?_, fun c hc honly => ?_⟩
  · rw [dueCommand, List.head?_eq_none_iff, List.eq_nil_iff_forall_not_mem]
    exact forall_congr' fun c => not_congr mem_dueCommands
  · match hfirst : dueCommand s with
    | some d => rw [honly d (mem_dueCommands.1 (List.mem_of_head? hfirst))]
    | none =>
      rw [dueCommand, List.head?_eq_none_iff] at hfirst
      exact absurd (mem_dueCommands.2 hc) (hfirst ▸ List.not_mem_nil)

/-! ## A microsecond -/

theorem rampedOn_of_rampsOn (h : rampsOn a b) : a.rampedOn = b := by
  rcases h with ⟨hprofile, rfl⟩ | ⟨p, hprofile, hramp, hbelow, rfl⟩ | ⟨p, hprofile, hramp, htop, rfl⟩
    | ⟨p, hprofile, hramp, rfl⟩ | ⟨hprofile, hramp, rfl⟩
  · simp only [Axis.rampedOn, hprofile]
  · simp only [Axis.rampedOn, hprofile, hramp, Nat.min_eq_left hbelow.le, if_neg hbelow.ne]
  · simp only [Axis.rampedOn, hprofile, hramp, Nat.min_eq_right htop, if_true]
  · simp only [Axis.rampedOn, hprofile, hramp]
  · obtain ⟨p, hprofile⟩ := Option.ne_none_iff_exists'.1 hprofile
    rcases hramp with hramp | hramp
    · simp only [Axis.rampedOn, hprofile, hramp]
    · simp only [Axis.rampedOn, hprofile, hramp]

theorem ramped_of_rampsTo (h : rampsTo a b) : a.ramped = b := by
  rcases h with ⟨n, hlead, rfl⟩ | ⟨hlead, rfl⟩ | ⟨hlead, hramps⟩
  · simp [Axis.ramped, hlead, Axis.awaitFirst]
  · simp [Axis.ramped, hlead, Axis.awaitFirst]
  · rw [ramped_pulsing hlead, rampedOn_of_rampsOn hramps]

theorem rampAxes_of_rampsTo {v : Vector Axis 8} (h : ∀ k : AxisNo, rampsTo (s.axis k) v[k]) :
    s.rampAxes = { s with fmu := { s.fmu with axes := v } } := by
  have haxes : s.fmu.axes.map Axis.ramped = v := by
    refine Vector.ext fun i hi => ?_
    rw [Vector.getElem_map]
    exact ramped_of_rampsTo (h ⟨i, hi⟩)
  rw [State.rampAxes, haxes]
  rfl

theorem advanceHall_setFeed (s : State) (feed : List Inputs) : (s.setFeed feed).advanceHall = s.advanceHall.setFeed feed := by
  unfold State.advanceHall
  dsimp only [setFeed_tmu]
  split
  · rfl
  · rfl
  · split <;> rfl

theorem advanceTime_setFeed (s : State) (feed : List Inputs) : (s.setFeed feed).advanceTime = s.advanceTime.setFeed feed := by
  unfold State.advanceTime
  rw [advanceHall_setFeed]
  rfl

theorem advanceTime_keeps (s : State) : Keeps [] s s.advanceTime := (Keeps.refl [] s).advanceTime

theorem tick_held (h : s.phase = .held) : tick s = s.takeFeed := if_pos h

theorem tick_awake (h : s.phase ≠ .held) : tick s = (s.advanceTime.rampAxes).takeFeed := if_neg h

theorem takeFeed_nil (h : s.feed = []) : s.takeFeed = s := by
  rw [State.takeFeed, h]

theorem takeFeed_cons {levels : Inputs} {rest : List Inputs} (h : s.feed = levels :: rest) :
    s.takeFeed = { s with inputs := levels, feed := rest } := by
  rw [State.takeFeed, h]
  rfl

theorem ramped_feed (s : State) : s.advanceTime.rampAxes.feed = s.feed := (advanceTime_keeps s).feed

theorem tick_takes_levels {levels : Inputs} {rest : List Inputs} (hawake : s.phase ≠ .held) (hfeed : s.feed = levels :: rest) :
    tick s = { tick { s with feed := [] } with inputs := levels, feed := rest } := by
  have hempty : tick { s with feed := [] } = s.advanceTime.rampAxes.setFeed [] := by
    refine (tick_awake (s := s.setFeed []) hawake).trans ?_
    rw [advanceTime_setFeed]
    exact takeFeed_nil rfl
  rw [tick_awake hawake, takeFeed_cons ((ramped_feed s).trans hfeed), hempty]
  rfl

theorem tick_of_rampsTo {v : Vector Axis 8} (hawake : s.phase ≠ .held) (hfeed : s.feed = [])
    (hramps : ∀ k : AxisNo, rampsTo (s.axis k) v[k]) :
    tick s = { s.advanceTime with fmu := { s.fmu with axes := v } } := by
  have hfmu : s.advanceTime.fmu = s.fmu := (advanceTime_keeps s).unwritten .fmu (by decide)
  have haxes (k : AxisNo) : rampsTo (s.advanceTime.axis k) v[k] := by
    rw [State.axis, hfmu]
    exact hramps k
  rw [tick_awake hawake, takeFeed_nil ((ramped_feed s).trans hfeed), rampAxes_of_rampsTo haxes, hfmu]

/-! ## Idle steps -/

theorem step_idle (h : s.pending = []) (hidle : idleCommand s = none) : step s = .next (tick s) := by
  rw [step, h]
  simp only [hidle]

theorem step_command (h : s.pending = []) (hcommand : idleCommand s = some c) : step s = exec c s := by
  rw [step, h]
  simp only [hcommand]

theorem idleCommand_report {rest : List Instr} (hrunning : running s) (h : s.reports = c :: rest) : idleCommand s = some c := by
  rw [idleCommand, if_pos (show s.phase = .running from hrunning), h]

theorem idleCommand_due (hrunning : running s) (h : s.reports = []) : idleCommand s = dueCommand s := by
  rw [idleCommand, if_pos (show s.phase = .running from hrunning), h]

theorem idleCommand_none (h : ¬ running s ∨ (s.reports = [] ∧ dueCommand s = none)) : idleCommand s = none := by
  by_cases hrunning : running s
  · obtain ⟨hreports, hdue⟩ := h.resolve_left (not_not.2 hrunning)
    rw [idleCommand_due hrunning hreports, hdue]
  · exact if_neg hrunning

theorem idleStepsTakeWhatIsDueOrLetTimePass : IdleStepsTakeWhatIsDueOrLetTimePass := by
  refine fun s hidle => ⟨fun c rest hrunning hreports => step_command hidle (idleCommand_report hrunning hreports),
    fun c hrunning hreports hdue => step_command hidle ((idleCommand_due hrunning hreports).trans hdue),
    fun h => step_idle hidle (idleCommand_none h), fun levels rest hfeed => ⟨fun hheld => ?_, fun hawake => ?_⟩,
    fun hfeed hheld => ?_, fun v hfeed hawake hramps => tick_of_rampsTo hawake hfeed hramps⟩
  · rw [tick_held hheld, takeFeed_cons hfeed]
  · exact tick_takes_levels hawake hfeed
  · rw [tick_held hheld, takeFeed_nil hfeed]

/-- Settles O54: an idle part takes its front report, then what is due, and else lets a microsecond pass. -/
theorem anIdlePartTakesWhatIsDueOrLetsTimePass : Obligations.AnIdlePartTakesWhatIsDueOrLetsTimePass :=
  ⟨idleStepsTakeWhatIsDueOrLetTimePass, dueEventsByTheirDeadlines⟩

end Sys2Proof.Idle
end
